-- ==== Sys2Proof/Word.lean ====
section
/-! DEFINITION. The words, numbers and finite tables the CJ-420 model is built from. -/

namespace Sys2Proof

/-- One byte on the link, on the beacon line or in a configuration image. -/
abbrev Byte := BitVec 8

/-- A junction time in ds, modulo 2^32 (R1). -/
abbrev Time := BitVec 32

/-- A statistics counter or error count, 0 to 65,535 (00_scope.md, Counters). -/
abbrev Counter := BitVec 16

/-- A transition id, 0 to 255 (R36). -/
abbrev TransId := BitVec 8

/-- Signal group G1 to G24; `0` is G1. -/
abbrev GroupId := Fin 24

/-- Loop channel L1 to L16; `0` is L1. -/
abbrev ChannelId := Fin 16

/-- Contact input I1 to I16; `0` is I1. -/
abbrev InputId := Fin 16

/-- Beacon B0 to B15. -/
abbrev BeaconId := Fin 16

/-- Tram approach A1 to A4; `0` is A1. -/
abbrev ApproachId := Fin 4

/-- Measuring engine 1 to 4; `0` is engine 1 (R91). -/
abbrev EngineId := Fin 4

/-- Slot 0 to 7 of the transition table (R35). -/
abbrev SlotId := Fin 8

/-- Entry 0 to 7 of the tram approach list (R130). -/
abbrev EntryId := Fin 8

/-- The value a table holds at an index. -/
def look {α : Type} {n : Nat} (v : Vector α n) (i : Fin n) : α := v[i.val]

/-- The table with the value at one index replaced. -/
def put {α : Type} {n : Nat} (v : Vector α n) (i : Fin n) (a : α) : Vector α n :=
  v.set i.val a i.isLt

/-- The table whose value at each index is given by a rule of the index. -/
def tabulate {α : Type} {n : Nat} (f : Fin n → α) : Vector α n := Vector.ofFn f

end Sys2Proof
end

