-- ==== Sys2Proof/Config.lean ====
section
/-! DEFINITION. The configuration image as the link writes and reads it: eight sections of numbered
records, each field of the width R165 gives it, its value kept as written. What the fields mean is in
Sys2Proof/Machine/Image.lean. The model has no other implementation constant. -/

namespace Sys2Proof

/-- The ten figures of the JUNCTION section, in the order of their records (R165). -/
inductive Figure where
  | startFlash | startRed | supervision | flashOn | flashOff
  | beaconSpeed | defaultSpeed | holdMargin | lostMargin | lateThreshold
  deriving DecidableEq, Repr

/-- A record of the GROUPS section, 9 bytes (R165). -/
structure GroupCfg where
  kind : Byte
  minGreen : BitVec 16
  clearTime : BitVec 16
  prepare : Byte
  minRed : Byte
  maxHold : BitVec 16
  deriving DecidableEq, Repr

/-- A record of the LOOPS section, 8 bytes (R89, R165). -/
structure LoopCfg where
  function : Byte
  target : Byte
  periods : BitVec 16
  onThreshold : BitVec 16
  presence : BitVec 16
  deriving DecidableEq, Repr

/-- A record of the INPUTS section, 3 bytes (R107, R165). -/
structure InputCfg where
  function : Byte
  target : Byte
  debounce : Byte
  deriving DecidableEq, Repr

/-- A record of the BEACONS section, 2 bytes (R125, R165). -/
structure BeaconCfg where
  function : Byte
  approach : Byte
  deriving DecidableEq, Repr

/-- A configuration image (R165). Records and matrix entries are numbered from 0. -/
structure Image where
  junction : Vector (BitVec 16) 10
  groups : Vector GroupCfg 24
  matrix : Vector Byte 576
  loops : Vector LoopCfg 16
  inputs : Vector InputCfg 16
  beacons : Vector BeaconCfg 16
  routes : Vector Byte 12
  lines : Vector Byte 256
  deriving DecidableEq, Repr

/-- The eight sections of an image, in the order of their codes 0 to 7 (R164, R165). -/
inductive Section where
  | junction | groups | matrix | loops | inputs | beacons | routes | lines
  deriving DecidableEq, Repr

/-- What the nonvolatile store holds (R165, R170): an image with the CRC word beside it, or contents
whose CRC fails and which no command can see (a write cut short, a store never written). -/
inductive Store where
  | holds (image : Image) (crc : BitVec 16)
  | spoiled
  deriving DecidableEq, Repr

end Sys2Proof
end

