-- ==== Sys2Proof/Syntax.lean ====
section
/-! DEFINITION. The commands of the CJ-420: one constructor of `Instr` per row of
spec/opcode_table.json, with the operands the row's rule reads. A request carries the role whose
address it came to and its n parameter bytes (R152, R164); its meaning reads the bytes. -/

namespace Sys2Proof

/-- The four roles, by link address (R151). -/
inductive Role where
  | plan | central | tramnet | service
  deriving DecidableEq, Repr

/-- The three lamp circuits of a group (R3). -/
inductive Circuit where
  | a | b | c
  deriving DecidableEq, Repr

/-- The stamps of a group record that are dropped at 65,535 ds of age (R8). -/
inductive Stamp where
  | greenEnd | redEntry | holdUntil | greenStart
  deriving DecidableEq, Repr

/-- The pins read at the end of the power-on reset: the five straps (R172), and the level of the
beacon line, from which a break can be counted (R120). -/
structure ResetPins where
  addr : BitVec 3
  smode : Bool
  astart : Bool
  bcn : Bool
  deriving DecidableEq, Repr

/-- How a request frame closed (R152): by a STOP, or by a START in its place. -/
inductive FrameClose where
  | stop
  | start
  deriving DecidableEq, Repr

/-- The frame in progress when LCK stayed low for 25 ms (R153): a request frame, whose check byte had
or had not yet been acknowledged, or a reply frame. -/
inductive TimedFrame where
  | request (checkAcknowledged : Bool)
  | reply
  deriving DecidableEq, Repr

/-- The commands, one per row of spec/opcode_table.json. -/
inductive Instr where
  /-- POWER_ON_RESET (R171). -/
  | powerOnReset (pins : ResetPins)
  /-- AUTOSTART (R73). -/
  | autostart
  /-- JUNCTION_TIME_ADVANCE (R1). -/
  | junctionTimeAdvance
  /-- FLASH_PHASE_CHANGE (R59). -/
  | flashPhaseChange
  /-- STAMP_DROP (R8). -/
  | stampDrop (g : GroupId) (stamp : Stamp)
  /-- MINIMUM_RED_EXPIRES (R10). -/
  | minimumRedExpires (g : GroupId)
  /-- NOW_REACHES_S (R11). -/
  | nowReachesS (g : GroupId)
  /-- NOW_REACHES_T (R12). -/
  | nowReachesT (g : GroupId)
  /-- MINIMUM_GREEN_EXPIRES (R13). -/
  | minimumGreenExpires (g : GroupId)
  /-- NOW_REACHES_HOLD_UNTIL (R14). -/
  | nowReachesHoldUntil (g : GroupId)
  /-- CLEAR_TIME_EXPIRES (R15). -/
  | clearTimeExpires (g : GroupId)
  /-- START_FLASH_EXPIRES (R61). -/
  | startFlashExpires
  /-- START_RED_EXPIRES (R62). -/
  | startRedExpires
  /-- SUPERVISION_EXPIRES (R67). -/
  | supervisionExpires
  /-- LAMP_SENSE_SAMPLE (R77): bit 3k, 3k+1, 3k+2 is the sense of circuit A, B, C of group k+1. -/
  | lampSenseSample (sense : BitVec 72)
  /-- UNWANTED_PROCEED (R80). -/
  | unwantedProceed (g : GroupId)
  /-- RED_LOST (R81). -/
  | redLost (g : GroupId)
  /-- LAMP_OUT (R82), on circuit B or C. -/
  | lampOut (g : GroupId) (circuit : Circuit)
  /-- STUCK_ON (R82), on circuit A or B. -/
  | stuckOn (g : GroupId) (circuit : Circuit)
  /-- CLEAR_LOCKOUT_CHECK_PASSES (R71). -/
  | clearLockoutCheckPasses
  /-- NO_OSC (R92), on the channel the engine is measuring. -/
  | noOsc (engine : EngineId)
  /-- LOW_FREQ (R92), on the channel the engine is measuring. -/
  | lowFreq (engine : EngineId)
  /-- MEASUREMENT_COMPLETE (R93), with the count of the channel the engine is measuring. -/
  | measurementComplete (engine : EngineId) (count : Nat)
  /-- TRACKING_MOMENT (R97). -/
  | trackingMoment
  /-- PRESENCE_LIMIT_EXPIRES (R99). -/
  | presenceLimitExpires (channel : ChannelId)
  /-- INPUT_SAMPLE (R108): bit k is the level of pin CIN(k+1). -/
  | inputSample (pins : BitVec 16)
  /-- DEBOUNCED_STATE_CHANGE (R108). -/
  | debouncedStateChange (input : InputId)
  /-- GAP_VALUE_SATURATES (R116). -/
  | gapValueSaturates (g : GroupId)
  /-- FRAMING_ERROR (R119). -/
  | framingError
  /-- BYTE_COMPLETE (R121). -/
  | byteComplete
  /-- GAP_TIMER_EXPIRES (R122). -/
  | gapTimerExpires
  /-- BREAK (R120). -/
  | lineBreak
  /-- BROKEN_WAIT_COMPLETE (R120). -/
  | brokenWaitComplete
  /-- HOLD_TIMER_EXPIRES (R139). -/
  | holdTimerExpires (entry : EntryId)
  /-- LOST_TIMER_EXPIRES (R145). -/
  | lostTimerExpires (entry : EntryId)
  /-- REQUEST_FRAME_DROP (R152): the bytes of the frame, address byte first, and how it closed. -/
  | requestFrameDrop (bytes : List Byte) (close : FrameClose)
  /-- LINK_CLOCK_TIMEOUT (R153). -/
  | linkClockTimeout (role : Role) (frame : TimedFrame)
  /-- REPLY_READ (R155): how many of the bytes the part sends the master acknowledges. -/
  | replyRead (role : Role) (acknowledged : Nat)
  /-- REQUEST_CODE_UNKNOWN (R154). -/
  | requestCodeUnknown (role : Role) (code : Byte)
  /-- READ_JUNCTION (R158). -/
  | readJunction (role : Role) (params : List Byte)
  /-- READ_GROUPS (R158). -/
  | readGroups (role : Role) (params : List Byte)
  /-- READ_TRANSITIONS (R56). -/
  | readTransitions (role : Role) (params : List Byte)
  /-- READ_LOOPS (R104). -/
  | readLoops (role : Role) (params : List Byte)
  /-- READ_TRAMS (R149). -/
  | readTrams (role : Role) (params : List Byte)
  /-- READ_COUNTS (R158). -/
  | readCounts (role : Role) (params : List Byte)
  /-- NOTICE_POLL (R160). -/
  | noticePoll (role : Role) (params : List Byte)
  /-- KEEPALIVE (R68). -/
  | keepalive (role : Role) (params : List Byte)
  /-- DEMAND (R114). -/
  | demand (role : Role) (params : List Byte)
  /-- PRIORITY_INHIBIT (R146). -/
  | priorityInhibit (role : Role) (params : List Byte)
  /-- TRANSITION (R37). -/
  | transition (role : Role) (params : List Byte)
  /-- CANCEL_TRANSITION (R41). -/
  | cancelTransition (role : Role) (params : List Byte)
  /-- MODE (R60). -/
  | mode (role : Role) (params : List Byte)
  /-- GROUP_INHIBIT (R42). -/
  | groupInhibit (role : Role) (params : List Byte)
  /-- TRAM_CHECK_IN (R133). -/
  | tramCheckIn (role : Role) (params : List Byte)
  /-- TRAM_CHECK_OUT (R143). -/
  | tramCheckOut (role : Role) (params : List Byte)
  /-- TRAM_CANCEL (R144). -/
  | tramCancel (role : Role) (params : List Byte)
  /-- WRITE_CONFIG (R166). -/
  | writeConfig (role : Role) (params : List Byte)
  /-- COMMIT_CONFIG (R167). -/
  | commitConfig (role : Role) (params : List Byte)
  /-- STORE_WRITE_END (R170): what the store holds at its end, `none` when exactly what was written. -/
  | storeWriteEnd (held : Option Store)
  /-- DISCARD_STAGING (R166). -/
  | discardStaging (role : Role) (params : List Byte)
  /-- READ_CONFIG (R166). -/
  | readConfig (role : Role) (params : List Byte)
  /-- CLEAR_LOCKOUT (R71). -/
  | clearLockout (role : Role) (params : List Byte)
  /-- CLEAR_LAMP_FAULTS (R85). -/
  | clearLampFaults (role : Role) (params : List Byte)
  /-- CLEAR_COUNTS (R162). -/
  | clearCounts (role : Role) (params : List Byte)
  /-- RESTART (R173). -/
  | restart (role : Role) (params : List Byte)
  /-- BEACON_LINE_SAMPLE (R119): the level of BCN in one sub-cell. -/
  | beaconLineSample (level : Bool)
  deriving DecidableEq, Repr

end Sys2Proof
end

