-- ==== Sys2Proof/Decode.lean ====
section
/-! DEFINITION. Reading a command from a word of the opcode table. No row of spec/opcode_table.json gives
bits: the commands of the CJ-420 are events of its pins and clock and requests of its link, not encoded
words. The request codes of R164 are read in Sys2Proof/Machine/Link.lean and Operands.lean. -/

namespace Sys2Proof

/-- The command a word spells by the table's bits: none, because no row of the table gives bits. -/
def decodeTableWord (_nbits _w : Nat) : Option Instr := none

end Sys2Proof
end

