-- ==== Sys2Proof/Machine/Time.lean ====
section
/-! DEFINITION. Comparing junction times (R2), ages, saturating counters, and the byte order of the
link and the image (R164, R165). -/

namespace Sys2Proof.Machine

open Sys2Proof

/-- A time `a` is at or after a time `b` (R2): the difference modulo 2^32 is below 2^31. -/
def atOrAfter (a b : Time) : Bool := decide ((a - b).toNat < 2 ^ 31)

/-- A time `a` is after a time `b` (R2). -/
def after (a b : Time) : Bool := atOrAfter a b && a != b

/-- The time `d` ds after `t`, modulo 2^32 (R2). -/
def plusDs (t : Time) (d : Nat) : Time := t + BitVec.ofNat 32 d

/-- A timer of duration `d` started at `t` has expired at `now` (R2). -/
def expired (now t : Time) (d : Nat) : Bool := atOrAfter now (plusDs t d)

/-- The later of two times, by the comparison of R2. -/
def later (a b : Time) : Time := if after a b then a else b

/-- The whole ds that have passed since `t`. -/
def age (now t : Time) : Nat := (now - t).toNat

/-- An age as reads report it: it saturates at 65,535 ds (00_scope.md, Counters). -/
def reportAge (now t : Time) : Nat := min (age now t) 65535

/-- A kept time is held at `now - 65,535` once it is that old (R8, R90, R125). -/
def heldTime (now t : Time) : Time := if 65535 < age now t then plusDs now (2 ^ 32 - 65535) else t

/-- The stamp has reached the age at which it is dropped (R8). -/
def stampDue (now t : Time) : Bool := expired now t 65535

/-- One more on a counter that saturates at 65,535 (00_scope.md, Counters). -/
def satInc (c : Counter) : Counter := if c = 65535#16 then c else c + 1#16

/-- The two bytes of a 16-bit number, most significant first (R164). -/
def bytes16 (v : BitVec 16) : List Byte := [v.extractLsb' 8 8, v.extractLsb' 0 8]

/-- The four bytes of a 32-bit number, most significant first (R164). -/
def bytes32 (v : BitVec 32) : List Byte :=
  [v.extractLsb' 24 8, v.extractLsb' 16 8, v.extractLsb' 8 8, v.extractLsb' 0 8]

/-- The 16-bit number of two bytes, most significant first (R164). -/
def word16 (hi lo : Byte) : BitVec 16 := hi ++ lo

/-- A number as one byte. -/
def byte (n : Nat) : Byte := BitVec.ofNat 8 n

/-- A number as two bytes, most significant first. -/
def num16 (n : Nat) : List Byte := bytes16 (BitVec.ofNat 16 n)

/-- A number as four bytes, most significant first. -/
def num32 (n : Nat) : List Byte := bytes32 (BitVec.ofNat 32 n)

/-- A signed number as two bytes in two's complement (R164). -/
def int16 (z : Int) : List Byte := bytes16 (BitVec.ofInt 16 z)

/-- A byte whose bits 0, 1, 2, … are given, the rest 0. -/
def bits (bs : List Bool) : Byte :=
  bs.foldr (fun b acc => (acc <<< 1) ||| (if b then 1#8 else 0#8)) 0#8

/-- The preferred order of a list's members: those of `pref` first, in its order, then the rest. -/
def orderBy {α : Type} [DecidableEq α] (pref all : List α) : List α :=
  let first := pref.foldl (fun acc a => if a ∈ all ∧ a ∉ acc then acc ++ [a] else acc) []
  first ++ all.filter (fun a => decide (a ∉ first))

end Sys2Proof.Machine
end

