-- ==== Sys2Proof/Machine/Image.lean ====
section
/-! DEFINITION. What the fields of a configuration image mean (R5, R20, R89, R107, R118, R125, R131,
R165), the default image (R165), and the bytes of its records (R165). -/

namespace Sys2Proof.Machine

open Sys2Proof

/-- The kind of a group (R3). -/
inductive Kind where
  | unused | veh | ped | tram
  deriving DecidableEq, Repr

/-- The function of a loop channel (R89). -/
inductive LoopFunction where
  | disabled | demand | extend | count | tram
  deriving DecidableEq, Repr

/-- The function of a contact input (R107). -/
inductive InputFunction where
  | unused | demand | extend | tramStop
  deriving DecidableEq, Repr

/-- The function of a beacon (R125). -/
inductive BeaconFunction where
  | pre | stop | off
  deriving DecidableEq, Repr

/-- The route of a tram through the junction (R124, R131). -/
inductive Route where
  | left | ahead | right
  deriving DecidableEq, Repr

/-- The record number of a JUNCTION figure (R165). -/
def figureIndex : Figure → Fin 10
  | .startFlash => 0 | .startRed => 1 | .supervision => 2 | .flashOn => 3 | .flashOff => 4
  | .beaconSpeed => 5 | .defaultSpeed => 6 | .holdMargin => 7 | .lostMargin => 8 | .lateThreshold => 9

/-- The value of a JUNCTION figure (R165). -/
def figure (img : Image) (f : Figure) : Nat := (look img.junction (figureIndex f)).toNat

/-- A kind by its code (R164); a code outside the table is taken as UNUSED, which an active image,
having passed validation, never holds (log 29). -/
def kindOfCode (c : Byte) : Kind :=
  match c.toNat with
  | 1 => .veh
  | 2 => .ped
  | 3 => .tram
  | _ => .unused

/-- The code of a kind (R164). -/
def kindCode : Kind → Nat
  | .unused => 0 | .veh => 1 | .ped => 2 | .tram => 3

/-- The configured kind of a group (R3). -/
def kindIn (img : Image) (g : GroupId) : Kind := kindOfCode (look img.groups g).kind

/-- The group is a used group (00_scope.md, Terms). -/
def usedIn (img : Image) (g : GroupId) : Bool := kindIn img g != .unused

/-- Minimum green of a group in ds (R5). -/
def minGreenIn (img : Image) (g : GroupId) : Nat := (look img.groups g).minGreen.toNat

/-- Clear time of a group in ds (R5). -/
def clearTimeIn (img : Image) (g : GroupId) : Nat := (look img.groups g).clearTime.toNat

/-- Prepare time of a group in ds; fixed 0 for PED (R5). -/
def prepareIn (img : Image) (g : GroupId) : Nat :=
  if kindIn img g = .ped then 0 else (look img.groups g).prepare.toNat

/-- Minimum red of a group in ds (R5). -/
def minRedIn (img : Image) (g : GroupId) : Nat := (look img.groups g).minRed.toNat

/-- Maximum hold of a TRAM group in ds (R5). -/
def maxHoldIn (img : Image) (g : GroupId) : Nat := (look img.groups g).maxHold.toNat

/-- The index of IG[i][j] in the MATRIX section (R20). -/
def matrixIndex (i j : GroupId) : Fin 576 := ⟨i.val * 24 + j.val, by omega⟩

/-- IG[i][j], the intergreen from losing group i to gaining group j (R20). -/
def igIn (img : Image) (i j : GroupId) : Nat := (look img.matrix (matrixIndex i j)).toNat

/-- Groups i and j conflict: IG[i][j] is not 255 (R21). -/
def conflictIn (img : Image) (i j : GroupId) : Bool := igIn img i j != 255

/-- A group number 1 to 24 (R164). -/
def groupOfNat (n : Nat) : Option GroupId := if h : 0 < n ∧ n ≤ 24 then some ⟨n - 1, by omega⟩ else none

/-- An approach number 1 to 4 (R164). -/
def approachOfNat (n : Nat) : Option ApproachId :=
  if h : 0 < n ∧ n ≤ 4 then some ⟨n - 1, by omega⟩ else none

/-- A loop function by its code (R165). -/
def loopFunctionOfCode (c : Byte) : Option LoopFunction :=
  match c.toNat with
  | 0 => some .disabled
  | 1 => some .demand
  | 2 => some .extend
  | 3 => some .count
  | 4 => some .tram
  | _ => none

/-- An input function by its code (R165). -/
def inputFunctionOfCode (c : Byte) : Option InputFunction :=
  match c.toNat with
  | 0 => some .unused
  | 1 => some .demand
  | 2 => some .extend
  | 3 => some .tramStop
  | _ => none

/-- A beacon function by its code (R165). -/
def beaconFunctionOfCode (c : Byte) : Option BeaconFunction :=
  match c.toNat with
  | 0 => some .pre
  | 1 => some .stop
  | 2 => some .off
  | _ => none

/-- The function of a channel's record (R89); see log 29 for codes no active image holds. -/
def loopFn (c : LoopCfg) : LoopFunction := (loopFunctionOfCode c.function).getD .disabled

/-- The group a DEMAND or EXTEND channel feeds (R89). -/
def loopFeeds (c : LoopCfg) : Option GroupId :=
  if loopFn c = .demand ∨ loopFn c = .extend then groupOfNat c.target.toNat else none

/-- The approach a TRAM channel checks out (R89). -/
def loopChecksOut (c : LoopCfg) : Option ApproachId :=
  if loopFn c = .tram then approachOfNat c.target.toNat else none

/-- The function of an input's record (R107). -/
def inputFn (c : InputCfg) : InputFunction := (inputFunctionOfCode c.function).getD .unused

/-- The group a DEMAND or EXTEND input feeds (R107). -/
def inputFeeds (c : InputCfg) : Option GroupId :=
  if inputFn c = .demand ∨ inputFn c = .extend then groupOfNat c.target.toNat else none

/-- The approach a TRAM_STOP input checks out (R107). -/
def inputChecksOut (c : InputCfg) : Option ApproachId :=
  if inputFn c = .tramStop then approachOfNat c.target.toNat else none

/-- The samples a debounce time of the record needs (R108). -/
def debounceSamples (c : InputCfg) : Nat := c.debounce.toNat / 10

/-- The function of a beacon's entry (R125). -/
def beaconFn (c : BeaconCfg) : BeaconFunction := (beaconFunctionOfCode c.function).getD .off

/-- The number of a route, 0 to 2 (R165). -/
def routeIndex : Route → Nat
  | .left => 0 | .ahead => 1 | .right => 2

/-- A route by its code on the link and in a telegram, 1 to 3 (R164). -/
def routeOfCode (c : Byte) : Option Route :=
  match c.toNat with
  | 1 => some .left
  | 2 => some .ahead
  | 3 => some .right
  | _ => none

/-- The record number of approach k and route r in the ROUTES section (R165). -/
def routeRecord (a : ApproachId) (r : Route) : Fin 12 :=
  ⟨3 * a.val + routeIndex r, by cases r <;> simp [routeIndex] <;> omega⟩

/-- The TRAM group the route table gives for an approach and route, or none (R131). -/
def routeGroupIn (img : Image) (a : ApproachId) (r : Route) : Option GroupId :=
  groupOfNat (look img.routes (routeRecord a r)).toNat

/-- The base level of a line, 0 to 2 (R131). -/
def baseLevelIn (img : Image) (line : Byte) : Nat := min 2 (look img.lines line.toFin).toNat

/-- The default image (R165). -/
def defaultImage : Image where
  junction := #v[100, 50, 60, 5, 5, 9600, 25, 30, 300, 60]
  groups := Vector.replicate 24 { kind := 0, minGreen := 0, clearTime := 0, prepare := 0, minRed := 0, maxHold := 0 }
  matrix := Vector.replicate 576 255
  loops := Vector.replicate 16 { function := 0, target := 0, periods := 256, onThreshold := 20, presence := 3000 }
  inputs := Vector.replicate 16 { function := 0, target := 0, debounce := 50 }
  beacons := Vector.replicate 16 { function := 2, approach := 0 }
  routes := Vector.replicate 12 0
  lines := Vector.replicate 256 0

/-- How many records a section has (R165). -/
def sectionSize : Section → Nat
  | .junction => 10 | .groups => 24 | .matrix => 576 | .loops => 16
  | .inputs => 16 | .beacons => 16 | .routes => 12 | .lines => 256

/-- How many bytes a record of a section has (R165). -/
def recordBytes : Section → Nat
  | .junction => 2 | .groups => 9 | .matrix => 1 | .loops => 8
  | .inputs => 3 | .beacons => 2 | .routes => 1 | .lines => 1

/-- A section by its code (R164). -/
def sectionOfCode (c : Byte) : Option Section :=
  match c.toNat with
  | 0 => some .junction
  | 1 => some .groups
  | 2 => some .matrix
  | 3 => some .loops
  | 4 => some .inputs
  | 5 => some .beacons
  | 6 => some .routes
  | 7 => some .lines
  | _ => none

/-- The bytes of a GROUPS record (R165). -/
def groupCfgBytes (c : GroupCfg) : List Byte :=
  [c.kind] ++ bytes16 c.minGreen ++ bytes16 c.clearTime ++ [c.prepare, c.minRed] ++ bytes16 c.maxHold

/-- The bytes of a LOOPS record (R165). -/
def loopCfgBytes (c : LoopCfg) : List Byte :=
  [c.function, c.target] ++ bytes16 c.periods ++ bytes16 c.onThreshold ++ bytes16 c.presence

/-- The bytes of one record of an image; none past the section's last (R165). -/
def readRecord (img : Image) (sec : Section) (i : Nat) : List Byte :=
  match sec with
  | .junction => if h : i < 10 then bytes16 (look img.junction ⟨i, h⟩) else []
  | .groups => if h : i < 24 then groupCfgBytes (look img.groups ⟨i, h⟩) else []
  | .matrix => if h : i < 576 then [look img.matrix ⟨i, h⟩] else []
  | .loops => if h : i < 16 then loopCfgBytes (look img.loops ⟨i, h⟩) else []
  | .inputs =>
    if h : i < 16 then
      let c := look img.inputs ⟨i, h⟩
      [c.function, c.target, c.debounce]
    else []
  | .beacons =>
    if h : i < 16 then
      let c := look img.beacons ⟨i, h⟩
      [c.function, c.approach]
    else []
  | .routes => if h : i < 12 then [look img.routes ⟨i, h⟩] else []
  | .lines => if h : i < 256 then [look img.lines ⟨i, h⟩] else []

/-- The image with one record written from its bytes (R165, R166). -/
def writeRecord (img : Image) (sec : Section) (i : Nat) (bs : List Byte) : Image :=
  match sec, bs with
  | .junction, [b0, b1] =>
    if h : i < 10 then { img with junction := put img.junction ⟨i, h⟩ (word16 b0 b1) } else img
  | .groups, [b0, b1, b2, b3, b4, b5, b6, b7, b8] =>
    if h : i < 24 then
      let c : GroupCfg :=
        { kind := b0, minGreen := word16 b1 b2, clearTime := word16 b3 b4,
          prepare := b5, minRed := b6, maxHold := word16 b7 b8 }
      { img with groups := put img.groups ⟨i, h⟩ c }
    else img
  | .matrix, [b0] => if h : i < 576 then { img with matrix := put img.matrix ⟨i, h⟩ b0 } else img
  | .loops, [b0, b1, b2, b3, b4, b5, b6, b7] =>
    if h : i < 16 then
      let c : LoopCfg :=
        { function := b0, target := b1, periods := word16 b2 b3,
          onThreshold := word16 b4 b5, presence := word16 b6 b7 }
      { img with loops := put img.loops ⟨i, h⟩ c }
    else img
  | .inputs, [b0, b1, b2] =>
    if h : i < 16 then
      let c : InputCfg := { function := b0, target := b1, debounce := b2 }
      { img with inputs := put img.inputs ⟨i, h⟩ c }
    else img
  | .beacons, [b0, b1] =>
    if h : i < 16 then
      let c : BeaconCfg := { function := b0, approach := b1 }
      { img with beacons := put img.beacons ⟨i, h⟩ c }
    else img
  | .routes, [b0] => if h : i < 12 then { img with routes := put img.routes ⟨i, h⟩ b0 } else img
  | .lines, [b0] => if h : i < 256 then { img with lines := put img.lines ⟨i, h⟩ b0 } else img
  | _, _ => img

/-- The image with consecutive records written from index `i` on; `n` bounds how many. -/
def writeRecords (sec : Section) : Nat → Image → Nat → List Byte → Image
  | 0, img, _, _ => img
  | n + 1, img, i, bs =>
    if bs = [] then img
    else writeRecords sec n (writeRecord img sec i (bs.take (recordBytes sec))) (i + 1)
      (bs.drop (recordBytes sec))

/-- The bytes of an image in the order of R165, as the store holds them (R170). -/
def imageBytes (img : Image) : List Byte :=
  [Section.junction, .groups, .matrix, .loops, .inputs, .beacons, .routes, .lines].flatMap fun sec =>
    (List.range (sectionSize sec)).flatMap (readRecord img sec)

/-- One bit into a check register of width `w`: the top bit is compared with the data bit, the
register shifts toward its top, and the polynomial is combined when they differed (R123, R170). -/
def crcBit {w : Nat} (poly reg : BitVec w) (bit : Bool) : BitVec w :=
  if reg.msb != bit then (reg <<< 1) ^^^ poly else reg <<< 1

/-- One byte into a check register, most significant bit first (R123, R170). -/
def crcByte {w : Nat} (poly reg : BitVec w) (b : Byte) : BitVec w :=
  [7, 6, 5, 4, 3, 2, 1, 0].foldl (fun r i => crcBit poly r (b.getLsbD i)) reg

/-- The check byte of R123 over a list of bytes. -/
def crc8 (bs : List Byte) : Byte := bs.foldl (crcByte 0x1D#8) 0xFF#8

/-- The CRC of R170 over a list of bytes. -/
def crc16 (bs : List Byte) : BitVec 16 := bs.foldl (crcByte 0x1021#16) 0xFFFF#16

end Sys2Proof.Machine
end

