-- ==== Sys2Proof/Machine/State.lean ====
section
/-! DEFINITION. Everything the spec gives the CJ-420 to hold, as plain data, and the state right after
reset. INVENTORY.md lists each field with its rule and its reset value. -/

namespace Sys2Proof.Machine

open Sys2Proof

/-! ### Signal groups (R6) -/

/-- The eight group states (R6). -/
inductive GState where
  | dark | redMin | red | redWait | prepare | greenMin | green | clear
  deriving DecidableEq, Repr

/-- The two kinds of item and of claim (R6, R34). -/
inductive ItemKind where
  | release | terminate
  deriving DecidableEq, Repr

/-- The class of a transition (R34). -/
inductive TClass where
  | plan | tram | central
  deriving DecidableEq, Repr

/-- The claim an ACTIVE transition has on a group (R6). -/
structure Claim where
  id : TransId
  kind : ItemKind
  deriving DecidableEq, Repr

/-- A pending terminate (R6): of a transition, with its class and id, or of class JUNCTION. -/
inductive PendingTerm where
  | transition (cls : TClass) (id : TransId)
  | junction
  deriving DecidableEq, Repr

/-- The source of a demand with its number: channel, input, 0 for PLAN (R6, R111). -/
inductive DemandSource where
  | loop (channel : ChannelId)
  | input (input : InputId)
  | plan
  | failedDetector (channel : ChannelId)
  deriving DecidableEq, Repr

/-- A demand record (R6). -/
structure Demand where
  source : DemandSource
  registeredAt : Time
  permanent : Bool
  deriving DecidableEq, Repr

/-- The gap clock of a group (R116): held at 0, running from a start time, or held at 999. -/
inductive GapClock where
  | held
  | running (since : Time)
  | full
  deriving DecidableEq, Repr

/-- The lamp fault set of a group, one flag for each pair R82 can latch. -/
structure LampFaults where
  bOut : Bool
  cOut : Bool
  aStuck : Bool
  bStuck : Bool
  deriving DecidableEq, Repr

/-- The scheduled prepare start S and green T, present together (R6). -/
structure Schedule where
  s : Time
  t : Time
  deriving DecidableEq, Repr

/-- The live part of a group record (R6). -/
structure GroupRec where
  state : GState
  enteredAt : Time
  greenStart : Option Time
  greenEnd : Option Time
  redEntry : Option Time
  schedule : Option Schedule
  claim : Option Claim
  pendingTerm : Option PendingTerm
  holdUntil : Option Time
  demand : Option Demand
  gap : GapClock
  inhibited : Bool
  priorityInhibited : Bool
  redLost : Bool
  faults : LampFaults
  deriving DecidableEq, Repr

/-! ### Release arbiter (R34) -/

/-- The states of a transition (R34). -/
inductive TState where
  | queued | active | done | cancelled
  deriving DecidableEq, Repr

/-- The outcome of an item (R34). -/
inductive ItemOutcome where
  | waiting | satisfied | reached
  deriving DecidableEq, Repr

/-- The end cause of a finished transition (R34). -/
inductive EndCause where
  | completed | originCancel | centralCancel | tramEngine | mode | config | redLost
  deriving DecidableEq, Repr

/-- The origin of a transition (R34): a role, or the tram that posted it. -/
inductive Origin where
  | role (r : Role)
  | tram (number : BitVec 16) (approach : ApproachId)
  deriving DecidableEq, Repr

/-- An item: the set a group stands in, and its outcome (R34). -/
structure Item where
  kind : ItemKind
  outcome : ItemOutcome
  deriving DecidableEq, Repr

/-- The tram level and predicted arrival of a TRAM record (R34). -/
structure TramCall where
  level : Nat
  arrival : Time
  deriving DecidableEq, Repr

/-- A transition record (R34). The two sets are disjoint: a group holds at most one item.
`hadRelease` keeps whether the release set was non-empty when the record was written (R50). -/
structure TransRec where
  id : TransId
  cls : TClass
  origin : Origin
  items : Vector (Option Item) 24
  hadRelease : Bool
  tram : Option TramCall
  acceptedAt : Time
  state : TState
  finishedAt : Option Time
  endCause : Option EndCause
  deriving DecidableEq, Repr

/-! ### Junction mode controller (R58) -/

/-- The six junction modes (R58). -/
inductive Mode where
  | dark | flash | start | normal | clearing | lockout
  deriving DecidableEq, Repr

/-- The sub-phases of START (R58). -/
inductive StartPhase where
  | flashPhase | redPhase
  deriving DecidableEq, Repr

/-- The targets of CLEARING (R58). -/
inductive ClearTarget where
  | dark | flash
  deriving DecidableEq, Repr

/-- The lockout cause (R58). -/
structure LockoutCause where
  group : GroupId
  circuit : Circuit
  time : Time
  deriving DecidableEq, Repr

/-- The CLEAR_LOCKOUT check: when it began (R58), and how many of its ten samples were taken (R71). -/
structure LockoutCheck where
  beganAt : Time
  samples : Nat
  deriving DecidableEq, Repr

/-- The flash generator (R59): its phase, when it entered it, and the duration it read there. -/
structure FlashGen where
  on : Bool
  since : Time
  duration : Nat
  deriving DecidableEq, Repr

/-! ### Lamp drive and proving (R74 to R79) -/

/-- The command of a lamp circuit (R74). -/
inductive LampCmd where
  | on | off | flash
  deriving DecidableEq, Repr

/-- A mismatch time, and whether its confirmation has been handed on (R78, R79; log 14). -/
structure Mismatch where
  time : Nat
  handed : Bool
  deriving DecidableEq, Repr

/-- What LDP keeps for a lamp circuit (chapter 05). -/
structure LampRec where
  cmd : LampCmd
  sense : Bool
  changedAt : Time
  onMismatch : Mismatch
  offMismatch : Mismatch
  deriving DecidableEq, Repr

/-- The three circuits of a group. -/
structure Lamps where
  a : LampRec
  b : LampRec
  c : LampRec
  deriving DecidableEq, Repr

/-! ### Loops and inputs (R90, R108) -/

/-- The states of a loop channel (R90). -/
inductive ChState where
  | disabled | settling | free | occupied | fault
  deriving DecidableEq, Repr

/-- The bad results of a measurement, and the fault kinds (R90, R93). -/
inductive BadResult where
  | noOsc | lowFreq | highFreq
  deriving DecidableEq, Repr

/-- A channel record (R90). -/
structure ChannelRec where
  state : ChState
  baseline : Option Nat
  lastCount : Option Nat
  lastShift : Option Int
  occupiedSince : Option Time
  badRun : Nat
  goodRun : Nat
  vehicles : BitVec 16
  presenceExpired : Bool
  faultKind : Option BadResult
  deriving DecidableEq, Repr

/-- A contact input record (R108). -/
structure InputRec where
  active : Bool
  raw : Bool
  run : Nat
  activations : Counter
  deriving DecidableEq, Repr

/-! ### Beacon receiver (R119 to R129) -/

/-- The receiver states (R121, R127). -/
inductive Receiver where
  | idle | assembling | broken
  deriving DecidableEq, Repr

/-- The byte assembler (R119). RECEIVING holds the sub-cell reached since the start edge, how many of
the present cell's three samples were 1, the bits decided so far (bit 0 the first received), and the
decided stop bit once there is one, until BYTE_COMPLETE or FRAMING_ERROR takes it. -/
inductive ByteAssembler where
  | waitingHigh
  | waitingEdge
  | receiving (subCell : Nat) (ones : Nat) (data : Byte) (stop : Option Bool)
  deriving DecidableEq, Repr

/-- The seven counters of the receiver (R127). -/
structure BeaconCounts where
  accepted : Counter
  stray : Counter
  framing : Counter
  breaks : Counter
  gapDrops : Counter
  checkFailures : Counter
  contentDrops : Counter
  deriving DecidableEq, Repr

/-- The beacon receiver. `lowFor` and `highFor` count the sub-cells BCN has stood at 0 or at 1 since
the instant the break time or the wait at 1 is counted from (R120). -/
structure BeaconRec where
  receiver : Receiver
  assembler : ByteAssembler
  telegram : List Byte
  lastByteAt : Time
  sinceByte : Nat
  level : Bool
  lowFor : Option Nat
  highFor : Option Nat
  lastHeard : Vector (Option Time) 16
  counts : BeaconCounts
  deriving DecidableEq, Repr

/-! ### Tram priority engine (R130, R149) -/

/-- The source of a check-in (R130). -/
inductive TramSource where
  | beacon | tramnet
  deriving DecidableEq, Repr

/-- The states of a tram record (R130). -/
inductive TramState where
  | observed | calling | holding | overdue
  deriving DecidableEq, Repr

/-- A tram record (R130). `awaitsSlot` tells the CALLING record that waits for a transition slot to ask (R130, R136)
from one that has asked and from one that waits for a group in PREPARE. -/
structure TramRec where
  number : BitVec 16
  approach : ApproachId
  line : Byte
  route : Route
  group : GroupId
  source : TramSource
  checkInAt : Time
  arrival : Time
  level : Nat
  lateness : Option Nat
  capped : Bool
  calls : Nat
  transition : Option TransId
  holdEnd : Option Time
  state : TramState
  awaitsSlot : Bool
  deriving DecidableEq, Repr

/-- The five statistics of an approach (R149). -/
structure TramStats where
  calls : Counter
  holds : Counter
  capped : Counter
  lost : Counter
  checkOuts : Counter
  deriving DecidableEq, Repr

/-- The three drop counters of the engine (R149). -/
structure TramDrops where
  listFull : Counter
  noRoute : Counter
  unmatched : Counter
  deriving DecidableEq, Repr

/-! ### Link interface (R154, R159, R161) -/

/-- The reply codes (R156, R164). -/
inductive ReplyCode where
  | done | accepted | noReply | pending | refusedRole | refusedMode | refusedParam
  | refusedConflict | refusedState | refusedFull | refusedUnknown | storeFailed | configInvalid
  deriving DecidableEq, Repr

/-- A reply: its code and data bytes (R154). -/
structure Reply where
  code : ReplyCode
  data : List Byte
  deriving DecidableEq, Repr

/-- A reply slot (R154). `fromPending` marks a reply that came from a PENDING request. -/
inductive ReplySlot where
  | empty
  | pending
  | ready (reply : Reply) (fromPending : Bool)
  deriving DecidableEq, Repr

/-- The seven kinds of notice, highest rank first (R159). -/
inductive Notice where
  | fault | mode | reply | transition | tram | detector | lamp
  deriving DecidableEq, Repr

/-- The five error counts of a role (R161). -/
structure LinkCounts where
  checkFailures : Counter
  formatDrops : Counter
  clockTimeouts : Counter
  busyDrops : Counter
  unread : Counter
  deriving DecidableEq, Repr

/-- What the link interface keeps for a role. The notice set has one place per kind, in rank order. -/
structure LinkRec where
  slot : ReplySlot
  notices : Vector Bool 7
  seen : Bool
  counts : LinkCounts
  deriving DecidableEq, Repr

/-! ### Configuration manager (R165, R174) -/

/-- The commit states (R165). -/
inductive CommitState where
  | idle | waitingApply | storing
  deriving DecidableEq, Repr

/-- The latched straps (R172). -/
structure Straps where
  addr : BitVec 3
  smode : Bool
  astart : Bool
  deriving DecidableEq, Repr

/-- The check codes of validation, 1 to 13 (R167). -/
inductive CheckCode where
  | jnRange | grRange | mxDiagonal | mxUnused | mxSymmetry | mxClearance
  | lpRange | lpTarget | inRange | inTarget | bcRange | rtTarget | lnRange
  deriving DecidableEq, Repr

/-- The load outcome (R171). -/
inductive LoadOutcome where
  | loaded
  | crcFailed
  | checkFailed (code : CheckCode) (index : Nat)
  deriving DecidableEq, Repr

/-- The reset-cause record (R174). -/
structure ResetCause where
  serviceRestart : Bool
  lockoutCarried : Bool
  load : LoadOutcome
  straps : Straps
  deriving DecidableEq, Repr

/-! ### The model's own parts -/

/-- A neighbour to which a state entry or a marking is handed (R9, R81, R112). -/
inductive Neighbour where
  | arbiter | tram | config | junction | demand
  deriving DecidableEq, Repr

/-- A hand-off from one block to another that has not been taken yet. Hand-offs are settled inside
the command that set them off (log 5). -/
inductive Handoff where
  /-- The RA takes a state entry of a group (R9, R44, R48). -/
  | arbiterEntry (g : GroupId) (st : GState)
  /-- The TPE takes a GREEN_MIN or CLEAR entry of a group (R140). -/
  | tramEntry (g : GroupId) (st : GState)
  /-- The CFG examines whether a waiting commit can be applied (R168). -/
  | configExamine
  /-- The JMC examines whether CLEARING ends (R65). -/
  | clearingExamine
  /-- The demand logic takes a CLEAR entry (R112). -/
  | clearDemand (g : GroupId)
  /-- The RA examines activation and scheduling (R44, R48). -/
  | arbiterExamine
  /-- The RA examines scheduling alone: an inhibited flag has changed or a RED_LOST flag is cleared (R48). -/
  | scheduleExamine
  /-- The RA takes a RED_LOST marking (R50). -/
  | arbiterLost (g : GroupId)
  /-- The JMC counts the lost reds (R62, R66). -/
  | lostExamine
  /-- The TPE takes a slot-free event (R35, R136). -/
  | slotFree
  /-- The TPE takes the cancellation of a TRAM transition (R141). -/
  | tramCancelled (id : TransId)
  /-- The TPE evaluates one record; `anew` when H is to be worked out anew (R135). -/
  | tramEvaluate (k : EntryId) (anew : Bool)
  /-- The TPE evaluates every record (R147, R148). -/
  | tramEvaluateAll
  /-- The TPE evaluates every record on a group (R146). -/
  | tramEvaluateGroup (g : GroupId)
  deriving DecidableEq, Repr

/-- FREE VALUES: the orders the spec leaves open (R9: "the part gives them no order among
themselves"; R56: a set has no order). Nothing constrains them: each hand-off takes the first order of
`neighbours` and moves it to the end, so that every hand-off may have an order of its own; no command
changes `items`. -/
structure OpenOrders where
  neighbours : List (List Neighbour)
  items : List GroupId
  deriving DecidableEq, Repr

/-- The state of the part. -/
structure State where
  /-- The queue of waiting commands, front first. -/
  pending : List Instr
  /-- Hand-offs not yet taken; empty between commands (log 5). -/
  work : List Handoff
  /-- Free values: the orders the spec leaves open (logs 5, 18). -/
  order : OpenOrders
  now : Time
  flash : FlashGen
  groups : Vector GroupRec 24
  slots : Vector (Option TransRec) 8
  finishOrder : List SlotId
  acceptOrder : List SlotId
  acceptCounter : BitVec 8
  mode : Mode
  modeEnteredAt : Time
  startPhase : Option (StartPhase × Time)
  clearTarget : Option ClearTarget
  supervision : Option Time
  lockoutCause : Option LockoutCause
  lockoutCheck : Option LockoutCheck
  autostartDue : Bool
  lamps : Vector Lamps 24
  engines : Vector (Option (Fin 4)) 4
  trackedAt : Time
  channels : Vector ChannelRec 16
  inputs : Vector InputRec 16
  beacon : BeaconRec
  trams : Vector (Option TramRec) 8
  tramStats : Vector TramStats 4
  tramDrops : TramDrops
  links : Vector LinkRec 4
  active : Option Image
  staging : Image
  commit : CommitState
  store : Store
  straps : Straps
  resetCause : ResetCause
  /-- The bytes last sent in a reply frame: the output of REPLY_READ (log 25). -/
  replyLine : List Byte
  deriving DecidableEq, Repr

/-- How a command can stop the machine with a fault. The spec describes no machine stop and no
meaning ends in one; the constructor keeps the type inhabited. -/
inductive Fault where
  /-- Raised by no command: the spec names no condition that stops the part. Safe. -/
  | machineStop
  deriving DecidableEq, Repr

/-- How a command can be refused by the model. -/
inductive Refusal where
  /-- Raised only by an arm of `exec` whose command has no meaning yet. Safe. -/
  | notModelled (mnemonic : String)
  deriving DecidableEq, Repr

/-! ### Values after reset -/

/-- A group record after either reset (R19). The gap clock is that of an UNUSED group. -/
def resetGroup : GroupRec where
  state := .dark
  enteredAt := 0#32
  greenStart := none
  greenEnd := none
  redEntry := none
  schedule := none
  claim := none
  pendingTerm := none
  holdUntil := none
  demand := none
  gap := .held
  inhibited := false
  priorityInhibited := false
  redLost := false
  faults := { bOut := false, cOut := false, aStuck := false, bStuck := false }

/-- A lamp circuit after either reset, commanded OFF (R88; sense: log 4). -/
def resetLamp : LampRec where
  cmd := .off
  sense := false
  changedAt := 0#32
  onMismatch := { time := 0, handed := false }
  offMismatch := { time := 0, handed := false }

/-- A channel record after either reset, in the state its function gives (R106). -/
def resetChannel (st : ChState) : ChannelRec where
  state := st
  baseline := none
  lastCount := none
  lastShift := none
  occupiedSince := none
  badRun := 0
  goodRun := 0
  vehicles := 0#16
  presenceExpired := false
  faultKind := none

/-- An input record after either reset (R109). -/
def resetInput : InputRec where
  active := false
  raw := true
  run := 0
  activations := 0#16

/-- The counters of the beacon receiver at 0 (R129). -/
def zeroBeaconCounts : BeaconCounts where
  accepted := 0#16
  stray := 0#16
  framing := 0#16
  breaks := 0#16
  gapDrops := 0#16
  checkFailures := 0#16
  contentDrops := 0#16

/-- The beacon receiver after either reset, with BCN at a level (R120, R129). The telegram assembler is empty. DESIGN
CHOICE (log 38): the junction time of its last byte, the sub-cells since that byte and those BCN has stood at 1, for
which R129 gives no value, are 0. -/
def resetBeacon (level : Bool) : BeaconRec where
  receiver := .idle
  assembler := .waitingHigh
  telegram := []
  lastByteAt := 0#32
  sinceByte := 0
  level := level
  lowFor := if level then none else some 0
  highFor := if level then some 0 else none
  lastHeard := Vector.replicate 16 none
  counts := zeroBeaconCounts

/-- The statistics of an approach at 0 (R150). -/
def zeroTramStats : TramStats where
  calls := 0#16
  holds := 0#16
  capped := 0#16
  lost := 0#16
  checkOuts := 0#16

/-- The drop counters of the engine at 0 (R150). -/
def zeroTramDrops : TramDrops where
  listFull := 0#16
  noRoute := 0#16
  unmatched := 0#16

/-- The error counts of a role at 0 (R163). -/
def zeroLinkCounts : LinkCounts where
  checkFailures := 0#16
  formatDrops := 0#16
  clockTimeouts := 0#16
  busyDrops := 0#16
  unread := 0#16

/-- What the link keeps for a role after either reset (R163). -/
def resetLink : LinkRec where
  slot := .empty
  notices := Vector.replicate 7 false
  seen := false
  counts := zeroLinkCounts

/-- The part right after a power-on reset with every strap at 0, BCN at 1 and a store that was never
written (log 4): no active image, so every group UNUSED, and mode DARK (R19, R57, R73, R88, R106, R109,
R129, R150, R163, R171, R174). -/
def State.reset : State where
  pending := []
  work := []
  order := { neighbours := [], items := [] }
  now := 0#32
  flash := { on := true, since := 0#32, duration := 5 }
  groups := Vector.replicate 24 resetGroup
  slots := Vector.replicate 8 none
  finishOrder := []
  acceptOrder := []
  acceptCounter := 0#8
  mode := .dark
  modeEnteredAt := 0#32
  startPhase := none
  clearTarget := none
  supervision := none
  lockoutCause := none
  lockoutCheck := none
  autostartDue := false
  lamps := Vector.replicate 24 { a := resetLamp, b := resetLamp, c := resetLamp }
  engines := Vector.replicate 4 none
  trackedAt := 0#32
  channels := Vector.replicate 16 (resetChannel .disabled)
  inputs := Vector.replicate 16 resetInput
  beacon := resetBeacon true
  trams := Vector.replicate 8 none
  tramStats := Vector.replicate 4 zeroTramStats
  tramDrops := zeroTramDrops
  links := Vector.replicate 4 resetLink
  active := none
  staging := defaultImage
  commit := .idle
  store := .spoiled
  straps := { addr := 0#3, smode := false, astart := false }
  resetCause :=
    { serviceRestart := false, lockoutCarried := false, load := .crcFailed,
      straps := { addr := 0#3, smode := false, astart := false } }
  replyLine := []

end Sys2Proof.Machine
end

