-- ==== Sys2Proof/Machine/Ops.lean ====
section
/-! DEFINITION. The named operations over the tables of State that every block uses: reading and
updating a record, what the active image says, raising notices (R159), writing replies (R154), and
emitting hand-offs (R9). -/

namespace Sys2Proof.Machine

open Sys2Proof

/-! ### What the active image says -/

/-- The figures every block reads: the active image's, the default image's when none is active. With no
active image every group is UNUSED, every matrix entry 255, every loop DISABLED, every input UNUSED,
every beacon OFF (R171), the flash times 5 (R59) and the speed 9600 (R118): the default image. -/
def cfg (s : State) : Image := s.active.getD defaultImage

/-- The configured kind of a group (R3). -/
def kind (s : State) (g : GroupId) : Kind := kindIn (cfg s) g

/-- The group is a used group. -/
def used (s : State) (g : GroupId) : Bool := usedIn (cfg s) g

/-- The 24 groups in the order of their numbers. -/
def allGroups : List GroupId := List.finRange 24

/-- The 16 channels in the order of their numbers. -/
def allChannels : List ChannelId := List.finRange 16

/-- The 16 inputs in the order of their numbers. -/
def allInputs : List InputId := List.finRange 16

/-- The eight slots in order. -/
def allSlots : List SlotId := List.finRange 8

/-- The eight entries of the tram approach list in order. -/
def allEntries : List EntryId := List.finRange 8

/-- The four roles. -/
def allRoles : List Role := [.plan, .central, .tramnet, .service]

/-- The used groups in the order of their numbers. -/
def usedGroups (s : State) : List GroupId := allGroups.filter (used s)

/-- Groups i and j conflict under the active matrix (R21). -/
def conflicts (s : State) (i j : GroupId) : Bool := conflictIn (cfg s) i j

/-! ### Records -/

/-- A group record. -/
def grp (s : State) (g : GroupId) : GroupRec := look s.groups g

/-- The state with one group record changed. -/
def modGroup (g : GroupId) (f : GroupRec → GroupRec) (s : State) : State :=
  { s with groups := put s.groups g (f (look s.groups g)) }

/-- A slot of the transition table. -/
def slot (s : State) (k : SlotId) : Option TransRec := look s.slots k

/-- The state with the record of one slot changed, when there is one. -/
def modSlot (k : SlotId) (f : TransRec → TransRec) (s : State) : State :=
  { s with slots := put s.slots k ((look s.slots k).map f) }

/-- The lamp circuits of a group. -/
def lamp (s : State) (g : GroupId) : Lamps := look s.lamps g

/-- One circuit of three. -/
def circuit (l : Lamps) : Circuit → LampRec
  | .a => l.a
  | .b => l.b
  | .c => l.c

/-- The circuits with one changed. -/
def modCircuit (l : Lamps) (which : Circuit) (f : LampRec → LampRec) : Lamps :=
  match which with
  | .a => { l with a := f l.a }
  | .b => { l with b := f l.b }
  | .c => { l with c := f l.c }

/-- The state with the lamp circuits of one group changed. -/
def modLamps (g : GroupId) (f : Lamps → Lamps) (s : State) : State :=
  { s with lamps := put s.lamps g (f (look s.lamps g)) }

/-- A channel record. -/
def channel (s : State) (ch : ChannelId) : ChannelRec := look s.channels ch

/-- The state with one channel record changed. -/
def modChannel (ch : ChannelId) (f : ChannelRec → ChannelRec) (s : State) : State :=
  { s with channels := put s.channels ch (f (look s.channels ch)) }

/-- An input record. -/
def inputRec (s : State) (i : InputId) : InputRec := look s.inputs i

/-- The state with one input record changed. -/
def modInput (i : InputId) (f : InputRec → InputRec) (s : State) : State :=
  { s with inputs := put s.inputs i (f (look s.inputs i)) }

/-- An entry of the tram approach list. -/
def tram (s : State) (k : EntryId) : Option TramRec := look s.trams k

/-- The state with the record of one list entry changed, when there is one. -/
def modTram (k : EntryId) (f : TramRec → TramRec) (s : State) : State :=
  { s with trams := put s.trams k ((look s.trams k).map f) }

/-- The state with the statistics of one approach changed. -/
def modStats (a : ApproachId) (f : TramStats → TramStats) (s : State) : State :=
  { s with tramStats := put s.tramStats a (f (look s.tramStats a)) }

/-- The number of a role, 0 to 3 (R151, R164). -/
def roleIndex : Role → Fin 4
  | .plan => 0 | .central => 1 | .tramnet => 2 | .service => 3

/-- What the link keeps for a role. -/
def link (s : State) (r : Role) : LinkRec := look s.links (roleIndex r)

/-- The state with what the link keeps for one role changed. -/
def modLink (r : Role) (f : LinkRec → LinkRec) (s : State) : State :=
  { s with links := put s.links (roleIndex r) (f (look s.links (roleIndex r))) }

/-! ### Hand-offs -/

/-- A hand-off is set off: it joins the work of the present command. -/
def emit (h : Handoff) (s : State) : State := { s with work := s.work ++ [h] }

/-- Several hand-offs are set off, in order. -/
def emitAll (hs : List Handoff) (s : State) : State := { s with work := s.work ++ hs }

/-- The five neighbours in the order of R9, with the demand logic of R112. -/
def allNeighbours : List Neighbour := [.arbiter, .tram, .config, .junction, .demand]

/-- The order in which the neighbours take the next hand-off: a free value (R9, log 5). -/
def neighbourOrder (s : State) : List Neighbour := orderBy (s.order.neighbours.headD []) allNeighbours

/-- The list with its first member moved to its end. -/
def turn {α : Type} : List α → List α
  | [] => []
  | a :: rest => rest ++ [a]

/-- Each neighbour is handed what concerns it, in the order the free value gives; the next hand-off
takes the next order (R9, log 5). -/
def handOn (f : Neighbour → Option Handoff) (s : State) : State :=
  emitAll ((neighbourOrder s).filterMap f)
    { s with order := { s.order with neighbours := turn s.order.neighbours } }

/-! ### Group states -/

/-- The proceed states (00_scope.md, Terms). -/
def proceedState : GState → Bool
  | .prepare => true
  | .greenMin => true
  | .green => true
  | _ => false

/-- The group is in a proceed state. -/
def inProceed (s : State) (g : GroupId) : Bool := proceedState (grp s g).state

/-- The group is in GREEN_MIN or GREEN. -/
def isGreen (s : State) (g : GroupId) : Bool :=
  (grp s g).state == .greenMin || (grp s g).state == .green

/-! ### A fold over a list of places -/

/-- An operation applied for each member of a list in order. -/
def forEach {α : Type} (l : List α) (f : α → State → State) (s : State) : State :=
  l.foldl (fun s a => f a s) s

end Sys2Proof.Machine
end

