-- ==== Sys2Proof/Machine/Flags.lean ====
section
/-! DEFINITION. The flags and status bits of the part that are sets or outputs: notice sets and ALRT
(R159), seen flags (R152), and the reply slots with the counts they drive (R154). -/

namespace Sys2Proof.Machine

open Sys2Proof

/-- The place of a kind in a notice set, in rank order (R159). -/
def noticeIndex : Notice → Fin 7
  | .fault => 0 | .mode => 1 | .reply => 2 | .transition => 3 | .tram => 4 | .detector => 5 | .lamp => 6

/-- The kinds, highest rank first (R159). -/
def allNotices : List Notice := [.fault, .mode, .reply, .transition, .tram, .detector, .lamp]

/-- The role's notice set holds the kind. -/
def hasNotice (s : State) (r : Role) (n : Notice) : Bool := look (link s r).notices (noticeIndex n)

/-- A kind raised for one role: it enters the role's set when the role is seen (R159). -/
def raise (n : Notice) (r : Role) (s : State) : State :=
  if (link s r).seen then modLink r (fun l => { l with notices := put l.notices (noticeIndex n) true }) s else s

/-- A kind leaves a role's set. -/
def dropNotice (n : Notice) (r : Role) (s : State) : State :=
  modLink r (fun l => { l with notices := put l.notices (noticeIndex n) false }) s

/-- A kind raised for several roles (R159). -/
def raiseFor (n : Notice) (rs : List Role) (s : State) : State := forEach rs (raise n) s

/-- A kind raised for every seen role (R159: FAULT, MODE). -/
def raiseAll (n : Notice) (s : State) : State := raiseFor n allRoles s

/-- The kinds in a role's set, highest rank first. -/
def noticesOf (s : State) (r : Role) : List Notice := allNotices.filter (hasNotice s r)

/-- ALRT is pulled low: some role's set holds a kind (R159). -/
def alrtLow (s : State) : Bool := allRoles.any fun r => allNotices.any (hasNotice s r)

/-- One more on an error count of a role (R161). -/
def countError (r : Role) (f : LinkCounts → LinkCounts) (s : State) : State :=
  modLink r (fun l => { l with counts := f l.counts }) s

/-- An acknowledged check byte sets the role's seen flag (R152). -/
def setSeen (r : Role) (s : State) : State := modLink r (fun l => { l with seen := true }) s

/-- A reply with no data. -/
def plain (c : ReplyCode) : Reply := { code := c, data := [] }

/-- The reply is one of the REFUSED codes (R68, R156). -/
def isRefusal (c : ReplyCode) : Bool :=
  match c with
  | .refusedRole => true
  | .refusedMode => true
  | .refusedParam => true
  | .refusedConflict => true
  | .refusedState => true
  | .refusedFull => true
  | .refusedUnknown => true
  | _ => false

/-- The slot as a reply leaves it: the code PENDING makes it PENDING, any other READY (R154). -/
def slotOf (r : Reply) (fromPending : Bool) : ReplySlot :=
  if r.code = .pending then .pending else .ready r fromPending

/-- The READY reply a slot holds is discarded; the REPLY kind leaves the set when that reply came from a
PENDING request (R154). -/
def discardReply (r : Role) (s : State) : State :=
  match (link s r).slot with
  | .ready _ fromPending =>
    modLink r (fun l => { l with slot := .empty }) (if fromPending then dropNotice .reply r s else s)
  | _ => s

/-- A discarded READY reply counts as unread (R154, R161). -/
def countUnread (r : Role) (s : State) : State :=
  match (link s r).slot with
  | .ready _ _ => countError r (fun c => { c with unread := satInc c.unread }) s
  | _ => s

/-- A reply is written over a slot: a READY reply is discarded and counted as unread (R154). -/
def answer (r : Role) (reply : Reply) (s : State) : State :=
  modLink r (fun l => { l with slot := slotOf reply false }) (discardReply r (countUnread r s))

/-- The owner of a PENDING request completes it: the final reply makes the slot READY, and a REPLY
notice is raised for the role (R154). -/
def completePending (r : Role) (reply : Reply) (s : State) : State :=
  raise .reply r (modLink r (fun l => { l with slot := .ready reply true }) s)

end Sys2Proof.Machine
end

