-- ==== Sys2Proof/Machine/Lamps.lean ====
section
/-! DEFINITION. Lamp commands (R74, R75), drive outputs, which circuits are proved (R76), and the
mismatch times of a sample (R77 to R79). -/

namespace Sys2Proof.Machine

open Sys2Proof

/-- The three circuits of a group, in order. -/
def allCircuits : List Circuit := [.a, .b, .c]

/-- DARK groups show the flash pattern: in FLASH, in LOCKOUT and in START's flash phase (R4). -/
def showsPattern (s : State) : Bool :=
  match s.mode with
  | .flash => true
  | .lockout => true
  | .start =>
    match s.startPhase with
    | some (.flashPhase, _) => true
    | _ => false
  | _ => false

/-- The command table of R74. A PED group never enters PREPARE (R4); it is given red there. -/
def lampCommand (k : Kind) (st : GState) (pattern : Bool) (which : Circuit) : LampCmd :=
  match k, st, which with
  | .unused, _, _ => .off
  | .ped, .dark, _ => .off
  | _, .dark, .b => if pattern then .flash else .off
  | _, .dark, _ => .off
  | _, .redMin, .a => .on
  | _, .red, .a => .on
  | _, .redWait, .a => .on
  | _, .prepare, .a => .on
  | .veh, .prepare, .b => .on
  | .tram, .prepare, .b => .on
  | _, .greenMin, .c => .on
  | _, .green, .c => .on
  | .ped, .clear, .c => .flash
  | .veh, .clear, .b => .on
  | .tram, .clear, .b => .on
  | _, _, _ => .off

/-- The instantaneous command of a circuit, given the phase of the flash generator (R74). -/
def instantOn (phaseOn : Bool) : LampCmd → Bool
  | .on => true
  | .off => false
  | .flash => phaseOn

/-- The drive output LDRV of a circuit (R74). -/
def driven (s : State) (g : GroupId) (which : Circuit) : Bool :=
  instantOn s.flash.on (circuit (lamp s g) which).cmd

/-- A circuit takes a command; the time of the change is recorded when the instantaneous command
changes (R75). -/
def setCommand (phaseOn : Bool) (now : Time) (cmd : LampCmd) (l : LampRec) : LampRec :=
  { l with
    cmd := cmd
    changedAt := if instantOn phaseOn cmd = instantOn phaseOn l.cmd then l.changedAt else now }

/-- The three circuits of a group take their commands from the table (R75). -/
def refreshLamps (g : GroupId) (s : State) : State :=
  let command := lampCommand (kind s g) (grp s g).state (showsPattern s)
  modLamps g
    (fun l =>
      { a := setCommand s.flash.on s.now (command .a) l.a
        b := setCommand s.flash.on s.now (command .b) l.b
        c := setCommand s.flash.on s.now (command .c) l.c })
    s

/-- Every group's circuits take their commands from the table (R75). -/
def refreshAllLamps (s : State) : State := forEach allGroups refreshLamps s

/-- The flash generator changes phase: every FLASH circuit's instantaneous command changes (R59, R75). -/
def phaseChangeLamp (now : Time) (l : LampRec) : LampRec :=
  if l.cmd = .flash then { l with changedAt := now } else l

/-- The circuit's on-mismatch is proved (R76). -/
def provesOn (k : Kind) (which : Circuit) : Bool :=
  match k, which with
  | .unused, _ => false
  | .ped, .b => false
  | _, _ => true

/-- The circuit's off-mismatch is proved; circuit C of an UNUSED group is, for unwanted proceed (R76). -/
def provesOff (k : Kind) (which : Circuit) : Bool :=
  match k, which with
  | .unused, .c => true
  | .unused, _ => false
  | .ped, .b => false
  | _, _ => true

/-- The on-mismatch confirm time: 10 ds on every circuit (R79). -/
def onConfirm : Nat := 10

/-- The off-mismatch confirm time: 2 ds on circuit C, 10 ds on A and B (R79). -/
def offConfirm : Circuit → Nat
  | .c => 2
  | _ => 10

/-- A mismatch time grows by 1, and is held at its confirm time (R78, R79). -/
def grow (confirm : Nat) (m : Mismatch) : Mismatch :=
  if m.time < confirm then { m with time := m.time + 1 } else m

/-- A mismatch time set to 0, from where it can be confirmed again (R79). -/
def zeroMismatch : Mismatch := { time := 0, handed := false }

/-- The mismatch time has reached its confirm time and its confirmation is still to be handed on. -/
def confirmed (confirm : Nat) (m : Mismatch) : Bool := confirm ≤ m.time && !m.handed

/-- The circuit is settling: its command changed at the present junction time or the one before, so the
sample of this ds is not compared (R77). -/
def settling (now : Time) (l : LampRec) : Bool := l.changedAt == now || l.changedAt == now - 1#32

/-- One sample of a circuit (R77, R78): the sense is kept, and a compared sample of a proved circuit
updates the mismatch time of the command it stands under. -/
def sampleLamp (k : Kind) (which : Circuit) (phaseOn : Bool) (now : Time) (sense : Bool) (l : LampRec) :
    LampRec :=
  let l := { l with sense := sense }
  if settling now l then l
  else if instantOn phaseOn l.cmd then
    if provesOn k which then
      { l with onMismatch := if sense then zeroMismatch else grow onConfirm l.onMismatch }
    else l
  else
    if provesOff k which then
      { l with offMismatch := if sense then grow (offConfirm which) l.offMismatch else zeroMismatch }
    else l

/-- The sense of a circuit in a sample of all 72 inputs. -/
def senseBit (sense : BitVec 72) (g : GroupId) (which : Circuit) : Bool :=
  sense.getLsbD (3 * g.val + match which with | .a => 0 | .b => 1 | .c => 2)

/-- One sample of the three circuits of a group (R77). -/
def sampleGroup (sense : BitVec 72) (g : GroupId) (s : State) : State :=
  modLamps g
    (fun l =>
      { a := sampleLamp (kind s g) .a s.flash.on s.now (senseBit sense g .a) l.a
        b := sampleLamp (kind s g) .b s.flash.on s.now (senseBit sense g .b) l.b
        c := sampleLamp (kind s g) .c s.flash.on s.now (senseBit sense g .c) l.c })
    s

/-- Some proceed circuit is sensed on, of used and UNUSED groups alike (R71, R84). -/
def proceedSensed (sense : BitVec 72) : Bool := allGroups.any fun g => senseBit sense g .c

/-- Both mismatch times of a circuit set to 0 (R78, R85). -/
def clearMismatch (l : LampRec) : LampRec :=
  { l with onMismatch := zeroMismatch, offMismatch := zeroMismatch }

/-- Both mismatch times of the three circuits set to 0 (R85). -/
def clearLampTimes (l : Lamps) : Lamps :=
  { a := clearMismatch l.a, b := clearMismatch l.b, c := clearMismatch l.c }

/-- At a configuration apply the mismatch times of a circuit that the new kind leaves unproved are set
to 0 (R87). -/
def applyLamps (k : Kind) (l : Lamps) : Lamps :=
  match k with
  | .unused => { l with a := clearMismatch l.a, b := clearMismatch l.b }
  | .ped => { l with b := clearMismatch l.b }
  | _ => l

/-- LDP takes a configuration apply (R87): commands from the table, mismatch times of unproved circuits. -/
def applyLampsAll (s : State) : State :=
  refreshAllLamps (forEach allGroups (fun g s => modLamps g (applyLamps (kind s g)) s) s)

end Sys2Proof.Machine
end

