-- ==== Sys2Proof/Machine/Groups.lean ====
section
/-! DEFINITION. The signal group table: entering a state with its hand-offs (R9), claims and their
withdrawal (R10, R16), terminates (R14), forced changes (R17), the ageing of kept times (R8), and the
table's part of a configuration apply (R18). -/

namespace Sys2Proof.Machine

open Sys2Proof

/-- What a state entry hands to one neighbour, if anything (R9, R112): the RA and the CFG take every
entry, the TPE GREEN_MIN and CLEAR entries of TRAM groups, the JMC RED_MIN and RED entries, the demand
logic CLEAR entries. -/
def entryHandoff (s : State) (g : GroupId) (st : GState) : Neighbour → Option Handoff
  | .arbiter => some (.arbiterEntry g st)
  | .tram =>
    if kind s g = .tram ∧ (st = .greenMin ∨ st = .clear) then some (.tramEntry g st) else none
  | .config => if s.commit = .waitingApply then some .configExamine else none
  | .junction =>
    if s.mode = .clearing ∧ (st = .redMin ∨ st = .red) then some .clearingExamine else none
  | .demand => if st = .clear then some (.clearDemand g) else none

/-- A state entry is handed to the neighbours (R9). -/
def handEntry (g : GroupId) (st : GState) (s : State) : State :=
  handOn (entryHandoff s g st) s

/-- A group enters a state (R9): state-entered-at is now, the lamps take the new aspect, and the entry
is handed on. Re-entry to the state it is in is no entry. DESIGN CHOICE (log 45): lamp drive takes the entry
before the other neighbours. -/
def enterState (g : GroupId) (st : GState) (s : State) : State :=
  if (grp s g).state = st then s
  else handEntry g st (refreshLamps g (modGroup g (fun r => { r with state := st, enteredAt := s.now }) s))

/-- CLEAR entry (R14, R15): E is now, the pending terminate and hold-until are removed. -/
def enterClear (g : GroupId) (s : State) : State :=
  enterState g .clear
    (modGroup g (fun r => { r with greenEnd := some s.now, pendingTerm := none, holdUntil := none }) s)

/-- RED_MIN entry after CLEAR (R15): R is now. -/
def enterRedMin (g : GroupId) (s : State) : State :=
  enterState g .redMin (modGroup g (fun r => { r with redEntry := some s.now }) s)

/-- The demand record as a GREEN_MIN entry leaves it: cleared unless permanent (R12, R115). -/
def servedDemand : Option Demand → Option Demand
  | some d => if d.permanent then some d else none
  | none => none

/-- GREEN_MIN entry at T (R12): green start is T, S and T are dropped, a demand that is not permanent is
cleared, and the claim is kept. -/
def enterGreenMin (g : GroupId) (t : Time) (s : State) : State :=
  enterState g .greenMin
    (modGroup g
      (fun r => { r with greenStart := some t, schedule := none, demand := servedDemand r.demand }) s)

/-- The class and any hold let the pending terminate take effect (R14): any class but PLAN, or PLAN with
hold-until absent or at or before now. -/
def terminateAllowed (now : Time) (r : GroupRec) : Bool :=
  match r.pendingTerm with
  | none => false
  | some .junction => true
  | some (.transition cls _) =>
    cls != .plan ||
      match r.holdUntil with
      | none => true
      | some h => atOrAfter now h

/-- A pending terminate on a group in GREEN takes effect when it may (R14). -/
def takeTerminate (g : GroupId) (s : State) : State :=
  if (grp s g).state = .green ∧ terminateAllowed s.now (grp s g) = true then enterClear g s else s

/-- The pending terminate of a withdrawn transition is removed; a JUNCTION terminate is kept (R16). -/
def withdrawTerm (id : TransId) : Option PendingTerm → Option PendingTerm
  | some (.transition cls i) => if i = id then none else some (.transition cls i)
  | p => p

/-- The RA withdraws a transition's claim on a group (R16): a RED_WAIT group enters RED with S and T
dropped, any other keeps its state. -/
def withdrawClaim (id : TransId) (g : GroupId) (s : State) : State :=
  match (grp s g).claim with
  | none => s
  | some c =>
    if c.id = id then
      let s1 := modGroup g (fun r => { r with claim := none, pendingTerm := withdrawTerm id r.pendingTerm }) s
      if (grp s g).state = .redWait then
        enterState g .red (modGroup g (fun r => { r with schedule := none }) s1)
      else s1
    else s

/-- A group is forced to DARK (R17): the claim, the pending terminate, S, T and hold-until go; the
stamps, the demand, the gap value, the flags and the lamp faults stay. -/
def forceDark (g : GroupId) (s : State) : State :=
  if used s g then
    enterState g .dark
      (modGroup g
        (fun r => { r with claim := none, pendingTerm := none, schedule := none, holdUntil := none }) s)
  else s

/-- Every used group is forced to DARK (R17). -/
def forceAllDark (s : State) : State := forEach allGroups forceDark s

/-- A used group enters RED_MIN for START's red phase, R and E absent (R17, R61). -/
def forceRedMin (g : GroupId) (s : State) : State :=
  if used s g then
    enterState g .redMin (modGroup g (fun r => { r with redEntry := none, greenEnd := none }) s)
  else s

/-- A used group enters RED at NORMAL entry, every stamp absent (R17, R62). -/
def forceRed (g : GroupId) (s : State) : State :=
  if used s g then
    enterState g .red
      (modGroup g (fun r => { r with greenStart := none, greenEnd := none, redEntry := none }) s)
  else s

/-- CLEARING entry places a JUNCTION terminate on a group in PREPARE, GREEN_MIN or GREEN, replacing any
it holds; on a group in GREEN it takes effect at once (R14, R17, R64). -/
def junctionTerminate (g : GroupId) (s : State) : State :=
  if used s g && inProceed s g then
    takeTerminate g (modGroup g (fun r => { r with pendingTerm := some .junction }) s)
  else s

/-- The TPE writes hold-until (R16, R138): a value is recorded only in GREEN_MIN or GREEN, absence
always; a PLAN terminate it was deferring may then take effect (R14). DESIGN CHOICE (log 47): a value moved earlier
but still after now keeps the terminate deferred, by R14. -/
def setHoldUntil (g : GroupId) (h : Option Time) (s : State) : State :=
  if isGreen s g || h == none then
    takeTerminate g (modGroup g (fun r => { r with holdUntil := h }) s)
  else s

/-- The group is red for an all-red instant: RED, RED_MIN or DARK (00_scope.md, Terms; R168). -/
def allRedState : GState → Bool
  | .red => true
  | .redMin => true
  | .dark => true
  | _ => false

/-- An all-red instant: every used group in RED, RED_MIN or DARK, none in RED_WAIT. -/
def allRed (s : State) : Bool := (usedGroups s).all fun g => allRedState (grp s g).state

/-- Every used group is in RED or RED_MIN: CLEARING ends (R65). -/
def clearingDone (s : State) : Bool :=
  (usedGroups s).all fun g => (grp s g).state == .red || (grp s g).state == .redMin

/-- The gap value of a group (R116). -/
def gapValue (now : Time) : GapClock → Nat
  | .held => 0
  | .running u => min (age now u) 999
  | .full => 999

/-- The kept times of a group record at the new junction time (R8): state entered at, the registered-at
time of a demand, and green start while the group is green are held at now - 65,535 once that old. -/
def ageGroup (now : Time) (r : GroupRec) : GroupRec :=
  { r with
    enteredAt := heldTime now r.enteredAt
    greenStart :=
      if r.state = .greenMin ∨ r.state = .green then r.greenStart.map (heldTime now) else r.greenStart
    demand := r.demand.map fun d => { d with registeredAt := heldTime now d.registeredAt } }

/-- The stamp of a group record a STAMP_DROP concerns, when it may be dropped (R8): green start only
outside GREEN_MIN and GREEN. -/
def droppable (r : GroupRec) : Stamp → Option Time
  | .greenEnd => r.greenEnd
  | .redEntry => r.redEntry
  | .holdUntil => r.holdUntil
  | .greenStart => if r.state = .greenMin ∨ r.state = .green then none else r.greenStart

/-- The record without the stamp (R8). -/
def dropStamp (r : GroupRec) : Stamp → GroupRec
  | .greenEnd => { r with greenEnd := none }
  | .redEntry => { r with redEntry := none }
  | .holdUntil => { r with holdUntil := none }
  | .greenStart => { r with greenStart := none }

/-- The record of a group that an apply makes UNUSED (R18): every optional field removed, the gap value
0, flags and lamp faults clear. -/
def unusedRecord (r : GroupRec) : GroupRec :=
  { resetGroup with state := r.state, enteredAt := r.enteredAt }

/-- The record of a group that an apply brings into use (R18): every optional field absent and the flags
clear, its gap clock running from the apply (R116). -/
def newRecord (now : Time) (r : GroupRec) : GroupRec :=
  { resetGroup with state := r.state, enteredAt := r.enteredAt, gap := .running now }

/-- The state an apply gives a group that it brings into use (R18). -/
def newGroupState (s : State) : GState :=
  match s.mode with
  | .normal => .red
  | .clearing => .red
  | .start =>
    match s.startPhase with
    | some (.redPhase, _) => .redMin
    | _ => .dark
  | _ => .dark

/-- The SGT takes a configuration apply for one group (R18); `old` is the image before it. -/
def applyGroup (old : Image) (g : GroupId) (s : State) : State :=
  match usedIn old g, used s g with
  | true, true =>
    if kindIn old g = .tram ∧ kind s g ≠ .tram then
      modGroup g (fun r => { r with holdUntil := none }) s
    else s
  | true, false => enterState g .dark (modGroup g unusedRecord s)
  | false, true => enterState g (newGroupState s) (modGroup g (newRecord s.now) s)
  | false, false => s

end Sys2Proof.Machine
end

