-- ==== Sys2Proof/Machine/Matrix.lean ====
section
/-! DEFINITION. The earliest-green computation (R27, R28, R29): S and T of a release group from the
active intergreens and the stamps of the group records. -/

namespace Sys2Proof.Machine

open Sys2Proof

/-- The term E_i + IG[i][j] of a conflicting group, when E_i is present (R28). -/
def intergreenTerm (s : State) (j i : GroupId) : Option Time :=
  if conflicts s i j then (grp s i).greenEnd.map fun e => plusDs e (igIn (cfg s) i j) else none

/-- The term R_j + Rmin_j, when R_j is present (R28). -/
def minimumRedTerm (s : State) (j : GroupId) : Option Time :=
  (grp s j).redEntry.map fun r => plusDs r (minRedIn (cfg s) j)

/-- Every term of R28 but the first, for a release group j. -/
def greenTerms (s : State) (j : GroupId) : List Time :=
  (minimumRedTerm s j).toList ++ allGroups.filterMap (intergreenTerm s j)

/-- The scheduled green T of group j at the present instant: the latest term (R28, R29). -/
def scheduledGreen (s : State) (j : GroupId) : Time :=
  (greenTerms s j).foldl later (plusDs s.now (prepareIn (cfg s) j))

/-- The scheduled prepare start S = T - P_j (R28). -/
def scheduledPrepare (s : State) (j : GroupId) : Time :=
  scheduledGreen s j - BitVec.ofNat 32 (prepareIn (cfg s) j)

/-- The schedule of group j at the present instant (R28, R31). -/
def earliestGreen (s : State) (j : GroupId) : Schedule :=
  { s := scheduledPrepare s j, t := scheduledGreen s j }

end Sys2Proof.Machine
end

