-- ==== Sys2Proof/Machine/Arbiter.lean ====
section
/-! DEFINITION. The release arbiter: the transition table (R34 to R36), queue order (R43), activation
(R44, R45), items (R47), scheduling (R48), RED_LOST drops (R50), completion (R51), cancellation (R52 to
R55), tram posts (R39, R40) and the re-test after an apply (R24). -/

namespace Sys2Proof.Machine

open Sys2Proof

/-! ### Records -/

/-- The item of a group in a record. -/
def itemOf (r : TransRec) (g : GroupId) : Option Item := look r.items g

/-- The group stands in the record's set of a kind. -/
def inSet (k : ItemKind) (r : TransRec) (g : GroupId) : Bool :=
  match itemOf r g with
  | some it => it.kind == k
  | none => false

/-- The group stands in either set of the record. -/
def named (r : TransRec) (g : GroupId) : Bool := (itemOf r g).isSome

/-- The release set of a record, in the order of group numbers. -/
def releases (r : TransRec) : List GroupId := allGroups.filter (inSet .release r)

/-- The terminate set of a record, in the order of group numbers. -/
def terminates (r : TransRec) : List GroupId := allGroups.filter (inSet .terminate r)

/-- The live states, QUEUED and ACTIVE (R34). -/
def isLive (r : TransRec) : Bool := r.state == .queued || r.state == .active

/-- The record is DONE or CANCELLED (R34). -/
def isFinished (r : TransRec) : Bool := !isLive r

/-- The live records of the table with their slots, in slot order. -/
def liveRecs (s : State) : List TransRec := allSlots.filterMap fun k => (slot s k).filter isLive

/-- The record holds a WAITING item (R51). -/
def hasWaiting (r : TransRec) : Bool :=
  allGroups.any fun g => (itemOf r g).any fun it => it.outcome == .waiting

/-- The slot whose live record holds an id. -/
def liveSlotOf (s : State) (id : TransId) : Option SlotId :=
  allSlots.find? fun k => (slot s k).any fun r => isLive r && r.id == id

/-- The slot whose ACTIVE record holds an id. -/
def activeSlotOf (s : State) (id : TransId) : Option SlotId :=
  allSlots.find? fun k => (slot s k).any fun r => r.state == .active && r.id == id

/-- The items of a new record: WAITING, from its two sets (R34). -/
def newItems (terminate release : List GroupId) : Vector (Option Item) 24 :=
  tabulate fun g =>
    if g ∈ release then some { kind := .release, outcome := .waiting }
    else if g ∈ terminate then some { kind := .terminate, outcome := .waiting }
    else none

/-- The record with the outcome of a group's item set, when there is one. -/
def setOutcome (g : GroupId) (o : ItemOutcome) (r : TransRec) : TransRec :=
  { r with items := put r.items g ((look r.items g).map fun it => { it with outcome := o }) }

/-- The record with the group dropped from its sets (R24, R50). -/
def dropItem (g : GroupId) (r : TransRec) : TransRec := { r with items := put r.items g none }

/-! ### Slots and ids -/

/-- The slot a new record is written into (R35): the lowest empty one, or that of the finished record
that finished first. -/
def freeSlot (s : State) : Option SlotId :=
  match allSlots.find? fun k => (slot s k).isNone with
  | some k => some k
  | none => s.finishOrder.head?

/-- Some record of the table, live or finished, holds the id. -/
def idHeld (s : State) (id : TransId) : Bool := allSlots.any fun k => (slot s k).any fun r => r.id == id

/-- The id of a new record (R36): the first value, counting upward from the counter, that no record in
the table holds. Eight records leave one of nine consecutive values free. -/
def nextId (s : State) : TransId :=
  (((List.range 9).map fun n => s.acceptCounter + BitVec.ofNat 8 n).find? fun id => !idHeld s id).getD
    s.acceptCounter

/-- A record is written into a slot as QUEUED, and activation is to be examined (R35, R36, R38, R44). -/
def writeRecordAt (k : SlotId) (cls : TClass) (origin : Origin) (terminate release : List GroupId)
    (call : Option TramCall) (s : State) : State :=
  let id := nextId s
  let r : TransRec :=
    { id := id, cls := cls, origin := origin, items := newItems terminate release,
      hadRelease := !release.isEmpty, tram := call, acceptedAt := s.now, state := .queued,
      finishedAt := none, endCause := none }
  emit .arbiterExamine
    { s with
      slots := put s.slots k (some r)
      acceptCounter := id + 1#8
      finishOrder := s.finishOrder.filter (· != k)
      acceptOrder := s.acceptOrder.filter (· != k) ++ [k] }

/-! ### Queue order (R43) -/

/-- The rank of a class, highest first (R43). -/
def classRank : TClass → Nat
  | .central => 0 | .tram => 1 | .plan => 2

/-- The first record stands ahead of the second by class, level or arrival (R43 items 1 to 3). -/
def ahead (a b : TransRec) : Bool :=
  if classRank a.cls ≠ classRank b.cls then classRank a.cls < classRank b.cls
  else
    match a.tram, b.tram with
    | some x, some y => if x.level ≠ y.level then x.level > y.level else after y.arrival x.arrival
    | _, _ => false

/-- The slots of the live records in acceptance order (R43 item 4). -/
def liveInOrder (s : State) : List SlotId := s.acceptOrder.filter fun k => (slot s k).any isLive

/-- A slot takes its place behind every record that is not strictly behind it. -/
def insertSlot (s : State) (k : SlotId) : List SlotId → List SlotId
  | [] => [k]
  | j :: rest =>
    match slot s k, slot s j with
    | some a, some b => if ahead a b then k :: j :: rest else j :: insertSlot s k rest
    | _, _ => j :: insertSlot s k rest

/-- The slots of the live records in queue order (R43). -/
def queueOrder (s : State) : List SlotId := (liveInOrder s).foldl (fun acc k => insertSlot s k acc) []

/-! ### Finishing a record -/

/-- A live record finishes: state, finished-at and end cause are set, it joins the finish order, an
ACTIVE record's claims are withdrawn, and the RA re-examines and hands a slot-free event to the TPE
(R35, R51, R52). DESIGN CHOICE (log 43): the re-examination comes before the slot-free event. -/
def finishRecord (k : SlotId) (st : TState) (cause : EndCause) (s : State) : State :=
  match slot s k with
  | none => s
  | some r =>
    let s1 : State :=
      { s with
        slots := put s.slots k
          (some { r with state := st, finishedAt := some s.now, endCause := some cause })
        finishOrder := s.finishOrder.filter (· != k) ++ [k]
        acceptOrder := s.acceptOrder.filter (· != k) }
    let s2 := if r.state = .active then forEach (allGroups.filter (named r)) (withdrawClaim r.id) s1 else s1
    emitAll [.arbiterExamine, .slotFree] s2

/-- A TRANSITION notice for the origin role of a record, if it has one (R51, R54). -/
def noticeOrigin (r : TransRec) (s : State) : State :=
  match r.origin with
  | .role role => raise .transition role s
  | .tram _ _ => s

/-- A live record that holds no WAITING item is complete and becomes DONE (R51). -/
def completeIfDone (k : SlotId) (s : State) : State :=
  match slot s k with
  | none => s
  | some r =>
    if r.state = .active ∧ hasWaiting r = false then
      noticeOrigin r (finishRecord k .done .completed s)
    else s

/-- What a cancellation hands on (R54): a TRANSITION notice to the origin role but for its own
cancellation, the tram priority engine for a TRAM record but for its own. DESIGN CHOICE (log 43): the tram
priority engine takes it after the re-examination and the slot-free event of `finishRecord`. -/
def handCancelled (r : TransRec) (cause : EndCause) (s : State) : State :=
  match r.cls, cause with
  | .tram, .tramEngine => s
  | .tram, _ => emit (.tramCancelled r.id) s
  | _, .originCancel => s
  | _, _ => noticeOrigin r s

/-- A live record is cancelled (R52, R53, R54). A record no longer live is left alone. -/
def cancelRecord (cause : EndCause) (k : SlotId) (s : State) : State :=
  match slot s k with
  | none => s
  | some r => if isLive r then handCancelled r cause (finishRecord k .cancelled cause s) else s

/-- Every live record is cancelled in queue order (R55). -/
def cancelAll (cause : EndCause) (s : State) : State := forEach (queueOrder s) (cancelRecord cause) s

/-! ### RED_LOST drops (R50) -/

/-- The group conflicts with a group marked RED_LOST (R48, R50). -/
def lostNear (s : State) (j : GroupId) : Bool :=
  allGroups.any fun i => conflicts s i j && (grp s i).redLost

/-- The record's release item on the group is WAITING. -/
def waitingRelease (s : State) (k : SlotId) (g : GroupId) : Bool :=
  (slot s k).any fun r => (itemOf r g).any fun it => it.kind == .release && it.outcome == .waiting

/-- A release group is dropped from its record (R50): its item goes and its claim is withdrawn; a record
left with no release group is cancelled with cause RED_LOST, one that keeps some raises a TRANSITION
notice for PLAN and CENTRAL and may be complete. -/
def dropRelease (k : SlotId) (g : GroupId) (s : State) : State :=
  match slot s k with
  | none => s
  | some r =>
    let s1 := withdrawClaim r.id g (modSlot k (dropItem g) s)
    if (releases (dropItem g r)).isEmpty && r.hadRelease then cancelRecord .redLost k s1
    else completeIfDone k (noticeOrigin r s1)

/-- The drops of a RED_LOST marking of group i (R50): each conflicting group with a WAITING release item
that stands in RED_WAIT, or in CLEAR or RED_MIN with a release claim. The marking is itself no event of R44: it
is the RED entries and the finished records that the drops bring which have activation examined. DESIGN CHOICE
(log 48): every drop of the marking is made before that. -/
def takeLostMarking (i : GroupId) (s : State) : State :=
  forEach allGroups
    (fun j s =>
      match (grp s j).claim with
      | none => s
      | some c =>
        match activeSlotOf s c.id with
        | none => s
        | some k =>
          if conflicts s i j && waitingRelease s k j && c.kind == .release &&
              ((grp s j).state == .redWait || (grp s j).state == .clear || (grp s j).state == .redMin) then
            dropRelease k j s
          else s)
    s

/-- The drops of an activation (R50): each WAITING release item whose group conflicts with a group
already marked RED_LOST. -/
def dropLostReleases (k : SlotId) (s : State) : State :=
  forEach allGroups
    (fun j s => if waitingRelease s k j && lostNear s j then dropRelease k j s else s) s

/-! ### Activation (R44, R45) -/

/-- Two records share a group in their sets. -/
def shareGroup (a b : TransRec) : Bool := allGroups.any fun g => named a g && named b g

/-- A release group of one record conflicts with a release group of the other. -/
def releasesConflict (s : State) (a b : TransRec) : Bool :=
  (releases a).any fun i => (releases b).any fun j => conflicts s i j

/-- Conditions (a) to (d) of R44 for a QUEUED record; `superiors` are the records ahead of it in queue
order that are still QUEUED. -/
def mayActivate (s : State) (superiors : List TransRec) (x : TransRec) : Bool :=
  (allGroups.all fun g => !named x g || (grp s g).claim.isNone) &&
  ((liveRecs s).all fun q => q.state != .active || !releasesConflict s q x) &&
  (superiors.all fun q => !shareGroup q x && !releasesConflict s q x) &&
  (allGroups.all fun g => !named x g || (grp s g).state != .prepare)

/-- One item is settled at activation (R45): its claim is placed, and it is SATISFIED or stays WAITING by
the group's state. -/
def settleItem (k : SlotId) (g : GroupId) (s : State) : State :=
  match slot s k with
  | none => s
  | some r =>
    match itemOf r g with
    | none => s
    | some it =>
      let s1 := modGroup g (fun q => { q with claim := some { id := r.id, kind := it.kind } }) s
      match it.kind with
      | .terminate =>
        if isGreen s g then
          modGroup g (fun q => { q with pendingTerm := some (.transition r.cls r.id) }) s1
        else modSlot k (setOutcome g .satisfied) s1
      | .release =>
        if isGreen s g then modSlot k (setOutcome g .satisfied) s1
        else if (grp s g).state = .red then enterState g .redWait s1
        else s1

/-- The group holds a pending terminate of a transition. -/
def pendingOf (s : State) (id : TransId) (g : GroupId) : Bool :=
  match (grp s g).pendingTerm with
  | some (.transition _ i) => i == id
  | _ => false

/-- The pending terminates placed at an activation take effect where they may (R45). -/
def takePlaced (id : TransId) (s : State) : State :=
  forEach allGroups (fun g s => if pendingOf s id g then takeTerminate g s else s) s

/-- A QUEUED record becomes ACTIVE (R45): every item is settled, then the drops of R50 are made, then the
terminates it placed take effect, and a record with no WAITING item is complete at once. -/
def activate (k : SlotId) (s : State) : State :=
  match slot s k with
  | none => s
  | some r =>
    let s1 := modSlot k (fun q => { q with state := .active }) s
    let s2 := forEach allGroups (settleItem k) s1
    let s3 := dropLostReleases k s2
    completeIfDone k (takePlaced r.id s3)

/-- The examination goes through the QUEUED records in queue order; one that fails counts as a superior
of those behind it (R44). -/
def activationPass : List SlotId → List TransRec → State → State
  | [], _, s => s
  | k :: rest, superiors, s =>
    match slot s k with
    | none => activationPass rest superiors s
    | some r =>
      if r.state = .queued then
        if mayActivate s superiors r then activationPass rest superiors (activate k s)
        else activationPass rest (superiors ++ [r]) s
      else activationPass rest superiors s

/-! ### Scheduling (R48) -/

/-- The conditions of R48 hold for group j: it stands in RED_WAIT without S and T under a release claim of
an ACTIVE record, no conflicting group is in proceed or marked RED_LOST, and it is not inhibited. -/
def maySchedule (s : State) (j : GroupId) : Bool :=
  (grp s j).state == .redWait && (grp s j).schedule.isNone &&
  ((grp s j).claim.any fun c => c.kind == .release && (activeSlotOf s c.id).isSome) &&
  (allGroups.all fun i => !conflicts s i j || (!inProceed s i && !(grp s i).redLost)) &&
  !(grp s j).inhibited

/-- The RA writes S and T into a group it may schedule (R31, R48). -/
def scheduleGroup (j : GroupId) (s : State) : State :=
  if maySchedule s j then
    let sch := earliestGreen s j
    modGroup j (fun r => { r with schedule := some sch }) s
  else s

/-- Scheduling is examined for every group (R48). -/
def examineScheduling (s : State) : State := forEach allGroups scheduleGroup s

/-- The RA examines scheduling alone, in NORMAL only: at a change of an inhibited flag and at the clearing of a
RED_LOST flag (R48), which are no events of R44. -/
def examineSchedule (s : State) : State := if s.mode = .normal then examineScheduling s else s

/-- The RA examines activation and scheduling, in NORMAL only (R44, R48). -/
def examineArbiter (s : State) : State :=
  if s.mode = .normal then examineScheduling (activationPass (queueOrder s) [] s) else s

/-! ### State entries (R9, R34, R47, R51) -/

/-- An item is reached: a terminate item at the group's CLEAR entry, a release item at its GREEN_MIN
entry (R34), for the ACTIVE record that claims the group. -/
def markReached (g : GroupId) (kd : ItemKind) (s : State) : State :=
  match (grp s g).claim with
  | none => s
  | some c =>
    if c.kind = kd then
      match activeSlotOf s c.id with
      | none => s
      | some k =>
        let waiting :=
          (slot s k).any fun r => (itemOf r g).any fun it => it.kind == kd && it.outcome == .waiting
        if waiting then completeIfDone k (modSlot k (setOutcome g .reached) s) else s
    else s

/-- The RA takes a state entry of a group (R9): it marks an item reached, then examines activation and
scheduling. -/
def arbiterEntry (g : GroupId) (st : GState) (s : State) : State :=
  let s1 :=
    match st with
    | .greenMin => markReached g .release s
    | .clear => markReached g .terminate s
    | _ => s
  examineArbiter s1

/-! ### Tram posts (R39, R40, R53) -/

/-- The id a record in a slot holds. -/
def idAt (s : State) (k : SlotId) : Option TransId := (slot s k).map (·.id)

/-- The TPE cancels the TRAM record it posted; a record no longer live is left alone (R53, R139). -/
def cancelTramCall (id : TransId) (s : State) : State :=
  match liveSlotOf s id with
  | none => s
  | some k => cancelRecord .tramEngine k s

/-- The TPE changes the level and arrival of a live TRAM record; a QUEUED one takes its new place and
activation is re-examined (R40). -/
def updateTramCall (id : TransId) (call : TramCall) (s : State) : State :=
  match liveSlotOf s id with
  | none => s
  | some k => emit .arbiterExamine (modSlot k (fun r => { r with tram := some call }) s)

/-! ### The re-test after an apply (R24) -/

/-- The groups an apply has made UNUSED leave the sets of a live record; one left with both sets empty is
cancelled, one left with no WAITING item is complete (R24, R51). -/
def retestUnused (k : SlotId) (s : State) : State :=
  match slot s k with
  | none => s
  | some r =>
    if isLive r && allGroups.any (fun g => named r g && !used s g) then
      let gone := allGroups.filter fun g => named r g && !used s g
      let s1 := forEach gone (fun g s => withdrawClaim r.id g (modSlot k (dropItem g) s)) s
      if allGroups.all (fun g => !named r g || !used s g) then cancelRecord .config k s1
      else completeIfDone k s1
    else s

/-- The acceptance checks that use the conflict relation, for a live record (R24, R37 checks 3 and 5). -/
def retestPasses (s : State) (r : TransRec) : Bool :=
  ((releases r).all fun i => (releases r).all fun j => !conflicts s i j) &&
  (allGroups.all fun i =>
    !((releases r).any fun j => conflicts s i j) ||
    !(inProceed s i || (liveRecs s).any fun q => inSet .release q i) ||
    ((liveRecs s).any fun q => inSet .terminate q i))

/-- A live record that fails the re-test is cancelled (R24). -/
def retestConflicts (k : SlotId) (s : State) : State :=
  match slot s k with
  | none => s
  | some r => if isLive r && !retestPasses s r then cancelRecord .config k s else s

/-- An ACTIVE record whose release conflicts with one of an ACTIVE record ahead of it that is still ACTIVE
is cancelled (R24). -/
def retestActive (aheadSlots : List SlotId) (k : SlotId) (s : State) : State :=
  match slot s k with
  | none => s
  | some r =>
    if r.state = .active ∧
        (aheadSlots.any fun j => (slot s j).any fun q => q.state == .active && releasesConflict s q r) = true
    then cancelRecord .config k s
    else s

/-- The third step of R24 along the queue order. -/
def retestActivePass : List SlotId → List SlotId → State → State
  | [], _, s => s
  | k :: rest, before, s => retestActivePass rest (before ++ [k]) (retestActive before k s)

/-- The RA takes a configuration apply in the three steps of R24, then re-examines activation. -/
def retestAll (s : State) : State :=
  let s1 := forEach (queueOrder s) retestUnused s
  let s2 := forEach (queueOrder s1) retestConflicts s1
  let s3 := retestActivePass (queueOrder s2) [] s2
  emit .arbiterExamine s3

end Sys2Proof.Machine
end

