-- ==== Sys2Proof/Machine/Trams.lean ====
section
/-! DEFINITION. The tram priority engine: levels (R131), prediction (R132), check-in (R133, R134),
evaluation and calls (R135, R136), holds (R137 to R139), events from groups and arbiter (R140, R141),
removal (R142 to R145), and the engine's part of an apply (R148). -/

namespace Sys2Proof.Machine

open Sys2Proof

/-- What a check-in carries (R126, R133), checked by its receiver. -/
structure CheckIn where
  number : BitVec 16
  approach : ApproachId
  line : Byte
  route : Route
  distance : Nat
  speed : Nat
  lateness : Option Nat
  source : TramSource

/-! ### Level and prediction -/

/-- The level of a tram from its line and lateness (R131). -/
def tramLevel (img : Image) (line : Byte) (lateness : Option Nat) : Nat :=
  let base := baseLevelIn img line
  match lateness with
  | some l => if base ≠ 0 ∧ figure img .lateThreshold ≤ l then min 2 (base + 1) else base
  | none => base

/-- The speed used in the prediction (R132): the default for 0, 5 below 5, 80 above 80. -/
def usedSpeed (img : Image) (v : Nat) : Nat :=
  if v = 0 then figure img .defaultSpeed else if v < 5 then 5 else if 80 < v then 80 else v

/-- The travel time in ds: d × 36 ÷ v, rounded up, with d at most 2000 (R132). -/
def travelTime (img : Image) (d v : Nat) : Nat :=
  (min d 2000 * 36 + (usedSpeed img v - 1)) / usedSpeed img v

/-- The predicted arrival A of a check-in taken now (R132). -/
def predictedArrival (s : State) (d v : Nat) : Time := plusDs s.now (travelTime (cfg s) d v)

/-- The lost time of a record: A plus the lost margin (R132, R145). -/
def lostTime (s : State) (r : TramRec) : Time := plusDs r.arrival (figure (cfg s) .lostMargin)

/-! ### Holds (R137, R138) -/

/-- The latest H among the HOLDING records on a group (R138). -/
def latestHold (s : State) (g : GroupId) : Option Time :=
  (allEntries.filterMap fun k =>
    match tram s k with
    | some r => if r.group = g ∧ r.state = .holding then r.holdEnd else none
    | none => none).foldl
    (fun acc h =>
      match acc with
      | none => some h
      | some a => some (later a h))
    none

/-- The hold-until of a TRAM group is recomputed and written into its record (R138). -/
def recomputeHold (g : GroupId) (s : State) : State := setHoldUntil g (latestHold s g) s

/-- The cap of a hold: green start plus maximum hold (R137). An absent green start is no constraint (R8). -/
def holdCap (s : State) (g : GroupId) : Option Time :=
  (grp s g).greenStart.map fun t => plusDs t (maxHoldIn (cfg s) g)

/-- The hold end H of a record on its green group, and whether the cap decided it (R137). -/
def holdEndOf (s : State) (r : TramRec) : Time × Bool :=
  let h := plusDs r.arrival (figure (cfg s) .holdMargin)
  match holdCap s r.group with
  | none => (h, false)
  | some cap => if after h cap then (cap, true) else (h, false)

/-- The record takes a hold end: HOLDING when it is after now, otherwise OVERDUE; an entry to HOLDING from
another state adds 1 to the holds statistic (R135, R137). -/
def takeHold (k : EntryId) (r : TramRec) (h : Time) (capped : Bool) (s : State) : State :=
  let st : TramState := if after h s.now then .holding else .overdue
  let s1 := modTram k (fun r => { r with holdEnd := some h, capped := capped, state := st, awaitsSlot := false }) s
  if st = .holding ∧ r.state ≠ .holding then modStats r.approach (fun c => { c with holds := satInc c.holds }) s1
  else s1

/-- H is worked out anew and taken (R137): a computation decided by the cap adds 1 to the capped-holds
statistic. -/
def computeHold (k : EntryId) (r : TramRec) (s : State) : State :=
  let (h, capped) := holdEndOf s r
  let s1 := takeHold k r h capped s
  if capped then modStats r.approach (fun c => { c with capped := satInc c.capped }) s1 else s1

/-! ### Calls (R136, R139) -/

/-- The terminate set of a post for a group (R136). -/
def callTerminates (s : State) (g : GroupId) : List GroupId :=
  allGroups.filter fun i =>
    conflicts s i g && (inProceed s i || (liveRecs s).any fun q => inSet .release q i)

/-- A record posts its call (R136): written, it takes the id and counts the call; with no slot it stays
CALLING and waits for one. -/
def postCall (k : EntryId) (r : TramRec) (s : State) : State :=
  match freeSlot s with
  | none => modTram k (fun r => { r with state := .calling, transition := none, awaitsSlot := true }) s
  | some slt =>
    let id := nextId s
    let s1 :=
      writeRecordAt slt .tram (.tram r.number r.approach) (callTerminates s r.group) [r.group]
        (some { level := r.level, arrival := r.arrival }) s
    modStats r.approach (fun c => { c with calls := satInc c.calls })
      (modTram k
        (fun r =>
          { r with state := .calling, transition := some id, calls := r.calls + 1, awaitsSlot := false })
        s1)

/-- The record's live transition, if any, is cancelled and its id dropped (R139). -/
def cancelCall (k : EntryId) (r : TramRec) (s : State) : State :=
  match r.transition with
  | none => s
  | some id => modTram k (fun r => { r with transition := none }) (cancelTramCall id s)

/-! ### Evaluation (R135) -/

/-- Row 1 of R135 holds. -/
def mustObserve (s : State) (r : TramRec) : Bool :=
  r.level == 0 || (grp s r.group).inhibited || (grp s r.group).priorityInhibited || s.mode != .normal

/-- The record takes a state with no hold end, and waits for no slot. -/
def setTramState (k : EntryId) (st : TramState) (s : State) : State :=
  modTram k (fun r => { r with state := st, holdEnd := none, awaitsSlot := false }) s

/-- The TPE evaluates a record (R135); `anew` has H worked out anew on a green group. -/
def evaluate (k : EntryId) (anew : Bool) (s : State) : State :=
  match tram s k with
  | none => s
  | some r =>
    let s1 :=
      if mustObserve s r then setTramState k .observed (cancelCall k r s)
      else if isGreen s r.group then
        match r.state, r.holdEnd, anew with
        | .holding, some h, false => takeHold k r h r.capped s
        | .overdue, some h, false => takeHold k r h r.capped s
        | _, _, _ => computeHold k r s
      else if r.transition.isSome then setTramState k .calling s
      else if (grp s r.group).state = .prepare then setTramState k .calling s
      else if r.calls < 2 then postCall k r (setTramState k .calling s)
      else setTramState k .observed s
    recomputeHold r.group s1

/-- The first record stands ahead of the second in the order of R136: level, then arrival. -/
def tramAhead (a b : TramRec) : Bool :=
  if a.level ≠ b.level then a.level > b.level else after b.arrival a.arrival

/-- An entry takes its place behind every record that is not strictly behind it. -/
def insertEntry (s : State) (k : EntryId) : List EntryId → List EntryId
  | [] => [k]
  | j :: rest =>
    match tram s k, tram s j with
    | some a, some b => if tramAhead a b then k :: j :: rest else j :: insertEntry s k rest
    | _, _ => j :: insertEntry s k rest

/-- The entries whose record meets a condition, in the order of R136: level 2 before level 1, then the
earlier A, then the lower list entry. -/
def tramOrder (p : TramRec → Bool) (s : State) : List EntryId :=
  (allEntries.filter fun k => (tram s k).any p).foldl (fun acc k => insertEntry s k acc) []

/-- The records that meet a condition are evaluated one after another (R135). -/
def evaluateWhere (p : TramRec → Bool) (anew : Bool) (s : State) : State :=
  emitAll ((tramOrder p s).map fun k => .tramEvaluate k anew) s

/-- The record waits for a transition slot, and no evaluation that would end the wait stands due: row 1 of R135 does
not hold and its group is not green. DESIGN CHOICE (log 19): an evaluation that stands due in the same command counts
as taken first. A waiting record whose group is in PREPARE waits on (R39, R130, R136). -/
def waitsForSlot (s : State) (r : TramRec) : Bool :=
  r.awaitsSlot && r.state == .calling && r.transition.isNone && decide (r.calls < 2) && !mustObserve s r &&
    !isGreen s r.group

/-- A slot-free event posts the waiting records again, in order (R35, R136): the first takes the slot, if there is
one, and the others wait for the next event. -/
def takeSlotFree (s : State) : State :=
  match tramOrder (waitsForSlot s) s with
  | [] => s
  | k :: _ =>
    match tram s k with
    | some r => postCall k r s
    | none => s

/-! ### Events from the groups and the arbiter (R140, R141) -/

/-- At a GREEN_MIN entry a record on the group drops its transition id, and a transition still QUEUED is
cancelled (R140). DESIGN CHOICE (log 48): every record on the group drops its id before the RA examines
activation. -/
def dropAtGreen (g : GroupId) (k : EntryId) (s : State) : State :=
  match tram s k with
  | none => s
  | some r =>
    if r.group = g then
      match r.transition with
      | none => s
      | some id =>
        let queued := (liveSlotOf s id).any fun j => (slot s j).any fun q => q.state == .queued
        modTram k (fun r => { r with transition := none }) (if queued then cancelTramCall id s else s)
    else s

/-- At a CLEAR entry a record on the group that is HOLDING or OVERDUE has H made absent (R140). -/
def dropHold (g : GroupId) (k : EntryId) (s : State) : State :=
  match tram s k with
  | none => s
  | some r =>
    if r.group = g ∧ (r.state = .holding ∨ r.state = .overdue) then
      modTram k (fun r => { r with holdEnd := none }) s
    else s

/-- The record on the group has a hold to end (R140). -/
def heldOn (g : GroupId) (r : TramRec) : Bool :=
  r.group == g && (r.state == .holding || r.state == .overdue)

/-- The TPE takes a GREEN_MIN or CLEAR entry of a TRAM group (R140). -/
def tramEntry (g : GroupId) (st : GState) (s : State) : State :=
  match st with
  | .greenMin => evaluateWhere (fun r => r.group == g) true (forEach allEntries (dropAtGreen g) s)
  | .clear => evaluateWhere (heldOn g) false (forEach allEntries (dropHold g) s)
  | _ => s

/-- The TPE takes the cancellation of a TRAM transition: its record drops the id and is evaluated (R141). -/
def tramCancelled (id : TransId) (s : State) : State :=
  match allEntries.find? fun k => (tram s k).any fun r => r.transition == some id with
  | none => s
  | some k => evaluate k false (modTram k (fun r => { r with transition := none }) s)

/-! ### Check-in (R133, R134) -/

/-- The entry whose record has a tram number and approach (R133). -/
def findTram (s : State) (number : BitVec 16) (a : ApproachId) : Option EntryId :=
  allEntries.find? fun k => (tram s k).any fun r => r.number == number && r.approach == a

/-- The empty entry with the lowest number (R130). -/
def freeEntry (s : State) : Option EntryId := allEntries.find? fun k => (tram s k).isNone

/-- A new record from a check-in (R133). -/
def newTram (s : State) (c : CheckIn) (g : GroupId) : TramRec where
  number := c.number
  approach := c.approach
  line := c.line
  route := c.route
  group := g
  source := c.source
  checkInAt := s.now
  arrival := predictedArrival s c.distance c.speed
  level := tramLevel (cfg s) c.line c.lateness
  lateness := c.lateness
  capped := false
  calls := 0
  transition := none
  holdEnd := none
  state := .observed
  awaitsSlot := false

/-- The record's group has changed (R134): its live transition is cancelled, H made absent, the call count
and the capped flag cleared, and the old group's hold-until recomputed. DESIGN CHOICE (log 39): the record is
OBSERVED until its evaluation, so one that was HOLDING and is held on the new group enters HOLDING again. -/
def changeGroup (k : EntryId) (r : TramRec) (g : GroupId) (s : State) : State :=
  recomputeHold r.group
    (modTram k
      (fun q =>
        { q with
          group := g, holdEnd := none, calls := 0, capped := false, state := .observed, awaitsSlot := false })
      (cancelCall k r s))

/-- A check-in updates the record it matches (R134), whose route now gives group g; the record is then
evaluated. DESIGN CHOICE (log 49): a level of 0 is handed to the live call too (R40), which the evaluation then
cancels. -/
def updateTram (k : EntryId) (r : TramRec) (c : CheckIn) (g : GroupId) (s : State) : State :=
  let level := tramLevel (cfg s) c.line c.lateness
  let arrival := predictedArrival s c.distance c.speed
  let write := fun (q : TramRec) =>
    { q with
      line := c.line, route := c.route, source := c.source, checkInAt := s.now,
      lateness := c.lateness, level := level, arrival := arrival }
  let s1 := modTram k write s
  let r1 := write r
  if g = r.group then
    let s2 :=
      match r.transition with
      | some id => updateTramCall id { level := level, arrival := arrival } s1
      | none => s1
    let s3 :=
      if (r.state = .holding ∨ r.state = .overdue) ∧ isGreen s r.group = true then
        recomputeHold g (computeHold k r1 s2)
      else s2
    evaluate k false s3
  else evaluate k false (changeGroup k r1 g s1)

/-- What became of a check-in (R133). -/
inductive CheckInResult where
  | noRoute
  | listFull
  | taken
  deriving DecidableEq, Repr

/-- The TPE takes a check-in (R133). -/
def takeCheckIn (c : CheckIn) (s : State) : State × CheckInResult :=
  match routeGroupIn (cfg s) c.approach c.route with
  | none => (s, .noRoute)
  | some g =>
    match findTram s c.number c.approach with
    | some k =>
      match tram s k with
      | some r => (updateTram k r c g s, .taken)
      | none => (s, .taken)
    | none =>
      match freeEntry s with
      | some k => (evaluate k false { s with trams := put s.trams k (some (newTram s c g)) }, .taken)
      | none => (s, .listFull)

/-- A check-in telegram that makes or matches no record is counted; one dropped for a full list raises a
TRAM notice (R133, R149). -/
def beaconCheckIn (c : CheckIn) (s : State) : State :=
  match takeCheckIn c s with
  | (s1, .taken) => s1
  | (s1, .noRoute) => { s1 with tramDrops := { s1.tramDrops with noRoute := satInc s1.tramDrops.noRoute } }
  | (s1, .listFull) =>
    raiseFor .tram [.plan, .tramnet]
      { s1 with tramDrops := { s1.tramDrops with listFull := satInc s1.tramDrops.listFull } }

/-! ### Removal (R142 to R145) -/

/-- A record is removed (R142): its live transition is cancelled, its entry emptied, and its group's
hold-until recomputed if it was HOLDING. -/
def removeTram (k : EntryId) (r : TramRec) (s : State) : State :=
  let s1 := cancelCall k r s
  let s2 : State := { s1 with trams := put s1.trams k none }
  if r.state = .holding then recomputeHold r.group s2 else s2

/-- A check-out removes a record and counts for its approach (R143). -/
def checkOut (k : EntryId) (r : TramRec) (s : State) : State :=
  removeTram k r (modStats r.approach (fun c => { c with checkOuts := satInc c.checkOuts }) s)

/-- A check-out, cancel or treadle with no record to take is counted (R143, R144). -/
def countUnmatched (s : State) : State :=
  { s with tramDrops := { s.tramDrops with unmatched := satInc s.tramDrops.unmatched } }

/-- A CHECK_OUT telegram (R143). -/
def beaconCheckOut (number : BitVec 16) (a : ApproachId) (s : State) : State :=
  match findTram s number a with
  | none => countUnmatched s
  | some k =>
    match tram s k with
    | some r => checkOut k r s
    | none => s

/-- A CANCEL telegram (R144). -/
def beaconCancel (number : BitVec 16) (a : ApproachId) (s : State) : State :=
  match findTram s number a with
  | none => countUnmatched s
  | some k =>
    match tram s k with
    | some r => removeTram k r s
    | none => s

/-- The record on an approach with the earliest A; among equal A the lower list entry (R143). -/
def earliestOn (s : State) (a : ApproachId) : Option EntryId :=
  (allEntries.filter fun k => (tram s k).any fun r => r.approach == a).foldl
    (fun best k =>
      match best with
      | none => some k
      | some j =>
        match tram s k, tram s j with
        | some x, some y => if after y.arrival x.arrival then some k else some j
        | _, _ => some j)
    none

/-- A check-out from a TRAM loop or a TRAM_STOP input (R117, R143). -/
def loopCheckOut (a : ApproachId) (s : State) : State :=
  match earliestOn s a with
  | none => countUnmatched s
  | some k =>
    match tram s k with
    | some r => checkOut k r s
    | none => s

/-- The lost timer of a record expires (R145). -/
def loseTram (k : EntryId) (r : TramRec) (s : State) : State :=
  raiseFor .tram [.plan, .tramnet]
    (removeTram k r (modStats r.approach (fun c => { c with lost := satInc c.lost }) s))

/-! ### Configuration apply (R148) -/

/-- The apply has shortened the lost margin to a point that the record has already passed (R145). -/
def marginPassed (old : Image) (s : State) (r : TramRec) : Bool :=
  decide (figure (cfg s) .lostMargin < figure old .lostMargin) && atOrAfter s.now (lostTime s r)

/-- One record takes the new routes, lines and lost margin (R145, R148); `old` is the image before the apply. A
record that has lost its route is removed for that, one past a shortened lost margin as lost (log 36). -/
def applyTram (old : Image) (k : EntryId) (s : State) : State :=
  match tram s k with
  | none => s
  | some r =>
    match routeGroupIn (cfg s) r.approach r.route with
    | none => removeTram k r s
    | some g =>
      if marginPassed old s r then loseTram k r s
      else
        let level := tramLevel (cfg s) r.line r.lateness
        let s1 := modTram k (fun q => { q with level := level }) s
        if g = r.group then s1 else changeGroup k { r with level := level } g s1

/-- The TPE takes a configuration apply (R148); the evaluations follow. DESIGN CHOICE (log 48): every record takes the
apply before the RA examines activation for a call that one of them has lost, and (log 50) before the TPE takes a CONFIG
cancellation of a call (R141). -/
def applyTrams (old : Image) (s : State) : State :=
  emit .tramEvaluateAll (forEach allEntries (applyTram old) s)

end Sys2Proof.Machine
end

