-- ==== Sys2Proof/Machine/Beacon.lean ====
section
/-! DEFINITION. The beacon receiver: sub-cell sampling and the byte assembler (R119), breaks (R120), the
telegram assembler (R121, R122), the check and the contents of a telegram (R123 to R125), its hand-off
(R126), and the receiver's part of an apply (R128). -/

namespace Sys2Proof.Machine

open Sys2Proof

/-- Sub-cells in one character time: ten bits of 16 (R118). -/
def characterCells : Nat := 160

/-- The break time: two character times (R118, R120). -/
def breakCells : Nat := 2 * characterCells

/-- The gap limit: three character times (R118, R122). -/
def gapCells : Nat := 3 * characterCells

/-- The state with the beacon receiver changed. -/
def modBeacon (f : BeaconRec → BeaconRec) (s : State) : State := { s with beacon := f s.beacon }

/-- The receiver with its counters changed. -/
def countBeacon (f : BeaconCounts → BeaconCounts) (b : BeaconRec) : BeaconRec :=
  { b with counts := f b.counts }

/-! ### Sampling (R118, R119, R120) -/

/-- A Bool as 0 or 1. -/
def bitNat (b : Bool) : Nat := if b then 1 else 0

/-- The byte with the bit of a data cell set as decided; cell 1 is the least significant bit (R119). -/
def putDataBit (data : Byte) (cell : Nat) (bit : Bool) : Byte :=
  if bit then data ||| (1#8 <<< (cell - 1)) else data

/-- The byte assembler at the 9/16 sample of a cell, which decides the cell by majority (R119). -/
def decideCell (subCell ones : Nat) (data : Byte) : ByteAssembler :=
  let cell := subCell / 16
  let bit := decide (2 ≤ ones)
  if cell = 0 then if bit then .waitingHigh else .receiving subCell 0 data none
  else if 9 ≤ cell then .receiving subCell ones data (some bit)
  else .receiving subCell 0 (putDataBit data cell bit) none

/-- The byte assembler takes one sample (R119). The cell's three samples fall 7, 8 and 9 sub-cells into
it; a decided stop bit is held until BYTE_COMPLETE or FRAMING_ERROR takes it (log 22). -/
def sampleAssembler (level : Bool) : ByteAssembler → ByteAssembler
  | .waitingHigh => if level then .waitingEdge else .waitingHigh
  | .waitingEdge => if level then .waitingEdge else .receiving 0 0 0#8 none
  | .receiving n ones data (some stop) => .receiving n ones data (some stop)
  | .receiving n ones data none =>
    let m := n + 1
    match m % 16 with
    | 7 => .receiving m (bitNat level) data none
    | 8 => .receiving m (ones + bitNat level) data none
    | 9 => decideCell m (ones + bitNat level) data
    | _ => .receiving m ones data none

/-- How long BCN has stood at a level, one sample on: 0 at its first sample there, absent at the other
level, held at a limit. -/
def standing (limit : Nat) (here : Bool) (before : Option Nat) : Option Nat :=
  if here then
    match before with
    | none => some 0
    | some n => some (min limit (n + 1))
  else none

/-- One sample of BCN (R119, R120, R122). While BROKEN the byte assembler takes nothing. -/
def sampleBeacon (level : Bool) (b : BeaconRec) : BeaconRec :=
  { b with
    level := level
    assembler := if b.receiver = .broken then b.assembler else sampleAssembler level b.assembler
    lowFor := standing breakCells (!level) b.lowFor
    highFor := standing characterCells level b.highFor
    sinceByte := if b.receiver = .assembling then min gapCells (b.sinceByte + 1) else b.sinceByte }

/-- A byte has completed and waits to be taken: its value (R119). -/
def completedByte (b : BeaconRec) : Option Byte :=
  match b.assembler with
  | .receiving _ _ data (some true) => some data
  | _ => none

/-- A stop bit has been decided 0 and waits to be taken (R119). -/
def framingDue (b : BeaconRec) : Bool :=
  match b.assembler with
  | .receiving _ _ _ (some false) => true
  | _ => false

/-- The gap timer has expired (R122). -/
def gapDue (b : BeaconRec) : Bool := b.receiver == .assembling && decide (gapCells ≤ b.sinceByte)

/-- BCN has been at 0 for two character times and the receiver is not BROKEN (R120). -/
def breakDue (b : BeaconRec) : Bool :=
  b.receiver != .broken && b.lowFor.any fun n => decide (breakCells ≤ n)

/-- The receiver is BROKEN and BCN has been at 1 for one character time (R120). -/
def brokenWaitDue (b : BeaconRec) : Bool :=
  b.receiver == .broken && b.highFor.any fun n => decide (characterCells ≤ n)

/-! ### Bytes to telegrams (R119 to R122) -/

/-- The telegram assembler drops the bytes it holds and enters IDLE (R121, R122). -/
def dropTelegram (b : BeaconRec) : BeaconRec :=
  { b with telegram := [], receiver := if b.receiver = .broken then .broken else .idle }

/-- A framing error (R119, R121). -/
def framingBeacon (b : BeaconRec) : BeaconRec :=
  countBeacon (fun c => { c with framing := satInc c.framing })
    (dropTelegram { b with assembler := .waitingHigh })

/-- The gap timer expires (R122). -/
def gapBeacon (b : BeaconRec) : BeaconRec :=
  countBeacon (fun c => { c with gapDrops := satInc c.gapDrops }) (dropTelegram b)

/-- A break (R120): the receiver enters BROKEN; a character in reception has ended. -/
def breakBeacon (b : BeaconRec) : BeaconRec :=
  countBeacon (fun c => { c with breaks := satInc c.breaks })
    { b with receiver := .broken, assembler := .waitingHigh, telegram := [] }

/-- The wait at 1 is complete (R120). -/
def mendBeacon (b : BeaconRec) : BeaconRec := { b with receiver := .idle, assembler := .waitingEdge }

/-- The telegram assembler takes a byte, by the table of R121; the second part is the telegram that the
byte completes. -/
def takeByte (now : Time) (byte : Byte) (b : BeaconRec) : BeaconRec × Option (List Byte) :=
  match b.receiver with
  | .idle =>
    if byte = 0xC3#8 then
      ({ b with receiver := .assembling, telegram := [byte], lastByteAt := now, sinceByte := 0 }, none)
    else (countBeacon (fun c => { c with stray := satInc c.stray }) b, none)
  | .assembling =>
    if b.telegram.length < 11 then
      ({ b with telegram := b.telegram ++ [byte], lastByteAt := now, sinceByte := 0 }, none)
    else ({ b with receiver := .idle, telegram := [] }, some (b.telegram ++ [byte]))
  | .broken => (b, none)

/-! ### Contents (R124, R125, R126) -/

/-- What an accepted telegram says (R124, R126). -/
inductive Message where
  | checkIn (c : CheckIn)
  | checkOut (number : BitVec 16)
  | cancel (number : BitVec 16)
  | status

/-- The twelfth byte is the check of the eleven before it (R123). -/
def checkHolds (telegram : List Byte) : Bool := telegram.drop 11 == [crc8 (telegram.take 11)]

/-- A tram number is valid (R124). -/
def validTram (number : BitVec 16) : Bool := decide (number.toNat ≤ 9999)

/-- Lateness as a telegram carries it: 0 to 127, or not given (R124). -/
def latenessOf (b : Byte) : Option Nat := if b.toNat < 128 then some b.toNat else none

/-- The message of a kind code allowed for a function, or none at the first of content checks 2 to 5 that
fails (R124, R125). -/
def messageOf (fn : BeaconFunction) (a : ApproachId) (kindCode : Byte) (number : BitVec 16)
    (line route : Byte) (distance : BitVec 16) (speed lateness : Byte) : Option Message :=
  match kindCode.toNat, fn with
  | 1, .pre =>
    if validTram number then
      (routeOfCode route).map fun r =>
        .checkIn
          { number := number, approach := a, line := line, route := r, distance := distance.toNat,
            speed := speed.toNat, lateness := latenessOf lateness, source := .beacon }
    else none
  | 2, .stop => if validTram number then some (.checkOut number) else none
  | 3, .pre => if validTram number then some (.cancel number) else none
  | 3, .stop => if validTram number then some (.cancel number) else none
  | 4, .pre => some .status
  | 4, .stop => some .status
  | _, _ => none

/-- The beacon, its approach and the message of a telegram whose check holds; none when a content check
fails (R124, R125). -/
def contentsOf (img : Image) (telegram : List Byte) : Option (BeaconId × ApproachId × Message) :=
  match telegram with
  | [_, bcn, kindCode, n1, n0, line, route, d1, d0, speed, lateness, _] =>
    if h : bcn.toNat < 16 then
      let beacon : BeaconId := ⟨bcn.toNat, h⟩
      let entry := look img.beacons beacon
      match beaconFn entry, approachOfNat entry.approach.toNat with
      | .off, _ => none
      | _, none => none
      | fn, some a =>
        (messageOf fn a kindCode (word16 n1 n0) line route (word16 d1 d0) speed lateness).map
          fun m => (beacon, a, m)
    else none
  | _ => none

/-- An accepted telegram is handed to the tram priority engine (R126). -/
def handMessage (a : ApproachId) (m : Message) (s : State) : State :=
  match m with
  | .checkIn c => beaconCheckIn c s
  | .checkOut number => beaconCheckOut number a s
  | .cancel number => beaconCancel number a s
  | .status => s

/-- An accepted telegram counts and refreshes its beacon (R125, R126). -/
def acceptBeacon (now : Time) (beacon : BeaconId) (b : BeaconRec) : BeaconRec :=
  countBeacon (fun c => { c with accepted := satInc c.accepted })
    { b with lastHeard := put b.lastHeard beacon (some now) }

/-- A complete telegram is checked (R123, R124) and, when accepted, handed on (R126). -/
def takeTelegram (telegram : List Byte) (s : State) : State :=
  if checkHolds telegram then
    match contentsOf (cfg s) telegram with
    | some (beacon, a, m) => handMessage a m (modBeacon (acceptBeacon s.now beacon) s)
    | none => modBeacon (countBeacon fun c => { c with contentDrops := satInc c.contentDrops }) s
  else modBeacon (countBeacon fun c => { c with checkFailures := satInc c.checkFailures }) s

/-- A completed byte is taken by the telegram assembler; the byte assembler looks for the next start edge
(R119, R121). -/
def takeCompleted (byte : Byte) (s : State) : State :=
  let (b, done) := takeByte s.now byte { s.beacon with assembler := .waitingEdge }
  let s1 := { s with beacon := b }
  match done with
  | some telegram => takeTelegram telegram s1
  | none => s1

/-! ### Configuration apply (R128) -/

/-- The receiver takes a change of the beacon speed (R128). -/
def changeSpeed (b : BeaconRec) : BeaconRec :=
  let low := if b.level then none else some 0
  let high := if b.level then some 0 else none
  if b.receiver = .broken then { b with lowFor := low, highFor := high }
  else { dropTelegram b with assembler := .waitingHigh, lowFor := low, highFor := high }

/-- The BRX takes a configuration apply (R128). -/
def applyBeacon (old : Image) (s : State) : State :=
  if figure old .beaconSpeed = figure (cfg s) .beaconSpeed then s else modBeacon changeSpeed s

end Sys2Proof.Machine
end

