-- ==== Sys2Proof/Machine/Demands.lean ====
section
/-! DEFINITION. The demand and extension logic: registering a demand (R111, R112), the permanent demand of
a failed detector (R113), and the gap clock (R116). -/

namespace Sys2Proof.Machine

open Sys2Proof

/-- The configuration record of a channel. -/
def loopCfg (s : State) (ch : ChannelId) : LoopCfg := look (cfg s).loops ch

/-- The configuration record of an input. -/
def inputCfg (s : State) (i : InputId) : InputCfg := look (cfg s).inputs i

/-- The channel is a DEMAND or EXTEND channel of the group and OCCUPIED (R111). -/
def channelOccupies (s : State) (g : GroupId) (ch : ChannelId) : Bool :=
  loopFeeds (loopCfg s ch) == some g && (channel s ch).state == .occupied

/-- The input is a DEMAND or EXTEND input of the group and ACTIVE (R111). -/
def inputOccupies (s : State) (g : GroupId) (i : InputId) : Bool :=
  inputFeeds (inputCfg s i) == some g && (inputRec s i).active

/-- The channel is a DEMAND or EXTEND channel of the group and in FAULT (R113, R116). -/
def channelFailed (s : State) (g : GroupId) (ch : ChannelId) : Bool :=
  loopFeeds (loopCfg s ch) == some g && (channel s ch).state == .fault

/-- A demand is registered now, not permanent. -/
def newDemand (s : State) (src : DemandSource) : Demand :=
  { source := src, registeredAt := s.now, permanent := false }

/-- An occupation of a group by a source (R111): registered when the group is a used group out of proceed
with no demand. -/
def occupy (src : DemandSource) (g : GroupId) (s : State) : State :=
  if used s g && !inProceed s g && (grp s g).demand.isNone then
    modGroup g (fun r => { r with demand := some (newDemand s src) }) s
  else s

/-- The source that occupies a group at its CLEAR entry (R112): the lowest-numbered occupying channel, or
the lowest-numbered occupying input when no channel occupies it. -/
def occupyingSource (s : State) (g : GroupId) : Option DemandSource :=
  match allChannels.find? (channelOccupies s g) with
  | some ch => some (.loop ch)
  | none => (allInputs.find? (inputOccupies s g)).map .input

/-- The demand logic takes a CLEAR entry of a used group (R112). -/
def takeClearEntry (g : GroupId) (s : State) : State :=
  if used s g && (grp s g).demand.isNone then
    match occupyingSource s g with
    | some src => modGroup g (fun r => { r with demand := some (newDemand s src) }) s
    | none => s
  else s

/-- The demand record as a fault entry of a channel of the group leaves it (R113). -/
def failedDemand (s : State) (ch : ChannelId) : Option Demand → Demand
  | none => { source := .failedDetector ch, registeredAt := s.now, permanent := true }
  | some d => if d.permanent then d else { d with source := .failedDetector ch, permanent := true }

/-- A channel of the group enters FAULT (R113). -/
def takeFaultEntry (ch : ChannelId) (g : GroupId) (s : State) : State :=
  if used s g then modGroup g (fun r => { r with demand := some (failedDemand s ch r.demand) }) s else s

/-- A channel of the group has left FAULT (R113): with another of its channels still in FAULT the
permanent demand takes the lowest of them as its source, with none its permanent flag is cleared. -/
def takeFaultLeft (g : GroupId) (s : State) : State :=
  modGroup g
    (fun r =>
      { r with
        demand := r.demand.map fun d =>
          if d.permanent then
            match allChannels.find? (channelFailed s g) with
            | some ch => { d with source := .failedDetector ch }
            | none => { d with permanent := false }
          else d })
    s

/-- A condition holds the gap clock of a group (R116): an EXTEND channel of it OCCUPIED, an EXTEND input of
it ACTIVE, or a DEMAND or EXTEND channel of it in FAULT. -/
def gapHeld (s : State) (g : GroupId) : Bool :=
  (allChannels.any fun ch =>
    channelFailed s g ch || (channelOccupies s g ch && loopFn (loopCfg s ch) == .extend)) ||
  (allInputs.any fun i => inputOccupies s g i && inputFn (inputCfg s i) == .extend)

/-- The gap clock follows its holding conditions (R116): held while one holds, restarted from now at the
instant the last of them ends. -/
def updateGap (g : GroupId) (s : State) : State :=
  if used s g then
    if gapHeld s g then modGroup g (fun r => { r with gap := .held }) s
    else if (grp s g).gap = .held then modGroup g (fun r => { r with gap := .running s.now }) s
    else s
  else s

/-- What a change of a channel's state does but for the gap clock, by the function of a configuration record
(R102): demands of DEMAND and EXTEND channels (R111, R113), occupations of TRAM channels as check-outs (R117). -/
def handOccupancy (c : LoopCfg) (ch : ChannelId) (old new : ChState) (s : State) : State :=
  match loopFeeds c, loopChecksOut c with
  | some g, _ =>
    let s1 := if new = .occupied ∧ old ≠ .occupied then occupy (.loop ch) g s else s
    let s2 := if new = .fault ∧ old ≠ .fault then takeFaultEntry ch g s1 else s1
    if old = .fault ∧ new ≠ .fault then takeFaultLeft g s2 else s2
  | none, some a => if new = .occupied ∧ old ≠ .occupied then loopCheckOut a s else s
  | none, none => s

/-- The gap clock of a group that a record feeds, if it feeds one, follows its holding conditions (R116). -/
def updateGapOf (fed : Option GroupId) (s : State) : State :=
  match fed with
  | some g => updateGap g s
  | none => s

/-- A channel hands the change of its state on by the function of a configuration record (R102): DEMAND
and EXTEND to the demand logic, TRAM occupations to the TPE as a check-out (R117). -/
def handChannel (c : LoopCfg) (ch : ChannelId) (old new : ChState) (s : State) : State :=
  updateGapOf (loopFeeds c) (handOccupancy c ch old new s)

/-- An input hands its activation on by the function of a configuration record (R110). -/
def handActivation (c : InputCfg) (i : InputId) (s : State) : State :=
  match inputFeeds c, inputChecksOut c with
  | some g, _ => updateGap g (occupy (.input i) g s)
  | none, some a => loopCheckOut a s
  | none, none => s

/-- An input hands its release on by the function of a configuration record (R110). -/
def handRelease (c : InputCfg) (s : State) : State := updateGapOf (inputFeeds c) s

end Sys2Proof.Machine
end

