-- ==== Sys2Proof/Machine/Loops.lean ====
section
/-! DEFINITION. The loop measurement unit: the engines (R91), judging a count (R93), shift (R94),
occupancy (R95, R96), tracking (R97, R98), the presence limit (R99), faults and recovery (R100, R101), and
the unit's part of an apply (R105). -/

namespace Sys2Proof.Machine

open Sys2Proof

/-- Periods N of a channel (R89). -/
def periodsOf (c : LoopCfg) : Nat := c.periods.toNat

/-- On-threshold T_on of a channel (R89). -/
def onThresholdOf (c : LoopCfg) : Nat := c.onThreshold.toNat

/-- Off-threshold T_off = T_on - max(1, T_on ÷ 4) (R96). -/
def offThresholdOf (c : LoopCfg) : Int :=
  (onThresholdOf c : Int) - max 1 (onThresholdOf c / 4 : Nat)

/-- Presence limit of a channel in ds, 0 for none (R89). -/
def presenceOf (c : LoopCfg) : Nat := c.presence.toNat

/-- C_min of N periods: 16,000,000 × N ÷ 120,000, rounded up (R93). -/
def countMin (n : Nat) : Nat := (16000000 * n + 119999) / 120000

/-- C_max of N periods: 16,000,000 × N ÷ 20,000, rounded down (R93). -/
def countMax (n : Nat) : Nat := 16000000 * n / 20000

/-- The result of a measurement (R93). -/
inductive Measured where
  | good (count : Nat)
  | bad (result : BadResult)
  deriving DecidableEq, Repr

/-- A completed count is judged against the valid range of N (R93). A count above C_max would have been
cut off as LOW_FREQ (R92). -/
def judgeCount (n count : Nat) : Measured :=
  if count < countMin n then .bad .highFreq
  else if countMax n < count then .bad .lowFreq
  else .good count

/-- The shift of a count against a baseline (R94): truncated toward zero, clamped to -9,999 … +9,999. -/
def shiftOf (baseline count : Nat) : Int :=
  max (-9999) (min 9999 (Int.tdiv (((baseline : Int) - count) * 10000) baseline))

/-- The channel enters FREE with a count as its baseline. -/
def settleOn (r : ChannelRec) (count : Nat) : ChannelRec :=
  { r with state := .free, baseline := some count, occupiedSince := none }

/-- A good count judged against the baseline in FREE or OCCUPIED (R94, R96). -/
def judgeOccupancy (c : LoopCfg) (now : Time) (count : Nat) (r : ChannelRec) : ChannelRec :=
  let s := shiftOf (r.baseline.getD count) count
  let r := { r with lastShift := some s }
  if r.state = .free then
    if (onThresholdOf c : Int) ≤ s then
      { r with state := .occupied, occupiedSince := some now, vehicles := r.vehicles + 1#16 }
    else r
  else if s < offThresholdOf c then
    { r with state := .free, occupiedSince := none, presenceExpired := false }
  else r

/-- A good measurement at the channel record (R93, R95, R96, R101). -/
def goodMeasurement (c : LoopCfg) (now : Time) (count : Nat) (r : ChannelRec) : ChannelRec :=
  let r := { r with lastCount := some count, goodRun := min 8 (r.goodRun + 1) }
  match r.state with
  | .disabled => r
  | .settling => { settleOn { r with badRun := 0 } count with lastShift := some 0 }
  | .free => judgeOccupancy c now count { r with badRun := 0 }
  | .occupied => judgeOccupancy c now count { r with badRun := 0 }
  | .fault =>
    if r.goodRun = 8 then
      { settleOn { r with badRun := 0 } count with lastShift := some 0, faultKind := none }
    else r

/-- A bad measurement at the channel record (R93, R100, R101). -/
def badMeasurement (result : BadResult) (r : ChannelRec) : ChannelRec :=
  let r := { r with goodRun := 0, badRun := min 3 (r.badRun + 1) }
  if r.state = .fault then { r with faultKind := some result }
  else if r.badRun = 3 then
    { r with state := .fault, occupiedSince := none, faultKind := some result }
  else r

/-- A measurement at the channel record. A DISABLED channel is not measured (R90). -/
def measure (c : LoopCfg) (now : Time) (m : Measured) (r : ChannelRec) : ChannelRec :=
  if r.state = .disabled then r
  else
    match m with
    | .good count => goodMeasurement c now count r
    | .bad result => badMeasurement result r

/-- A DETECTOR notice is raised (R103). -/
def raiseDetector (s : State) : State := raiseFor .detector [.plan, .service] s

/-- The channel of an engine and its place among the engine's four (R91). -/
def engineChannel (e : EngineId) (k : Fin 4) : ChannelId := ⟨4 * e.val + k.val, by omega⟩

/-- The places an engine passes through after a place, wrapping back to it (R91). -/
def placesAfter (k : Fin 4) : List (Fin 4) := [k + 1, k + 2, k + 3, k]

/-- The channel at an engine's place is not DISABLED. -/
def placeEnabled (s : State) (e : EngineId) (k : Fin 4) : Bool :=
  (channel s (engineChannel e k)).state != .disabled

/-- The next place an engine measures after a place (R91). -/
def nextPlace (s : State) (e : EngineId) (k : Fin 4) : Option (Fin 4) :=
  (placesAfter k).find? (placeEnabled s e)

/-- The lowest-numbered place of an engine whose channel is not DISABLED (R91). -/
def firstPlace (s : State) (e : EngineId) : Option (Fin 4) :=
  (List.finRange 4).find? (placeEnabled s e)

/-- The engine begins on a place, or is idle. -/
def setEngine (e : EngineId) (k : Option (Fin 4)) (s : State) : State :=
  { s with engines := put s.engines e k }

/-- A change of a channel's state raises a DETECTOR notice at FAULT entry and at recovery (R103), and is
handed on by the channel's function (R102). -/
def afterChannel (ch : ChannelId) (old : ChState) (s : State) : State :=
  let new := (channel s ch).state
  let s1 := if (new = .fault) ≠ (old = .fault) then raiseDetector s else s
  if new = old then s1 else handChannel (loopCfg s ch) ch old new s1

/-- A measurement completes on the channel an engine is measuring, and the engine goes on to its next
(R91, R92). An idle engine completes nothing. -/
def completeMeasurement (e : EngineId) (m : LoopCfg → Measured) (s : State) : State :=
  match look s.engines e with
  | none => s
  | some k =>
    let ch := engineChannel e k
    let old := (channel s ch).state
    let s1 := modChannel ch (measure (loopCfg s ch) s.now (m (loopCfg s ch))) s
    afterChannel ch old (setEngine e (nextPlace s1 e k) s1)

/-- The new baseline of a FREE channel at a tracking moment (R98). -/
def trackedBaseline (tOn b c : Nat) : Nat :=
  if shiftOf b c ≤ -(tOn : Int) then c
  else if c = b then b
  else
    let step := Int.tdiv ((c : Int) - b) 16
    if step ≠ 0 then ((b : Int) + step).toNat
    else if b < c then b + 1
    else b - 1

/-- A channel takes a tracking moment (R97, R98). -/
def track (c : LoopCfg) (r : ChannelRec) : ChannelRec :=
  match r.state, r.baseline, r.lastCount with
  | .free, some b, some count => { r with baseline := some (trackedBaseline (onThresholdOf c) b count) }
  | _, _, _ => r

/-- The presence timer of a channel has expired (R99). -/
def presenceDue (s : State) (ch : ChannelId) : Bool :=
  let r := channel s ch
  let limit := presenceOf (loopCfg s ch)
  r.state == .occupied && limit != 0 &&
    match r.occupiedSince with
    | some t => expired s.now t limit
    | none => false

/-- The channel gives up the vehicle (R99). -/
def giveUp (r : ChannelRec) : ChannelRec :=
  { r with state := .free, baseline := r.lastCount, occupiedSince := none, presenceExpired := true }

/-- The record of a channel that an apply restarts or disables (R105): the vehicle count is kept. -/
def restartChannel (c : LoopCfg) (r : ChannelRec) : ChannelRec :=
  { resetChannel (if loopFn c = .disabled then .disabled else .settling) with vehicles := r.vehicles }

/-- A channel's LOOPS record differs between two images (R105). -/
def loopChanged (old new : Image) (ch : ChannelId) : Bool := look old.loops ch != look new.loops ch

/-- The engine after an apply (R105): an idle one begins with its lowest enabled channel, one whose channel
was discarded with its next. -/
def applyEngine (old : Image) (e : EngineId) (s : State) : State :=
  match look s.engines e with
  | none => setEngine e (firstPlace s e) s
  | some k =>
    if loopChanged old (cfg s) (engineChannel e k) then setEngine e (nextPlace s e k) s else s

/-- The LMU takes a configuration apply (R105): changed channels restart, their leaving of FAULT or
OCCUPIED is handed to the neighbours of their old function, and the engines go on. The gap clocks follow once the
inputs have restarted too (`applyGaps`). DESIGN CHOICE (log 37): every changed channel has restarted before the
first leaving is handed on, so a group whose last failed channels all leave FAULT keeps the source its permanent
demand already has. -/
def applyLoops (old : Image) (s : State) : State :=
  let changed := allChannels.filter (loopChanged old (cfg s))
  let s1 := forEach changed (fun ch s => modChannel ch (restartChannel (loopCfg s ch)) s) s
  let s2 :=
    forEach changed
      (fun ch s' => handOccupancy (look old.loops ch) ch (channel s ch).state (channel s1 ch).state s') s1
  forEach (List.finRange 4) (applyEngine old) s2

end Sys2Proof.Machine
end

