-- ==== Sys2Proof/Machine/Inputs.lean ====
section
/-! DEFINITION. The contact input unit: sampling and debouncing (R108), the hand-off of a change (R110), and
the unit's part of an apply (R109). -/

namespace Sys2Proof.Machine

open Sys2Proof

/-- The raw level agrees with the debounced state: an input is active at logic 0 (R107, R108). -/
def agrees (r : InputRec) (raw : Bool) : Bool := r.active == !raw

/-- One sample of a pin (R108): a disagreeing level grows the run count, which waits at the debounce count
for its DEBOUNCED_STATE_CHANGE. -/
def sampleInput (samples : Nat) (raw : Bool) (r : InputRec) : InputRec :=
  if agrees r raw then { r with raw := raw, run := 0 }
  else { r with raw := raw, run := if r.run < samples then r.run + 1 else r.run }

/-- The run count has reached the debounce samples (R108). -/
def changeDue (samples : Nat) (r : InputRec) : Bool := decide (0 < r.run ∧ samples ≤ r.run)

/-- The debounced state changes: an activation counts (R108). -/
def changeInput (r : InputRec) : InputRec :=
  if r.active then { r with active := false, run := 0 }
  else { r with active := true, run := 0, activations := satInc r.activations }

/-- The debounced state of an input changes and the change is handed on by its function (R108, R110). -/
def changeDebounced (i : InputId) (s : State) : State :=
  let s1 := modInput i changeInput s
  if (inputRec s i).active then handRelease (inputCfg s i) s1 else handActivation (inputCfg s i) i s1

/-- An input's INPUTS record differs between two images (R109); with no active image the old one is the default
image (log 46). -/
def inputChanged (old new : Image) (i : InputId) : Bool := look old.inputs i != look new.inputs i

/-- The record of an input that an apply changes: INACTIVE, the activation count and last sample kept
(R109). -/
def restartInput (r : InputRec) : InputRec := { r with active := false, run := 0 }

/-- The CIU takes a configuration apply (R109): a changed input restarts. What the release of an ACTIVE one does at
the neighbour of its old function is to end a condition of the gap clock, which `applyGaps` follows once every
channel and input has restarted (R110, R116). -/
def applyInputs (old : Image) (s : State) : State :=
  forEach (allInputs.filter (inputChanged old (cfg s))) (fun i s => modInput i restartInput s) s

end Sys2Proof.Machine
end

