-- ==== Sys2Proof/Machine/Junction.lean ====
section
/-! DEFINITION. The junction mode controller: mode changes with what they hand on (R60 to R66, R69,
R72), the flash generator (R59), supervision (R67, R68) and the autostart (R73). -/

namespace Sys2Proof.Machine

open Sys2Proof

/-- The mode changes: mode-entered-at is now, every seen role gets a MODE notice (R72), and DARK groups
take their commands for the new mode (R75). DESIGN CHOICE (log 45): lamp drive takes the change before the blocks
it is handed to afterwards. -/
def enterMode (m : Mode) (s : State) : State :=
  refreshAllLamps (raiseAll .mode { s with mode := m, modeEnteredAt := s.now })

/-- START is entered in its flash phase (R61); the CFG examines a waiting commit (R168). -/
def enterStart (s : State) : State :=
  emit .configExamine (enterMode .start { s with startPhase := some (.flashPhase, s.now) })

/-- The junction enters DARK or FLASH with every group DARK; the START sub-phase and the CLEARING target
are removed (R58, R63, R65); the CFG examines a waiting commit (R168). -/
def enterResting (m : Mode) (s : State) : State :=
  emit .configExamine (forceAllDark (enterMode m { s with startPhase := none, clearTarget := none }))

/-- The mode a CLEARING target names. -/
def targetMode : ClearTarget → Mode
  | .dark => .dark
  | .flash => .flash

/-- What CLEARING entry hands to a neighbour, the RA and the SGT having taken it (R64). -/
def modeHandoff : Neighbour → Option Handoff
  | .tram => some .tramEvaluateAll
  | .config => some .configExamine
  | .junction => some .clearingExamine
  | .arbiter => none
  | .demand => none

/-- CLEARING is entered from NORMAL with its target (R64): supervision stops, every live transition is
cancelled with cause MODE (R55), each proceeding group receives a JUNCTION terminate (R17), the TPE takes
the departure, and the JMC examines whether every used group is red already (R65). -/
def enterClearing (target : ClearTarget) (s : State) : State :=
  let s1 := enterMode .clearing { s with clearTarget := some target, supervision := none }
  let s2 := forEach allGroups junctionTerminate (cancelAll .mode s1)
  handOn modeHandoff s2

/-- In CLEARING the JMC enters the target mode when every used group is in RED or RED_MIN (R65). -/
def examineClearing (s : State) : State :=
  if s.mode = .clearing ∧ clearingDone s = true then
    enterResting (targetMode (s.clearTarget.getD .flash)) s
  else s

/-- The used groups marked RED_LOST (R66). -/
def lostCount (s : State) : Nat := ((usedGroups s).filter fun g => (grp s g).redLost).length

/-- In NORMAL two or more lost reds bring CLEARING with target FLASH (R66). -/
def examineLost (s : State) : State :=
  if s.mode = .normal ∧ 2 ≤ lostCount s then enterClearing .flash s else s

/-- What NORMAL entry hands to a neighbour (R62). -/
def normalHandoff : Neighbour → Option Handoff
  | .arbiter => some .arbiterExamine
  | .tram => some .tramEvaluateAll
  | .config => some .configExamine
  | .junction => some .lostExamine
  | .demand => none

/-- NORMAL is entered (R62): every used group goes to RED with its stamps absent, supervision starts, and
the RA, the TPE and the JMC's count of lost reds take the entry. -/
def enterNormal (s : State) : State :=
  let s1 := enterMode .normal { s with startPhase := none, supervision := some s.now }
  handOn normalHandoff (forEach allGroups forceRed s1)

/-- START's red phase is entered: every used group is forced to RED_MIN (R61). -/
def enterRedPhase (s : State) : State :=
  refreshAllLamps (forEach allGroups forceRedMin { s with startPhase := some (.redPhase, s.now) })

/-- What LOCKOUT entry hands to a neighbour, the SGT and the RA having taken it (R69, R168). -/
def lockoutHandoff : Neighbour → Option Handoff
  | .tram => some .tramEvaluateAll
  | .config => some .configExamine
  | .arbiter => none
  | .junction => none
  | .demand => none

/-- LOCKOUT is entered from any other mode (R69): the cause is written, the transitions are cancelled with
cause MODE, every used group is forced to DARK, and FAULT and MODE notices are raised. The TPE takes the
departure, and the CFG its change of mode, after these (R168). In LOCKOUT nothing changes. -/
def enterLockout (g : GroupId) (which : Circuit) (s : State) : State :=
  if s.mode = .lockout then s
  else
    let s1 := forceAllDark (cancelAll .mode
      { s with
        mode := .lockout
        modeEnteredAt := s.now
        lockoutCause := some { group := g, circuit := which, time := s.now }
        startPhase := none
        clearTarget := none
        supervision := none })
    let s2 := refreshAllLamps (raiseAll .mode (raiseAll .fault s1))
    handOn lockoutHandoff s2

/-- What the JMC answers a MODE request for NORMAL (R60). -/
def wantNormal (s : State) : State × Reply :=
  match s.mode with
  | .dark => if s.active.isSome then (enterStart s, plain .done) else (s, plain .refusedMode)
  | .flash => if s.active.isSome then (enterStart s, plain .done) else (s, plain .refusedMode)
  | .start => (s, plain .done)
  | .normal => (s, plain .done)
  | .clearing => (s, plain .refusedMode)
  | .lockout => (s, plain .refusedMode)

/-- What the JMC answers a MODE request for FLASH or DARK (R60). -/
def wantResting (target : ClearTarget) (s : State) : State × Reply :=
  match s.mode with
  | .lockout => (s, plain .refusedMode)
  | .clearing => ({ s with clearTarget := some target }, plain .done)
  | .normal => (enterClearing target s, plain .done)
  | .start => (enterResting (targetMode target) s, plain .done)
  | m => if m = targetMode target then (s, plain .done) else (enterResting (targetMode target) s, plain .done)

/-- The flash generator ends its phase and enters the other, reading its duration there (R59). -/
def changeFlashPhase (s : State) : State :=
  let on := !s.flash.on
  let d := if on then figure (cfg s) .flashOn else figure (cfg s) .flashOff
  forEach allGroups
    (fun g s =>
      modLamps g
        (fun l =>
          { a := phaseChangeLamp s.now l.a
            b := phaseChangeLamp s.now l.b
            c := phaseChangeLamp s.now l.c })
        s)
    { s with flash := { on := on, since := s.now, duration := d } }

/-- A PLAN request that is not refused restarts supervision in NORMAL (R68). -/
def superviseRestart (role : Role) (code : ReplyCode) (s : State) : State :=
  if role = .plan ∧ isRefusal code = false ∧ s.mode = .normal then { s with supervision := some s.now }
  else s

/-- The ds remaining to supervision expiry, when the timer runs (R67). -/
def supervisionRemaining (s : State) : Option Nat :=
  s.supervision.map fun t =>
    let due := plusDs t (figure (cfg s) .supervision)
    if atOrAfter s.now due then 0 else (due - s.now).toNat

end Sys2Proof.Machine
end

