-- ==== Sys2Proof/Machine/Validate.lean ====
section
/-! DEFINITION. Validation of an image (R25, R26, R167): the checks of each record in their order, and the
first failure with its check code and index. -/

namespace Sys2Proof.Machine

open Sys2Proof

/-- A failure of validation: the check code and the record's index. -/
abbrev Failure := CheckCode × Nat

/-- A number lies in a range. -/
def within (lo hi n : Nat) : Bool := decide (lo ≤ n ∧ n ≤ hi)

/-- A JUNCTION figure lies in the range its chapter gives (R58, R118, R131, R132, R137). -/
def figureValid (i : Nat) (v : Nat) : Bool :=
  match i with
  | 0 => within 0 600 v
  | 1 => within 30 200 v
  | 2 => within 20 600 v
  | 3 => within 3 10 v
  | 4 => within 3 10 v
  | 5 => v == 4800 || v == 9600 || v == 19200
  | 6 => within 5 80 v
  | 7 => within 0 100 v
  | 8 => within 50 1200 v
  | _ => within 0 127 v

/-- The check of a JUNCTION record (R167). -/
def checkJunction (img : Image) (i : Fin 10) : Option CheckCode :=
  if figureValid i.val (look img.junction i).toNat then none else some .jnRange

/-- The timings of a used group lie in the ranges of R5 for its kind; an UNUSED one has only its kind code
checked (R167). -/
def groupValid (c : GroupCfg) : Bool :=
  match c.kind.toNat with
  | 0 => true
  | 1 =>
    within 20 600 c.minGreen.toNat && within 20 60 c.clearTime.toNat && within 0 30 c.prepare.toNat &&
      within 0 100 c.minRed.toNat
  | 2 =>
    within 40 600 c.minGreen.toNat && within 0 300 c.clearTime.toNat && c.prepare.toNat == 0 &&
      within 0 100 c.minRed.toNat
  | 3 =>
    within 20 600 c.minGreen.toNat && within 20 60 c.clearTime.toNat && within 0 30 c.prepare.toNat &&
      within 0 100 c.minRed.toNat && within 0 600 c.maxHold.toNat
  | _ => false

/-- The check of a GROUPS record (R167). -/
def checkGroup (img : Image) (g : GroupId) : Option CheckCode :=
  if groupValid (look img.groups g) then none else some .grRange

/-- The four checks of a matrix entry in their order (R25). -/
def checkEntry (img : Image) (i j : GroupId) : Option CheckCode :=
  if i = j ∧ igIn img i j ≠ 255 then some .mxDiagonal
  else if i ≠ j ∧ (usedIn img i = false ∨ usedIn img j = false) ∧ igIn img i j ≠ 255 then some .mxUnused
  else if i ≠ j ∧ usedIn img i = true ∧ usedIn img j = true ∧ conflictIn img i j ≠ conflictIn img j i then
    some .mxSymmetry
  else if igIn img i j ≠ 255 ∧ igIn img i j < clearTimeIn img i then some .mxClearance
  else none

/-- The check of a MATRIX record by its index 0 to 575 (R20, R25, R26). -/
def checkMatrix (img : Image) (i : Fin 576) : Option CheckCode :=
  checkEntry img ⟨i.val / 24, by omega⟩ ⟨i.val % 24, by omega⟩

/-- The group is VEH or PED: a loop or input may feed it (R167). -/
def feedable (img : Image) (g : GroupId) : Bool := kindIn img g == .veh || kindIn img g == .ped

/-- One of the three ROUTES records of an approach is not 0 (R167). -/
def routed (img : Image) (a : ApproachId) : Bool :=
  [Route.left, .ahead, .right].any fun r => look img.routes (routeRecord a r) != 0#8

/-- The group byte of a DEMAND or EXTEND record (R167). -/
def checkGroupTarget (img : Image) (range target : CheckCode) (b : Byte) : Option CheckCode :=
  match groupOfNat b.toNat with
  | none => some range
  | some g => if feedable img g then none else some target

/-- The approach byte of a TRAM or TRAM_STOP record (R167). -/
def checkApproachTarget (img : Image) (range target : CheckCode) (b : Byte) : Option CheckCode :=
  match approachOfNat b.toNat with
  | none => some range
  | some a => if routed img a then none else some target

/-- The checks of a LOOPS record (R167). N, T_on and the presence limit are checked whatever the
function (log 33). -/
def checkLoop (img : Image) (ch : ChannelId) : Option CheckCode :=
  let c := look img.loops ch
  let n := c.periods.toNat
  if (n = 64 ∨ n = 128 ∨ n = 256) ∧ within 1 500 c.onThreshold.toNat = true ∧
      (c.presence.toNat = 0 ∨ within 10 6000 c.presence.toNat = true) then
    match loopFunctionOfCode c.function with
    | none => some .lpRange
    | some .disabled => none
    | some .count => none
    | some .demand => checkGroupTarget img .lpRange .lpTarget c.target
    | some .extend => checkGroupTarget img .lpRange .lpTarget c.target
    | some .tram => checkApproachTarget img .lpRange .lpTarget c.target
  else some .lpRange

/-- The checks of an INPUTS record (R167). -/
def checkInput (img : Image) (i : InputId) : Option CheckCode :=
  let c := look img.inputs i
  if c.debounce.toNat % 10 = 0 ∧ within 20 250 c.debounce.toNat = true then
    match inputFunctionOfCode c.function with
    | none => some .inRange
    | some .unused => none
    | some .demand => checkGroupTarget img .inRange .inTarget c.target
    | some .extend => checkGroupTarget img .inRange .inTarget c.target
    | some .tramStop => checkApproachTarget img .inRange .inTarget c.target
  else some .inRange

/-- The check of a BEACONS record (R167). -/
def checkBeacon (img : Image) (b : BeaconId) : Option CheckCode :=
  let c := look img.beacons b
  match beaconFunctionOfCode c.function with
  | none => some .bcRange
  | some .off => none
  | some .pre => if (approachOfNat c.approach.toNat).isSome then none else some .bcRange
  | some .stop => if (approachOfNat c.approach.toNat).isSome then none else some .bcRange

/-- The check of a ROUTES record (R167). -/
def checkRoute (img : Image) (i : Fin 12) : Option CheckCode :=
  let v := (look img.routes i).toNat
  if v = 0 then none
  else
    match groupOfNat v with
    | none => some .rtTarget
    | some g => if kindIn img g = .tram then none else some .rtTarget

/-- The check of a LINES record (R167). -/
def checkLine (img : Image) (i : Fin 256) : Option CheckCode :=
  if (look img.lines i).toNat ≤ 2 then none else some .lnRange

/-- The first failure among the records of a section, in index order (R26, R167). -/
def firstFailure (n : Nat) (check : Fin n → Option CheckCode) : Option Failure :=
  (List.finRange n).findSome? fun i => (check i).map fun c => (c, i.val)

/-- Validation of an image: the first failure, in the order of the sections (R167). -/
def validate (img : Image) : Option Failure :=
  (firstFailure 10 (checkJunction img)).orElse fun _ =>
  (firstFailure 24 (checkGroup img)).orElse fun _ =>
  (firstFailure 576 (checkMatrix img)).orElse fun _ =>
  (firstFailure 16 (checkLoop img)).orElse fun _ =>
  (firstFailure 16 (checkInput img)).orElse fun _ =>
  (firstFailure 16 (checkBeacon img)).orElse fun _ =>
  (firstFailure 12 (checkRoute img)).orElse fun _ =>
  firstFailure 256 (checkLine img)

end Sys2Proof.Machine
end

