-- ==== Sys2Proof/Machine/ConfigManager.lean ====
section
/-! DEFINITION. The configuration manager: the apply (R168, R169), the store write (R170) and the load at a
reset (R171). -/

namespace Sys2Proof.Machine

open Sys2Proof

/-- The mode is DARK, FLASH or LOCKOUT (R168). -/
def restingMode : Mode → Bool
  | .dark => true
  | .flash => true
  | .lockout => true
  | _ => false

/-- An apply can be made at this instant (R168). -/
def canApply (s : State) : Bool := restingMode s.mode || allRed s

/-- The gap clocks follow the new configuration, in which every changed channel and input has restarted: a clock
that a condition held and none holds now restarts from now, any other runs on (R105, R109, R116). -/
def applyGaps (s : State) : State := forEach allGroups updateGap s

/-- The apply: the staging image becomes the active image in every section at once, each block takes it
by its own rule, and the store write begins (R169). The blocks are taken in one order (log 8). DESIGN CHOICE (log 46):
with no active image, the old image of R105 and R109 is the default image. DESIGN CHOICE (log 50): the TPE takes the new
routes and levels (R148) before the CONFIG cancellations of its calls (R141). -/
def applyImage (s : State) : State :=
  let old := cfg s
  let s0 : State := { s with active := some s.staging, commit := .storing }
  let s1 := forEach allGroups (applyGroup old) s0
  let s2 := applyLampsAll s1
  let s3 := retestAll s2
  let s4 := applyGaps (applyInputs old (applyLoops old s3))
  let s5 := applyBeacon old s4
  let s6 := applyTrams old s5
  emit .clearingExamine s6

/-- The CFG examines whether a waiting commit can be applied (R168). -/
def examineCommit (s : State) : State :=
  if s.commit = .waitingApply ∧ canApply s = true then applyImage s else s

/-- The CRC that the store write sets beside an image (R170). -/
def imageCrc (img : Image) : BitVec 16 := crc16 (imageBytes img)

/-- The store with an image and its CRC, as a whole write leaves it (R170). -/
def written (img : Image) : Store := .holds img (imageCrc img)

/-- What a reset loads from the store (R171): the load outcome, and the image when it is LOADED. -/
def loadStore (st : Store) : LoadOutcome × Option Image :=
  match st with
  | .spoiled => (.crcFailed, none)
  | .holds img crc =>
    if imageCrc img = crc then
      match validate img with
      | none => (.loaded, some img)
      | some (code, index) => (.checkFailed code index, none)
    else (.crcFailed, none)

/-- The store write ends (R170): the store holds what it holds, and the read-back decides the reply. -/
def endStoreWrite (held : Store) (s : State) : State :=
  let img := s.active.getD defaultImage
  let reply := if held = written img then plain .done else plain .storeFailed
  completePending .service reply { s with store := held, commit := .idle }

end Sys2Proof.Machine
end

