-- ==== Sys2Proof/Machine/Cascade.lean ====
section
/-! DEFINITION. Settling the hand-offs of a command (R9, R35, R50, R62, R64, R140, R141, R168): each is an
event of its own at its block, and all of them are taken inside the command that set them off (log 5). -/

namespace Sys2Proof.Machine

open Sys2Proof

/-- The block that a hand-off goes to takes it. -/
def handle (h : Handoff) (s : State) : State :=
  match h with
  | .arbiterEntry g st => arbiterEntry g st s
  | .tramEntry g st => tramEntry g st s
  | .configExamine => examineCommit s
  | .clearingExamine => examineClearing s
  | .clearDemand g => takeClearEntry g s
  | .arbiterExamine => examineArbiter s
  | .scheduleExamine => examineSchedule s
  | .arbiterLost g => takeLostMarking g s
  | .lostExamine => examineLost s
  | .slotFree => takeSlotFree s
  | .tramCancelled id => tramCancelled id s
  | .tramEvaluate k anew => evaluate k anew s
  | .tramEvaluateAll => evaluateWhere (fun _ => true) false s
  | .tramEvaluateGroup g => evaluateWhere (fun r => r.group == g) false s

/-- The hand-offs are taken one after another; what one sets off is taken before those that stood behind
it. `fuel` bounds their number; what is left over stays in `work` (log 5). -/
def settle : Nat → State → State
  | 0, s => s
  | fuel + 1, s =>
    match s.work with
    | [] => s
    | h :: rest =>
      let s1 := handle h { s with work := [] }
      settle fuel { s1 with work := s1.work ++ rest }

/-- The number of hand-offs a command may settle (log 5). -/
def settleFuel : Nat := 4096

/-- A command's effect with every hand-off it set off settled. -/
def settled (s : State) : State := settle settleFuel s

end Sys2Proof.Machine
end

