-- ==== Sys2Proof/Machine/BeaconEvents.lean ====
section
/-! DEFINITION. The events of the beacon receiver: BEACON_LINE_SAMPLE, FRAMING_ERROR, BYTE_COMPLETE,
GAP_TIMER_EXPIRES, BREAK, BROKEN_WAIT_COMPLETE. -/

namespace Sys2Proof.Machine

open Sys2Proof

/-- BEACON_LINE_SAMPLE (R119): one sub-cell of the line. -/
def execBeaconLineSample (level : Bool) (s : State) : Host.Outcome State Fault Refusal :=
  .next (modBeacon (sampleBeacon level) s)

/-- FRAMING_ERROR (R119, R121): a stop bit was decided 0. -/
def execFramingError (s : State) : Host.Outcome State Fault Refusal :=
  .next (if framingDue s.beacon then modBeacon framingBeacon s else s)

/-- BYTE_COMPLETE (R121): a stop bit was decided 1. -/
def execByteComplete (s : State) : Host.Outcome State Fault Refusal :=
  .next
    (match completedByte s.beacon with
      | some b => settled (takeCompleted b s)
      | none => s)

/-- GAP_TIMER_EXPIRES (R122). -/
def execGapTimerExpires (s : State) : Host.Outcome State Fault Refusal :=
  .next (if gapDue s.beacon then modBeacon gapBeacon s else s)

/-- BREAK (R120): a TRAM notice is raised for PLAN and TRAMNET. -/
def execLineBreak (s : State) : Host.Outcome State Fault Refusal :=
  .next
    (if breakDue s.beacon then raiseFor .tram [.plan, .tramnet] (modBeacon breakBeacon s) else s)

/-- BROKEN_WAIT_COMPLETE (R120). -/
def execBrokenWaitComplete (s : State) : Host.Outcome State Fault Refusal :=
  .next (if brokenWaitDue s.beacon then modBeacon mendBeacon s else s)

end Sys2Proof.Machine
end

