-- ==== Sys2Proof/Machine/DetectorEvents.lean ====
section
/-! DEFINITION. The events of the loop measurement unit, the contact input unit and the gap clocks: NO_OSC,
LOW_FREQ, MEASUREMENT_COMPLETE, TRACKING_MOMENT, PRESENCE_LIMIT_EXPIRES, INPUT_SAMPLE,
DEBOUNCED_STATE_CHANGE, GAP_VALUE_SATURATES. -/

namespace Sys2Proof.Machine

open Sys2Proof

/-- NO_OSC (R92): no rising edge came within 25 ms. -/
def execNoOsc (e : EngineId) (s : State) : Host.Outcome State Fault Refusal :=
  .next (settled (completeMeasurement e (fun _ => .bad .noOsc) s))

/-- LOW_FREQ (R92): the count reached C_max + 1. -/
def execLowFreq (e : EngineId) (s : State) : Host.Outcome State Fault Refusal :=
  .next (settled (completeMeasurement e (fun _ => .bad .lowFreq) s))

/-- MEASUREMENT_COMPLETE (R92, R93): the count is judged against the channel's valid range. -/
def execMeasurementComplete (e : EngineId) (count : Nat) (s : State) : Host.Outcome State Fault Refusal :=
  .next (settled (completeMeasurement e (fun c => judgeCount (periodsOf c) count) s))

/-- The tracking clock has expired (R97). -/
def trackingDue (s : State) : Bool := expired s.now s.trackedAt 20

/-- A tracking moment reaches every channel, and the clock runs on (R97, R98). DESIGN CHOICE: the sixteen channels
take it in one command, with no other event of that ds between two of them (log 42); the clock's next start is now
(log 12). -/
def trackAll (s : State) : State :=
  forEach allChannels (fun ch s => modChannel ch (track (loopCfg s ch)) s) { s with trackedAt := s.now }

/-- TRACKING_MOMENT (R97). -/
def execTrackingMoment (s : State) : Host.Outcome State Fault Refusal :=
  .next (if trackingDue s then trackAll s else s)

/-- The presence limit of an occupied channel expires (R99): the channel is freed, a DETECTOR notice is
raised (R103), and the freeing is handed on (R102). -/
def expirePresence (ch : ChannelId) (s : State) : State :=
  let s1 := raiseDetector (modChannel ch giveUp s)
  handChannel (loopCfg s ch) ch .occupied .free s1

/-- PRESENCE_LIMIT_EXPIRES (R99). -/
def execPresenceLimitExpires (ch : ChannelId) (s : State) : Host.Outcome State Fault Refusal :=
  .next (if presenceDue s ch then settled (expirePresence ch s) else s)

/-- INPUT_SAMPLE (R108). -/
def execInputSample (pins : BitVec 16) (s : State) : Host.Outcome State Fault Refusal :=
  .next
    (forEach allInputs
      (fun i s => modInput i (sampleInput (debounceSamples (inputCfg s i)) (pins.getLsbD i.val)) s) s)

/-- DEBOUNCED_STATE_CHANGE (R108, R110). -/
def execDebouncedStateChange (i : InputId) (s : State) : Host.Outcome State Fault Refusal :=
  .next
    (if changeDue (debounceSamples (inputCfg s i)) (inputRec s i) then settled (changeDebounced i s) else s)

/-- The gap clock of a group has run 999 ds (R116). -/
def gapFull (s : State) (g : GroupId) : Bool :=
  match (grp s g).gap with
  | .running u => expired s.now u 999
  | _ => false

/-- GAP_VALUE_SATURATES (R116): the value is held at 999 and the start time dropped. -/
def execGapValueSaturates (g : GroupId) (s : State) : Host.Outcome State Fault Refusal :=
  .next (if gapFull s g then modGroup g (fun r => { r with gap := .full }) s else s)

end Sys2Proof.Machine
end

