-- ==== Sys2Proof/Machine/GroupEvents.lean ====
section
/-! DEFINITION. The events of the time base and of the signal group table: JUNCTION_TIME_ADVANCE,
FLASH_PHASE_CHANGE, STAMP_DROP, MINIMUM_RED_EXPIRES, NOW_REACHES_S, NOW_REACHES_T,
MINIMUM_GREEN_EXPIRES, NOW_REACHES_HOLD_UNTIL, CLEAR_TIME_EXPIRES. An event whose condition does not hold
changes nothing (log 1). -/

namespace Sys2Proof.Machine

open Sys2Proof

/-! ### JUNCTION_TIME_ADVANCE (R1, R8, R90, R125) -/

/-- The kept time of a lamp circuit at a new junction time (R75, log 23). -/
def ageLamp (now : Time) (l : LampRec) : LampRec := { l with changedAt := heldTime now l.changedAt }

/-- The kept times of a group's lamp circuits at a new junction time. -/
def ageLamps (now : Time) (l : Lamps) : Lamps :=
  { a := ageLamp now l.a, b := ageLamp now l.b, c := ageLamp now l.c }

/-- The kept time of a channel at a new junction time (R90). -/
def ageChannel (now : Time) (r : ChannelRec) : ChannelRec :=
  { r with occupiedSince := r.occupiedSince.map (heldTime now) }

/-- The kept times of the beacon receiver at a new junction time (R125). -/
def ageBeacon (now : Time) (b : BeaconRec) : BeaconRec :=
  { b with lastHeard := tabulate fun i => (look b.lastHeard i).map (heldTime now) }

/-- Junction time advances by 1, and every kept time is held at its greatest age (R1, R8, R90, R125). -/
def advanceTime (s : State) : State :=
  let now := s.now + 1#32
  { s with
    now := now
    groups := tabulate fun g => ageGroup now (look s.groups g)
    lamps := tabulate fun g => ageLamps now (look s.lamps g)
    channels := tabulate fun ch => ageChannel now (look s.channels ch)
    beacon := ageBeacon now s.beacon }

/-- JUNCTION_TIME_ADVANCE (R1). -/
def execJunctionTimeAdvance (s : State) : Host.Outcome State Fault Refusal := .next (advanceTime s)

/-! ### FLASH_PHASE_CHANGE (R59) -/

/-- The present phase of the flash generator has run its duration (R59). -/
def flashDue (s : State) : Bool := expired s.now s.flash.since s.flash.duration

/-- FLASH_PHASE_CHANGE (R59). -/
def execFlashPhaseChange (s : State) : Host.Outcome State Fault Refusal :=
  .next (if flashDue s then changeFlashPhase s else s)

/-! ### STAMP_DROP (R8) -/

/-- The stamp is present, may be dropped and is 65,535 ds old (R8). -/
def dropDue (s : State) (g : GroupId) (stamp : Stamp) : Bool :=
  (droppable (grp s g) stamp).any fun t => stampDue s.now t

/-- A stamp is dropped (R8). A PLAN terminate that a dropped hold-until was deferring is deferred no more
(R14). -/
def dropOne (g : GroupId) (stamp : Stamp) (s : State) : State :=
  let s1 := modGroup g (fun r => dropStamp r stamp) s
  if stamp = .holdUntil then settled (takeTerminate g s1) else s1

/-- STAMP_DROP (R8). -/
def execStampDrop (g : GroupId) (stamp : Stamp) (s : State) : Host.Outcome State Fault Refusal :=
  .next (if dropDue s g stamp then dropOne g stamp s else s)

/-! ### MINIMUM_RED_EXPIRES (R10, R15) -/

/-- The minimum red timer runs: in NORMAL and CLEARING; in START's red phase it is stopped (R17). -/
def redTimerRuns (m : Mode) : Bool := m == .normal || m == .clearing

/-- The minimum red of a used group in RED_MIN has expired (R5, R10, R15). -/
def minimumRedDue (s : State) (g : GroupId) : Bool :=
  used s g && redTimerRuns s.mode && (grp s g).state == .redMin &&
    expired s.now (grp s g).enteredAt (minRedIn (cfg s) g)

/-- The group holds a claim for release (R10). -/
def claimedForRelease (s : State) (g : GroupId) : Bool := (grp s g).claim.any fun c => c.kind == .release

/-- RED_MIN is followed by RED_WAIT under a release claim, otherwise by RED (R10). -/
def leaveRedMin (g : GroupId) (s : State) : State :=
  enterState g (if claimedForRelease s g then .redWait else .red) s

/-- MINIMUM_RED_EXPIRES (R10, R15). -/
def execMinimumRedExpires (g : GroupId) (s : State) : Host.Outcome State Fault Refusal :=
  .next (if minimumRedDue s g then settled (leaveRedMin g s) else s)

/-! ### NOW_REACHES_S (R11) -/

/-- The schedule of a used group in RED_WAIT whose S now has reached (R11). -/
def reachedS (s : State) (g : GroupId) : Option Schedule :=
  if used s g && (grp s g).state == .redWait then
    (grp s g).schedule.filter fun sch => atOrAfter s.now sch.s
  else none

/-- At S the group enters PREPARE, or GREEN_MIN when its prepare time is 0 (R11). -/
def beginPrepare (g : GroupId) (sch : Schedule) (s : State) : State :=
  if prepareIn (cfg s) g = 0 then enterGreenMin g sch.t s else enterState g .prepare s

/-- NOW_REACHES_S (R11). -/
def execNowReachesS (g : GroupId) (s : State) : Host.Outcome State Fault Refusal :=
  .next
    (match reachedS s g with
      | some sch => settled (beginPrepare g sch s)
      | none => s)

/-! ### NOW_REACHES_T (R12) -/

/-- The schedule of a used group in PREPARE, or in RED_WAIT with prepare time 0, whose T now has reached
(R12). -/
def reachedT (s : State) (g : GroupId) : Option Schedule :=
  if used s g &&
      ((grp s g).state == .prepare || ((grp s g).state == .redWait && prepareIn (cfg s) g == 0)) then
    (grp s g).schedule.filter fun sch => atOrAfter s.now sch.t
  else none

/-- NOW_REACHES_T (R12). -/
def execNowReachesT (g : GroupId) (s : State) : Host.Outcome State Fault Refusal :=
  .next
    (match reachedT s g with
      | some sch => settled (enterGreenMin g sch.t s)
      | none => s)

/-! ### MINIMUM_GREEN_EXPIRES (R13) -/

/-- The junction time from which minimum green runs (R12): the green start; an entry without one runs it
from the state entry (log 13). -/
def greenFrom (r : GroupRec) : Time := r.greenStart.getD r.enteredAt

/-- The minimum green of a used group in GREEN_MIN has expired (R12, R13). -/
def minimumGreenDue (s : State) (g : GroupId) : Bool :=
  used s g && (grp s g).state == .greenMin && expired s.now (greenFrom (grp s g)) (minGreenIn (cfg s) g)

/-- GREEN_MIN is followed by CLEAR with a terminate in effect, otherwise by GREEN (R13). -/
def leaveGreenMin (g : GroupId) (s : State) : State :=
  if terminateAllowed s.now (grp s g) then enterClear g s else enterState g .green s

/-- MINIMUM_GREEN_EXPIRES (R13). -/
def execMinimumGreenExpires (g : GroupId) (s : State) : Host.Outcome State Fault Refusal :=
  .next (if minimumGreenDue s g then settled (leaveGreenMin g s) else s)

/-! ### NOW_REACHES_HOLD_UNTIL (R14) -/

/-- Now has reached the hold-until of a used group in GREEN (R14). -/
def holdUntilDue (s : State) (g : GroupId) : Bool :=
  used s g && (grp s g).state == .green && (grp s g).holdUntil.any fun h => atOrAfter s.now h

/-- NOW_REACHES_HOLD_UNTIL (R14). -/
def execNowReachesHoldUntil (g : GroupId) (s : State) : Host.Outcome State Fault Refusal :=
  .next (if holdUntilDue s g then settled (takeTerminate g s) else s)

/-! ### CLEAR_TIME_EXPIRES (R15) -/

/-- The clear time of a used group in CLEAR has expired (R15). -/
def clearTimeDue (s : State) (g : GroupId) : Bool :=
  used s g && (grp s g).state == .clear && expired s.now (grp s g).enteredAt (clearTimeIn (cfg s) g)

/-- CLEAR_TIME_EXPIRES (R15). -/
def execClearTimeExpires (g : GroupId) (s : State) : Host.Outcome State Fault Refusal :=
  .next (if clearTimeDue s g then settled (enterRedMin g s) else s)

end Sys2Proof.Machine
end

