-- ==== Sys2Proof/Machine/Reset.lean ====
section
/-! DEFINITION. The power-on reset and the service restart (R19, R57, R73, R88, R106, R109, R129, R150,
R163, R171 to R174). -/

namespace Sys2Proof.Machine

open Sys2Proof

/-- A group record after either reset (R19): the gap clock of a used group runs from junction time 0
(R116). -/
def groupAfterReset (img : Image) (g : GroupId) : GroupRec :=
  if usedIn img g then { resetGroup with gap := .running 0#32 } else resetGroup

/-- A channel record after either reset (R106). -/
def channelAfterReset (img : Image) (ch : ChannelId) : ChannelRec :=
  resetChannel (if loopFn (look img.loops ch) = .disabled then .disabled else .settling)

/-- A lamp circuit after either reset, by the command table for the mode entered (R88). -/
def lampAfterReset (img : Image) (pattern : Bool) (g : GroupId) (which : Circuit) : LampRec :=
  { resetLamp with cmd := lampCommand (kindIn img g) .dark pattern which }

/-- The mode after a reset (R73). -/
def modeAfterReset (carried : Bool) (straps : Straps) : Mode :=
  if carried then .lockout else if straps.smode then .flash else .dark

/-- The part after either reset, with what each reset keeps given: the straps, the level of BCN, the
store, the lockout cause and whether LOCKOUT is carried over (R73, R171, R174). -/
def afterReset (service carried : Bool) (straps : Straps) (level : Bool) (store : Store)
    (cause : Option LockoutCause) (pending : List Instr) (order : OpenOrders) : State :=
  let (outcome, active) := loadStore store
  let img := active.getD defaultImage
  let mode := modeAfterReset carried straps
  let pattern := mode != .dark
  let booted : State :=
    { State.reset with
      pending := pending
      order := order
      flash := { on := true, since := 0#32, duration := figure img .flashOn }
      groups := tabulate (groupAfterReset img)
      mode := mode
      lockoutCause := cause
      autostartDue := straps.astart
      lamps := tabulate fun g =>
        { a := lampAfterReset img pattern g .a
          b := lampAfterReset img pattern g .b
          c := lampAfterReset img pattern g .c }
      channels := tabulate (channelAfterReset img)
      beacon := resetBeacon level
      active := active
      staging := img
      store := store
      straps := straps
      resetCause := { serviceRestart := service, lockoutCarried := carried, load := outcome, straps := straps } }
  { booted with engines := tabulate (firstPlace booted) }

/-- The straps latched at the end of the power-on reset (R172). -/
def latch (pins : ResetPins) : Straps := { addr := pins.addr, smode := pins.smode, astart := pins.astart }

/-- The power-on reset (R171 to R174). One taken during the store write leaves a store whose CRC fails
(R170). -/
def powerOn (pins : ResetPins) (s : State) : State :=
  afterReset false false (latch pins) pins.bcn (if s.commit = .storing then .spoiled else s.store) none
    s.pending s.order

/-- The service restart (R173): the straps, the store, the lockout cause and a LOCKOUT are kept (R70, R73). -/
def serviceRestart (s : State) : State :=
  afterReset true (s.mode == .lockout) s.straps s.beacon.level s.store s.lockoutCause s.pending s.order

end Sys2Proof.Machine
end

