-- ==== Sys2Proof/Machine/JunctionEvents.lean ====
section
/-! DEFINITION. POWER_ON_RESET and the events of the junction mode controller: AUTOSTART,
START_FLASH_EXPIRES, START_RED_EXPIRES, SUPERVISION_EXPIRES, CLEAR_LOCKOUT_CHECK_PASSES. -/

namespace Sys2Proof.Machine

open Sys2Proof

/-- POWER_ON_RESET (R171 to R174). -/
def execPowerOnReset (pins : ResetPins) (s : State) : Host.Outcome State Fault Refusal :=
  .next (powerOn pins s)

/-- The autostart has an effect: an active image is present and the mode is DARK or FLASH (R73). -/
def canAutostart (s : State) : Bool := s.active.isSome && (s.mode == .dark || s.mode == .flash)

/-- The JMC takes its own MODE NORMAL (R73). -/
def autostart (s : State) : State :=
  let s1 : State := { s with autostartDue := false }
  if canAutostart s then settled (enterStart s1) else s1

/-- AUTOSTART (R73): taken once after a reset, when the autostart strap is set. -/
def execAutostart (s : State) : Host.Outcome State Fault Refusal :=
  .next (if s.autostartDue then autostart s else s)

/-- The start-flash time has expired (R58, R61). -/
def startFlashDue (s : State) : Bool :=
  s.mode == .start &&
    match s.startPhase with
    | some (.flashPhase, t) => expired s.now t (figure (cfg s) .startFlash)
    | _ => false

/-- START_FLASH_EXPIRES (R61). -/
def execStartFlashExpires (s : State) : Host.Outcome State Fault Refusal :=
  .next (if startFlashDue s then settled (enterRedPhase s) else s)

/-- The start-red time has expired (R58, R62). -/
def startRedDue (s : State) : Bool :=
  s.mode == .start &&
    match s.startPhase with
    | some (.redPhase, t) => expired s.now t (figure (cfg s) .startRed)
    | _ => false

/-- START_RED_EXPIRES (R62). -/
def execStartRedExpires (s : State) : Host.Outcome State Fault Refusal :=
  .next (if startRedDue s then settled (enterNormal s) else s)

/-- The supervision period has passed since the last restart, in NORMAL (R67). -/
def supervisionDue (s : State) : Bool :=
  s.mode == .normal && s.supervision.any fun t => expired s.now t (figure (cfg s) .supervision)

/-- SUPERVISION_EXPIRES (R67): CLEARING with target FLASH (R64). -/
def execSupervisionExpires (s : State) : Host.Outcome State Fault Refusal :=
  .next (if supervisionDue s then settled (enterClearing .flash s) else s)

/-- The tenth sample of a CLEAR_LOCKOUT check has been taken with no proceed circuit sensed on (R71). -/
def checkPassed (s : State) : Bool :=
  s.mode == .lockout && s.lockoutCheck.any fun c => decide (10 ≤ c.samples)

/-- The check passes (R71): FLASH is entered, and the reply DONE completes SERVICE's request. -/
def passCheck (s : State) : State :=
  settled (completePending .service (plain .done) (enterResting .flash { s with lockoutCheck := none }))

/-- CLEAR_LOCKOUT_CHECK_PASSES (R71). -/
def execClearLockoutCheckPasses (s : State) : Host.Outcome State Fault Refusal :=
  .next (if checkPassed s then passCheck s else s)

end Sys2Proof.Machine
end

