-- ==== Sys2Proof/Machine/LampEvents.lean ====
section
/-! DEFINITION. The events of lamp drive and proving: LAMP_SENSE_SAMPLE, UNWANTED_PROCEED, RED_LOST,
LAMP_OUT, STUCK_ON. -/

namespace Sys2Proof.Machine

open Sys2Proof

/-- A sample of a CLEAR_LOCKOUT check (R71, R84): a proceed circuit sensed on ends it with REFUSED_STATE;
otherwise it counts, up to the tenth. -/
def sampleCheck (sense : BitVec 72) (s : State) : State :=
  match s.lockoutCheck with
  | none => s
  | some c =>
    if 10 ≤ c.samples then s
    else if proceedSensed sense then
      completePending .service (plain .refusedState) { s with lockoutCheck := none }
    else { s with lockoutCheck := some { c with samples := c.samples + 1 } }

/-- LAMP_SENSE_SAMPLE (R77, R78, R84). -/
def execLampSenseSample (sense : BitVec 72) (s : State) : Host.Outcome State Fault Refusal :=
  .next (sampleCheck sense (forEach allGroups (sampleGroup sense) s))

/-- The confirmation of a mismatch is marked as handed on, so that it is handed on once (R79, log 14). -/
def markHanded (m : Mismatch) : Mismatch := { m with handed := true }

/-- A group's circuit has its on-mismatch confirmation marked. -/
def handOnMismatch (g : GroupId) (which : Circuit) (s : State) : State :=
  modLamps g
    (fun l => modCircuit l which fun r => { r with onMismatch := markHanded r.onMismatch }) s

/-- A group's circuit has its off-mismatch confirmation marked. -/
def handOffMismatch (g : GroupId) (which : Circuit) (s : State) : State :=
  modLamps g
    (fun l => modCircuit l which fun r => { r with offMismatch := markHanded r.offMismatch }) s

/-- The on-mismatch of a circuit has been confirmed (R79). -/
def onConfirmed (s : State) (g : GroupId) (which : Circuit) : Bool :=
  confirmed onConfirm (circuit (lamp s g) which).onMismatch

/-- The off-mismatch of a circuit has been confirmed (R79). -/
def offConfirmed (s : State) (g : GroupId) (which : Circuit) : Bool :=
  confirmed (offConfirm which) (circuit (lamp s g) which).offMismatch

/-- UNWANTED_PROCEED (R80, R69). -/
def execUnwantedProceed (g : GroupId) (s : State) : Host.Outcome State Fault Refusal :=
  .next
    (if offConfirmed s g .c then settled (enterLockout g .c (handOffMismatch g .c s)) else s)

/-- A LAMP notice (R83, R159). -/
def raiseLamp (s : State) : State := raiseFor .lamp [.central, .service] s

/-- What a RED_LOST marking hands to a neighbour (R81). -/
def lostHandoff (g : GroupId) : Neighbour → Option Handoff
  | .arbiter => some (.arbiterLost g)
  | .junction => some .lostExamine
  | .tram => none
  | .config => none
  | .demand => none

/-- A confirmed red lost marks a group not yet marked (R81). -/
def markLost (g : GroupId) (s : State) : State :=
  if (grp s g).redLost then s
  else
    handOn (lostHandoff g)
      (raiseAll .fault (raiseLamp (modGroup g (fun r => { r with redLost := true }) s)))

/-- RED_LOST (R81). -/
def execRedLost (g : GroupId) (s : State) : Host.Outcome State Fault Refusal :=
  .next (if onConfirmed s g .a then settled (markLost g (handOnMismatch g .a s)) else s)

/-- LAMP_OUT is latched in the fault set, for circuits B and C (R82). -/
def hasLampOut (f : LampFaults) : Circuit → Bool
  | .a => true
  | .b => f.bOut
  | .c => f.cOut

/-- The fault set with LAMP_OUT of a circuit (R82). -/
def withLampOut (f : LampFaults) : Circuit → LampFaults
  | .a => f
  | .b => { f with bOut := true }
  | .c => { f with cOut := true }

/-- STUCK_ON is latched in the fault set, for circuits A and B (R82). -/
def hasStuckOn (f : LampFaults) : Circuit → Bool
  | .a => f.aStuck
  | .b => f.bStuck
  | .c => true

/-- The fault set with STUCK_ON of a circuit (R82). -/
def withStuckOn (f : LampFaults) : Circuit → LampFaults
  | .a => { f with aStuck := true }
  | .b => { f with bStuck := true }
  | .c => f

/-- A confirmed lamp out adds its pair and raises a LAMP notice when the pair is new (R82). -/
def latchLampOut (g : GroupId) (which : Circuit) (s : State) : State :=
  if hasLampOut (grp s g).faults which then s
  else raiseLamp (modGroup g (fun r => { r with faults := withLampOut r.faults which }) s)

/-- LAMP_OUT (R82), on circuit B or C; the on-mismatch of circuit A is RED_LOST's. -/
def execLampOut (g : GroupId) (which : Circuit) (s : State) : Host.Outcome State Fault Refusal :=
  .next
    (if which ≠ .a ∧ onConfirmed s g which = true then latchLampOut g which (handOnMismatch g which s) else s)

/-- A confirmed stuck on adds its pair and raises a LAMP notice when the pair is new (R82). -/
def latchStuckOn (g : GroupId) (which : Circuit) (s : State) : State :=
  if hasStuckOn (grp s g).faults which then s
  else raiseLamp (modGroup g (fun r => { r with faults := withStuckOn r.faults which }) s)

/-- STUCK_ON (R82), on circuit A or B; the off-mismatch of circuit C is UNWANTED_PROCEED's. -/
def execStuckOn (g : GroupId) (which : Circuit) (s : State) : Host.Outcome State Fault Refusal :=
  .next
    (if which ≠ .c ∧ offConfirmed s g which = true then latchStuckOn g which (handOffMismatch g which s)
    else s)

end Sys2Proof.Machine
end

