-- ==== Sys2Proof/Machine/Operands.lean ====
section
/-! DEFINITION. The parameters of a request (R164): group lists, actions, the two lists of a TRANSITION, the
fields of the tram requests, sections and counts, read from the n parameter bytes. -/

namespace Sys2Proof.Machine

open Sys2Proof

/-- The groups of a list of group numbers; none when a number lies outside 1 to 24 or a group is named
twice (R42, R85, R114, R146). -/
def namedGroups (bs : List Byte) : Option (List GroupId) :=
  match bs with
  | [] => some []
  | b :: rest =>
    match groupOfNat b.toNat, namedGroups rest with
    | some g, some gs => if g ∈ gs then none else some (g :: gs)
    | _, _ => none

/-- The action of DEMAND, PRIORITY_INHIBIT and GROUP_INHIBIT: 0 CLEAR or clear, 1 PLACE or set (R164). -/
def actionOf (b : Byte) : Option Bool :=
  match b.toNat with
  | 0 => some false
  | 1 => some true
  | _ => none

/-- An action and a list of groups that is not empty, all of which pass a test (R42, R114, R146). -/
def actionOnGroups (fit : GroupId → Bool) (params : List Byte) : Option (Bool × List GroupId) :=
  match params with
  | [] => none
  | b :: rest =>
    match actionOf b, namedGroups rest with
    | some act, some gs => if gs ≠ [] ∧ gs.all fit = true then some (act, gs) else none
    | _, _ => none

/-- The terminate and the release bytes of a TRANSITION; none when n does not match k (R164). -/
def transitionBytes (params : List Byte) : Option (List Byte × List Byte) :=
  match params with
  | [] => none
  | k :: rest => if k.toNat ≤ rest.length then some (rest.take k.toNat, rest.drop k.toNat) else none

/-- The two lists of a TRANSITION that pass check 2 of R37. -/
def transitionLists (fit : GroupId → Bool) (terminate release : List Byte) :
    Option (List GroupId × List GroupId) :=
  match namedGroups (terminate ++ release) with
  | none => none
  | some gs =>
    if gs ≠ [] ∧ gs.all fit = true then some (gs.take terminate.length, gs.drop terminate.length) else none

/-- The mode wanted in MODE (R60, R164). -/
inductive WantedMode where
  | dark | flash | normal
  deriving DecidableEq, Repr

/-- The mode wanted by its code (R164). -/
def wantedMode (b : Byte) : Option WantedMode :=
  match b.toNat with
  | 0 => some .dark
  | 1 => some .flash
  | 3 => some .normal
  | _ => none

/-- The lateness of TRAM_CHECK_IN: 0 to 127, or 255 for not given (R133, R164). -/
def requestLateness (b : Byte) : Option (Option Nat) :=
  if b.toNat < 128 then some (some b.toNat) else if b = 255#8 then some none else none

/-- The parameters of TRAM_CHECK_IN (R133, R164). -/
def checkInParams (params : List Byte) : Option CheckIn :=
  match params with
  | [n1, n0, a, line, route, d1, d0, speed, lateness] =>
    match approachOfNat a.toNat, routeOfCode route, requestLateness lateness with
    | some approach, some r, some l =>
      if (word16 n1 n0).toNat ≤ 9999 then
        some
          { number := word16 n1 n0, approach := approach, line := line, route := r,
            distance := (word16 d1 d0).toNat, speed := speed.toNat, lateness := l, source := .tramnet }
      else none
    | _, _, _ => none
  | _ => none

/-- The tram number and approach of TRAM_CHECK_OUT and TRAM_CANCEL (R143, R144, R164). -/
def tramParams (params : List Byte) : Option (BitVec 16 × ApproachId) :=
  match params with
  | [n1, n0, a] =>
    match approachOfNat a.toNat with
    | some approach => if (word16 n1 n0).toNat ≤ 9999 then some (word16 n1 n0, approach) else none
    | none => none
  | _ => none

/-- The section, first index and record bytes of a WRITE_CONFIG that is not refused (R166). -/
def writeParams (params : List Byte) : Option (Section × Nat × List Byte) :=
  match params with
  | code :: i1 :: i0 :: bs =>
    match sectionOfCode code with
    | none => none
    | some sec =>
      let first := (word16 i1 i0).toNat
      if bs ≠ [] ∧ bs.length % recordBytes sec = 0 ∧ first + bs.length / recordBytes sec ≤ sectionSize sec then
        some (sec, first, bs)
      else none
  | _ => none

/-- The image, section, first index and count of a READ_CONFIG (R158, R166): `true` for STAGING. -/
def readConfigParams (params : List Byte) : Option (Bool × Section × Nat × Nat) :=
  match params with
  | [image, code, i1, i0, count] =>
    match actionOf image, sectionOfCode code with
    | some staging, some sec =>
      let first := (word16 i1 i0).toNat
      if first < sectionSize sec ∧ count.toNat ≠ 0 then some (staging, sec, first, count.toNat) else none
    | _, _ => none
  | _ => none

/-- A first index and a count for a read of entries numbered `base` to `base + size - 1`; the index is
given from 0 (R158). -/
def readRange (base size : Nat) (params : List Byte) : Option (Nat × Nat) :=
  match params with
  | [first, count] =>
    if base ≤ first.toNat ∧ first.toNat < base + size ∧ count.toNat ≠ 0 then
      some (first.toNat - base, count.toNat)
    else none
  | _ => none

end Sys2Proof.Machine
end

