-- ==== Sys2Proof/Machine/Link.lean ====
section
/-! DEFINITION. The link interface: addresses (R151), request frames (R152), the way of a request from its
frame to its reply (R154, R156, R157, R68), reply frames (R155), and the codes of R164. -/

namespace Sys2Proof.Machine

open Sys2Proof

/-! ### Codes (R164) -/

/-- The code of a reply (R156, R164). -/
def replyByte : ReplyCode → Byte
  | .done => 0#8
  | .accepted => 1#8
  | .noReply => 2#8
  | .pending => 3#8
  | .refusedRole => 4#8
  | .refusedMode => 5#8
  | .refusedParam => 6#8
  | .refusedConflict => 7#8
  | .refusedState => 8#8
  | .refusedFull => 9#8
  | .refusedUnknown => 10#8
  | .storeFailed => 11#8
  | .configInvalid => 12#8

/-- The request that a code names: the table of request codes of R164. -/
def requestOfCode (code : Byte) : Option (Role → List Byte → Instr) :=
  match code.toNat with
  | 0x01 => some .readJunction
  | 0x02 => some .readGroups
  | 0x03 => some .readTransitions
  | 0x04 => some .readLoops
  | 0x05 => some .readTrams
  | 0x06 => some .readCounts
  | 0x07 => some .noticePoll
  | 0x10 => some .keepalive
  | 0x11 => some .demand
  | 0x12 => some .priorityInhibit
  | 0x20 => some .transition
  | 0x21 => some .cancelTransition
  | 0x22 => some .mode
  | 0x23 => some .groupInhibit
  | 0x30 => some .tramCheckIn
  | 0x31 => some .tramCheckOut
  | 0x32 => some .tramCancel
  | 0x40 => some .writeConfig
  | 0x41 => some .commitConfig
  | 0x42 => some .discardStaging
  | 0x43 => some .readConfig
  | 0x44 => some .clearLockout
  | 0x45 => some .clearLampFaults
  | 0x46 => some .clearCounts
  | 0x47 => some .restart
  | _ => none

/-- The code names a request (R154, R164). -/
def knownCode (code : Byte) : Bool := (requestOfCode code).isSome

/-- The code of a check (R167). -/
def checkByte : CheckCode → Byte
  | .jnRange => 1#8
  | .grRange => 2#8
  | .mxDiagonal => 3#8
  | .mxUnused => 4#8
  | .mxSymmetry => 5#8
  | .mxClearance => 6#8
  | .lpRange => 7#8
  | .lpTarget => 8#8
  | .inRange => 9#8
  | .inTarget => 10#8
  | .bcRange => 11#8
  | .rtTarget => 12#8
  | .lnRange => 13#8

/-- The code of a notice kind (R164). -/
def noticeByte : Notice → Byte
  | .fault => 1#8
  | .mode => 2#8
  | .reply => 3#8
  | .transition => 4#8
  | .tram => 5#8
  | .detector => 6#8
  | .lamp => 7#8

/-! ### Addresses (R151) -/

/-- The address byte of a role: the upper seven bits the address, bit 0 the direction (R151). -/
def addressByte (straps : Straps) (r : Role) (read : Bool) : Byte :=
  byte (2 * (0x40 + 4 * straps.addr.toNat + (roleIndex r).val) + if read then 1 else 0)

/-- The role whose request address a byte carries (R151). -/
def requestRole (straps : Straps) (b : Byte) : Option Role :=
  allRoles.find? fun r => addressByte straps r false == b

/-! ### Request frames (R152) -/

/-- What a request frame comes to. -/
inductive FrameEnd where
  | taken | formatDrop | checkFailure | formatDropSeen
  deriving DecidableEq, Repr

/-- How the frame of an address byte and the bytes after it ends (R152). DESIGN CHOICE (log 40): a wrong check byte
ends the frame, so a byte after it counts nothing more; a format drop is a byte after an acknowledged one. -/
def frameEnd (address : Byte) (rest : List Byte) : FrameEnd :=
  match rest with
  | code :: n :: body =>
    if 40 < n.toNat then .formatDrop
    else
      match body.drop n.toNat with
      | [] => .formatDrop
      | check :: extra =>
        if check = crc8 (address :: code :: n :: body.take n.toNat) then
          if extra = [] then .taken else .formatDropSeen
        else .checkFailure
  | _ => .formatDrop

/-- The bytes of a request frame of a role (R152, R164): address byte, request code, length, parameters, check
byte. -/
def requestFrame (straps : Straps) (role : Role) (code : Byte) (params : List Byte) : List Byte :=
  let body := addressByte straps role false :: code :: byte params.length :: params
  body ++ [crc8 body]

/-- The command that a frame sent to the part is (R152, R154, R164): the request its code names for the role of its
address, REQUEST_CODE_UNKNOWN for a code that names none, and REQUEST_FRAME_DROP for any frame that is dropped or
that another address opens. -/
def commandOfFrame (straps : Straps) (bytes : List Byte) (close : FrameClose) : Instr :=
  match bytes with
  | address :: code :: n :: body =>
    match requestRole straps address, frameEnd address (code :: n :: body) with
    | some role, .taken =>
      match requestOfCode code with
      | some request => request role (body.take n.toNat)
      | none => .requestCodeUnknown role code
    | _, _ => .requestFrameDrop bytes close
  | _ => .requestFrameDrop bytes close

/-- One format drop more (R161). -/
def countFormat (r : Role) (s : State) : State :=
  countError r (fun c => { c with formatDrops := satInc c.formatDrops }) s

/-- A request frame that is dropped changes its error count and, where its check byte was acknowledged,
the seen flag (R152); a frame that another device's address opens, or that is not dropped, changes nothing
here. -/
def dropFrame (bytes : List Byte) (s : State) : State :=
  match bytes with
  | [] => s
  | address :: rest =>
    match requestRole s.straps address with
    | none => s
    | some r =>
      match frameEnd address rest with
      | .taken => s
      | .formatDrop => countFormat r s
      | .checkFailure => countError r (fun c => { c with checkFailures := satInc c.checkFailures }) s
      | .formatDropSeen => countFormat r (setSeen r s)

/-! ### Taking a request (R154, R157) -/

/-- The request is dropped because the slot is PENDING (R154). -/
def busyDrop (r : Role) (s : State) : State :=
  countError r (fun c => { c with busyDrops := satInc c.busyDrops }) s

/-- The reply of the owner is written, the supervision timer restarts where R68 says so, and what the
request set off is settled. DESIGN CHOICE (log 35): the owner answers before the restart, so PLAN's own
READ_JUNCTION in NORMAL reports the supervision time that remained when it came. -/
def finishRequest (role : Role) (r : State × Reply) : State :=
  settled (superviseRestart role r.2.code (answer role r.2 r.1))

/-- A request is taken at the close of its frame (R152, R154): the seen flag is set; a PENDING slot drops
the request; a role without the right is answered REFUSED_ROLE; otherwise the owner answers. A length
above 40 would have dropped the frame (R152). -/
def takeRequest (role : Role) (granted : Bool) (params : List Byte) (owner : State → State × Reply)
    (s : State) : State :=
  if 40 < params.length then countFormat role s
  else
    let s1 := setSeen role s
    if (link s1 role).slot = .pending then busyDrop role s1
    else finishRequest role (if granted then owner s1 else (s1, plain .refusedRole))

/-- The owner of a request with no parameters refuses any other length (R156). -/
def noParams (params : List Byte) (owner : State → State × Reply) (s : State) : State × Reply :=
  if params = [] then owner s else (s, plain .refusedParam)

/-- PLAN's requests (R157). -/
def planOnly (r : Role) : Bool := r == .plan

/-- The requests of PLAN and CENTRAL (R157). -/
def planOrCentral (r : Role) : Bool := r == .plan || r == .central

/-- Every role but TRAMNET may send MODE (R157). -/
def modeRoles (r : Role) : Bool := r != .tramnet

/-- CENTRAL's request (R157). -/
def centralOnly (r : Role) : Bool := r == .central

/-- TRAMNET's requests (R157). -/
def tramnetOnly (r : Role) : Bool := r == .tramnet

/-- SERVICE's requests (R157). -/
def serviceOnly (r : Role) : Bool := r == .service

/-! ### Reply frames (R155) -/

/-- The reply a slot sends (R155). -/
def slotReply : ReplySlot → Reply
  | .empty => plain .noReply
  | .pending => plain .pending
  | .ready r _ => r

/-- The bytes the part sends in a reply frame: status, length, data and check byte (R155). -/
def replyFrame (straps : Straps) (role : Role) (r : Reply) : List Byte :=
  let body := [replyByte r.code, byte r.data.length] ++ r.data
  body ++ [crc8 (addressByte straps role true :: body)]

/-- A reply frame of which the master acknowledges a number of bytes (R155): the check byte acknowledged,
a READY slot becomes EMPTY, and a reply that came from a PENDING request takes the REPLY kind out of the
set. Every byte acknowledged after the check byte was sent as 0xFF (log 25). -/
def readReply (role : Role) (acknowledged : Nat) (s : State) : State :=
  let frame := replyFrame s.straps role (slotReply (link s role).slot)
  let s1 : State :=
    { s with
      replyLine := frame.take (acknowledged + 1) ++ List.replicate (acknowledged - frame.length) 0xFF#8 }
  match (link s role).slot with
  | .ready _ fromPending =>
    if frame.length ≤ acknowledged then
      let s2 := modLink role (fun l => { l with slot := .empty }) s1
      if fromPending then dropNotice .reply role s2 else s2
    else s1
  | _ => s1

end Sys2Proof.Machine
end

