-- ==== Sys2Proof/Machine/LinkEvents.lean ====
section
/-! DEFINITION. What the link interface does of itself: REQUEST_FRAME_DROP, LINK_CLOCK_TIMEOUT, REPLY_READ,
REQUEST_CODE_UNKNOWN. -/

namespace Sys2Proof.Machine

open Sys2Proof

/-- REQUEST_FRAME_DROP (R152). A STOP and a START in its place close the frame alike. -/
def execRequestFrameDrop (bytes : List Byte) (_close : FrameClose) (s : State) :
    Host.Outcome State Fault Refusal :=
  .next (dropFrame bytes s)

/-- The seen flag of a frame that timed out: a check byte acknowledged before the timeout has set it
(R152, R153; log 31). -/
def timedOutSeen (frame : TimedFrame) (r : Role) (s : State) : State :=
  match frame with
  | .request true => setSeen r s
  | .request false => s
  | .reply => s

/-- LINK_CLOCK_TIMEOUT (R153): the frame is dropped and counted; the slot keeps its state. A reply frame that
stalls after its check byte was acknowledged is a REPLY_READ followed by this event (DESIGN CHOICE, log 41). -/
def execLinkClockTimeout (r : Role) (frame : TimedFrame) (s : State) : Host.Outcome State Fault Refusal :=
  .next
    (countError r (fun c => { c with clockTimeouts := satInc c.clockTimeouts }) (timedOutSeen frame r s))

/-- REPLY_READ (R155). -/
def execReplyRead (r : Role) (acknowledged : Nat) (s : State) : Host.Outcome State Fault Refusal :=
  .next (readReply r acknowledged s)

/-- A request whose code names no request (R154): dropped by a PENDING slot, otherwise answered
REFUSED_UNKNOWN. -/
def takeUnknown (r : Role) (s : State) : State :=
  takeRequest r true [] (fun s => (s, plain .refusedUnknown)) s

/-- REQUEST_CODE_UNKNOWN (R154). A code of the table is not unknown (log 1). -/
def execRequestCodeUnknown (r : Role) (code : Byte) (s : State) : Host.Outcome State Fault Refusal :=
  .next (if knownCode code then s else takeUnknown r s)

end Sys2Proof.Machine
end

