-- ==== Sys2Proof/Machine/Reads.lean ====
section
/-! DEFINITION. The reads: how much of a table one reply holds (R158), and the layouts of R164 for the
junction, groups, transitions, loops, inputs, trams, beacons, counters and configuration records. -/

namespace Sys2Proof.Machine

open Sys2Proof

/-! ### Replies to reads (R158) -/

/-- The entries that fit a room in bytes, from the first upward (R158). -/
def fitting (room : Nat) : List (List Byte) → List (List Byte)
  | [] => []
  | e :: rest => if e.length ≤ room then e :: fitting (room - e.length) rest else []

/-- The reply to a read: the junction time, the number of entries, and the entries that fit 64 bytes of
data (R158, R164). -/
def readReplyOf (s : State) (entries : List (List Byte)) : Reply :=
  let fit := fitting 59 entries
  { code := .done, data := bytes32 s.now ++ [byte fit.length] ++ fit.flatten }

/-- A read answers and changes nothing of its own (R158). -/
def answerRead (s : State) (entries : List (List Byte)) : State × Reply := (s, readReplyOf s entries)

/-- The indices of a read from a first index, up to a count, within `size` (R158). -/
def indices (size first count : Nat) : List Nat := (List.range' first count).filter (· < size)

/-! ### Codes (R164) -/

/-- The code of a mode (R164). -/
def modeByte : Mode → Byte
  | .dark => 0#8 | .flash => 1#8 | .start => 2#8 | .normal => 3#8 | .clearing => 4#8 | .lockout => 5#8

/-- The code of a START sub-phase (R164). -/
def phaseByte : StartPhase → Byte
  | .flashPhase => 0#8 | .redPhase => 1#8

/-- The code of a CLEARING target (R164). -/
def targetByte : ClearTarget → Byte
  | .dark => 0#8 | .flash => 1#8

/-- The code of a circuit (R164). -/
def circuitByte : Circuit → Byte
  | .a => 0#8 | .b => 1#8 | .c => 2#8

/-- The code of a group state (R164). -/
def stateCode : GState → Nat
  | .dark => 0 | .redMin => 1 | .red => 2 | .redWait => 3 | .prepare => 4 | .greenMin => 5 | .green => 6
  | .clear => 7

/-- The code of a claim (R164). -/
def claimCode : Option Claim → Nat
  | none => 0
  | some c => match c.kind with | .release => 1 | .terminate => 2

/-- The code of a transition's class (R164). -/
def classByte : TClass → Byte
  | .plan => 0#8 | .tram => 1#8 | .central => 2#8

/-- The code of a transition's state (R164). -/
def tstateByte : TState → Byte
  | .queued => 1#8 | .active => 2#8 | .done => 3#8 | .cancelled => 4#8

/-- The code of an end cause; 0 when absent (R164). -/
def causeByte : Option EndCause → Byte
  | none => 0#8
  | some .completed => 1#8
  | some .originCancel => 2#8
  | some .centralCancel => 3#8
  | some .tramEngine => 4#8
  | some .mode => 5#8
  | some .config => 6#8
  | some .redLost => 7#8

/-- The code of an item outcome (R164). -/
def outcomeCode : ItemOutcome → Nat
  | .waiting => 0 | .satisfied => 1 | .reached => 2

/-- A time as four bytes, 0 when absent (R164). -/
def optTime : Option Time → List Byte
  | none => bytes32 0#32
  | some t => bytes32 t

/-- A number of a group, 1 to 24 (R164). -/
def groupByte (g : GroupId) : Byte := byte (g.val + 1)

/-- The number of an approach, 1 to 4 (R164). -/
def approachByte (a : ApproachId) : Byte := byte (a.val + 1)

/-- The code of a role (R164). -/
def roleByte (r : Role) : Byte := byte (roleIndex r).val

/-- The code of a route (R164). -/
def routeByte (r : Route) : Byte := byte (routeIndex r + 1)

/-! ### READ_JUNCTION (R72, R164) -/

/-- The load outcome with its check code and index, four bytes (R164). -/
def loadBytes : LoadOutcome → List Byte
  | .loaded => [0#8, 0#8, 0#8, 0#8]
  | .crcFailed => [1#8, 0#8, 0#8, 0#8]
  | .checkFailed code index => [2#8, checkByte code] ++ num16 index

/-- The lockout cause, six bytes, 0 when absent (R164). -/
def lockoutBytes : Option LockoutCause → List Byte
  | none => [0#8, 0#8, 0#8, 0#8, 0#8, 0#8]
  | some c => [groupByte c.group, circuitByte c.circuit] ++ bytes32 c.time

/-- The junction entry, 27 bytes (R164). -/
def junctionEntry (s : State) : List Byte :=
  [modeByte s.mode] ++ bytes32 s.modeEnteredAt ++
    [bits
      [s.startPhase.isSome, s.clearTarget.isSome, s.supervision.isSome, s.lockoutCheck.isSome,
        s.lockoutCause.isSome]] ++
    (match s.startPhase with
      | none => [0#8, 0#8, 0#8, 0#8, 0#8]
      | some (p, t) => [phaseByte p] ++ bytes32 t) ++
    [(s.clearTarget.map targetByte).getD 0#8] ++ num16 ((supervisionRemaining s).getD 0) ++
    lockoutBytes s.lockoutCause ++
    [byte (if s.resetCause.serviceRestart then 1 else 0), byte (if s.resetCause.lockoutCarried then 1 else 0)] ++
    loadBytes s.resetCause.load ++
    [byte
      (s.resetCause.straps.addr.toNat + (if s.resetCause.straps.smode then 8 else 0) +
        (if s.resetCause.straps.astart then 16 else 0))]

/-! ### READ_GROUPS (R6, R33, R164) -/

/-- The schedule as reads report it: in RED_WAIT only (R33; log 9). -/
def shownSchedule (r : GroupRec) : Option Schedule := if r.state = .redWait then r.schedule else none

/-- The byte of state, kind and claim (R164). -/
def stateByte (k : Kind) (r : GroupRec) : Byte :=
  byte (stateCode r.state + 16 * kindCode k + 64 * claimCode r.claim)

/-- The byte of flags and presence bits (R164). -/
def flagByte (r : GroupRec) : Byte :=
  bits
    [r.inhibited, r.priorityInhibited, r.redLost, r.demand.isSome, r.demand.any (·.permanent),
      r.pendingTerm.isSome, r.holdUntil.isSome, r.greenStart.isSome]

/-- The byte of the lamp faults (R164). -/
def faultByte (f : LampFaults) : Byte := bits [f.bOut, f.cOut, f.aStuck, f.bStuck]

/-- T - now in ds, 0 to 254, or 255 when S and T are absent (R164). -/
def untilGreen (now : Time) : Option Schedule → Nat
  | none => 255
  | some sch => if after sch.t now then min 254 (sch.t - now).toNat else 0

/-- The compact group record, 8 bytes (R164). -/
def compactGroup (s : State) (g : GroupId) : List Byte :=
  let r := grp s g
  [stateByte (kind s g) r] ++ num16 (reportAge s.now r.enteredAt) ++ [flagByte r, faultByte r.faults] ++
    num16 (gapValue s.now r.gap) ++ [byte (untilGreen s.now (shownSchedule r))]

/-- Class and id of a pending terminate (R164). -/
def pendingBytes : Option PendingTerm → List Byte
  | none => [0#8, 0#8]
  | some (.transition cls id) => [classByte cls, id]
  | some .junction => [3#8, 0#8]

/-- Kind and number of a demand source (R111, R164). -/
def sourceBytes : DemandSource → List Byte
  | .loop ch => [0#8, byte (ch.val + 1)]
  | .input i => [1#8, byte (i.val + 1)]
  | .plan => [2#8, 0#8]
  | .failedDetector ch => [3#8, byte (ch.val + 1)]

/-- The demand record, six bytes, 0 when absent (R164). -/
def demandBytes : Option Demand → List Byte
  | none => [0#8, 0#8, 0#8, 0#8, 0#8, 0#8]
  | some d => sourceBytes d.source ++ bytes32 d.registeredAt

/-- The full group record, 46 bytes (R164). -/
def fullGroup (s : State) (g : GroupId) : List Byte :=
  let r := grp s g
  let sch := shownSchedule r
  [groupByte g, stateByte (kind s g) r] ++ num16 (reportAge s.now r.enteredAt) ++
    [flagByte r, faultByte r.faults] ++ num16 (gapValue s.now r.gap) ++
    [bits [r.greenEnd.isSome, r.redEntry.isSome, sch.isSome]] ++ bytes32 r.enteredAt ++
    optTime r.greenStart ++ optTime r.greenEnd ++ optTime r.redEntry ++ optTime (sch.map (·.s)) ++
    optTime (sch.map (·.t)) ++ [(r.claim.map (·.id)).getD 0#8] ++ pendingBytes r.pendingTerm ++
    optTime r.holdUntil ++ demandBytes r.demand

/-- READ_GROUPS (R158): one byte asks for the full form, two for the compact form. -/
def readGroupsOwner (params : List Byte) (s : State) : State × Reply :=
  match params with
  | [g] =>
    match groupOfNat g.toNat with
    | some g => answerRead s [fullGroup s g]
    | none => (s, plain .refusedParam)
  | [first, count] =>
    match groupOfNat first.toNat with
    | some g =>
      if 1 ≤ count.toNat ∧ count.toNat ≤ 7 then
        answerRead s (((allGroups.drop g.val).take count.toNat).map (compactGroup s))
      else (s, plain .refusedParam)
    | none => (s, plain .refusedParam)
  | _ => (s, plain .refusedParam)

/-! ### READ_TRANSITIONS (R56, R164) -/

/-- The origin of a transition and its tram number, three bytes (R164). -/
def originBytes : Origin → List Byte
  | .role r => [roleByte r, 0#8, 0#8]
  | .tram number a => [approachByte a] ++ bytes16 number

/-- The byte of one item (R164). -/
def itemByte (g : GroupId) (it : Item) : Byte :=
  byte ((g.val + 1) + (if it.kind = .release then 32 else 0) + 64 * outcomeCode it.outcome)

/-- The items of a record, in the order the free value gives (R56, log 18). -/
def itemBytes (s : State) (r : TransRec) : List Byte :=
  (orderBy s.order.items allGroups).filterMap fun g => (itemOf r g).map (itemByte g)

/-- A transition slot entry (R164). -/
def slotEntry (s : State) (k : SlotId) : List Byte :=
  match slot s k with
  | none => [byte k.val, 0#8]
  | some r =>
    [byte k.val, tstateByte r.state, r.id, classByte r.cls] ++ originBytes r.origin ++
      bytes32 r.acceptedAt ++ optTime r.finishedAt ++ [causeByte r.endCause] ++
      [byte ((r.tram.map (·.level)).getD 0)] ++ optTime (r.tram.map (·.arrival)) ++
      [byte (itemBytes s r).length] ++ itemBytes s r

/-- READ_TRANSITIONS (R56, R158): a first slot 0 to 7 and a count of 1 to 8, which ends at slot 7. -/
def readTransitionsOwner (params : List Byte) (s : State) : State × Reply :=
  match readRange 0 8 params with
  | some (first, count) =>
    if count ≤ 8 then answerRead s (((allSlots.drop first).take count).map (slotEntry s))
    else (s, plain .refusedParam)
  | none => (s, plain .refusedParam)

/-! ### READ_LOOPS (R104, R110, R164) -/

/-- The code of a loop function (R165). -/
def loopFunctionByte : LoopFunction → Byte
  | .disabled => 0#8 | .demand => 1#8 | .extend => 2#8 | .count => 3#8 | .tram => 4#8

/-- The code of an input function (R165). -/
def inputFunctionByte : InputFunction → Byte
  | .unused => 0#8 | .demand => 1#8 | .extend => 2#8 | .tramStop => 3#8

/-- The group or the approach a record names, 0 for none (R164; log 34). -/
def targetByteOf (g : Option GroupId) (a : Option ApproachId) : Byte :=
  match g, a with
  | some g, _ => groupByte g
  | none, some a => approachByte a
  | none, none => 0#8

/-- The code of a channel state (R164). -/
def channelByte : ChState → Byte
  | .disabled => 0#8 | .settling => 1#8 | .free => 2#8 | .occupied => 3#8 | .fault => 4#8

/-- The code of a fault kind (R164). -/
def badByte : BadResult → Byte
  | .noOsc => 0#8 | .lowFreq => 1#8 | .highFreq => 2#8

/-- The channel entry, 26 bytes (R104, R164). -/
def channelEntry (s : State) (ch : ChannelId) : List Byte :=
  let c := loopCfg s ch
  let r := channel s ch
  [byte (ch.val + 1), loopFunctionByte (loopFn c), targetByteOf (loopFeeds c) (loopChecksOut c)] ++
    bytes16 c.periods ++ bytes16 c.onThreshold ++
    [channelByte r.state,
      bits
        [r.baseline.isSome, r.lastCount.isSome, r.lastShift.isSome, r.occupiedSince.isSome,
          r.faultKind.isSome, r.presenceExpired]] ++
    num32 (r.baseline.getD 0) ++ num32 (r.lastCount.getD 0) ++ int16 (r.lastShift.getD 0) ++
    num16 ((r.occupiedSince.map (reportAge s.now)).getD 0) ++ [byte r.badRun, byte r.goodRun] ++
    bytes16 r.vehicles ++ [(r.faultKind.map badByte).getD 0#8]

/-- The input entry, 5 bytes (R110, R164). -/
def inputEntry (s : State) (i : InputId) : List Byte :=
  let c := inputCfg s i
  let r := inputRec s i
  [byte (i.val + 17), inputFunctionByte (inputFn c), targetByteOf (inputFeeds c) (inputChecksOut c),
    byte (if r.active then 1 else 0), byte (if r.raw then 1 else 0)]

/-- The items of READ_LOOPS in order: 16 channels, then 16 inputs (R158). -/
def loopItems (s : State) : List (List Byte) :=
  allChannels.map (channelEntry s) ++ allInputs.map (inputEntry s)

/-- READ_LOOPS (R104, R110, R158). -/
def readLoopsOwner (params : List Byte) (s : State) : State × Reply :=
  match readRange 1 32 params with
  | some (first, count) => answerRead s (((loopItems s).drop first).take count)
  | none => (s, plain .refusedParam)

/-! ### READ_TRAMS (R127, R149, R164) -/

/-- The code of a tram record's state (R164). -/
def tramByte : TramState → Byte
  | .observed => 1#8 | .calling => 2#8 | .holding => 3#8 | .overdue => 4#8

/-- The tram list entry (R164). -/
def tramEntryBytes (s : State) (k : EntryId) : List Byte :=
  match tram s k with
  | none => [byte k.val, 0#8]
  | some r =>
    [byte k.val, tramByte r.state] ++ bytes16 r.number ++
      [approachByte r.approach, r.line, routeByte r.route, groupByte r.group] ++ bytes32 r.checkInAt ++
      bytes32 r.arrival ++ [byte r.level, byte (r.lateness.getD 255)] ++
      [bits [r.capped, r.transition.isSome, r.holdEnd.isSome, r.source == .tramnet], byte r.calls,
        r.transition.getD 0#8] ++
      optTime r.holdEnd ++ bytes32 (lostTime s r)

/-- The code of a receiver state (R164). -/
def receiverByte : Receiver → Byte
  | .idle => 0#8 | .assembling => 1#8 | .broken => 2#8

/-- The 16 beacons in order. -/
def allBeacons : List BeaconId := List.finRange 16

/-- The presence of the last-heard times, bit k for beacon Bk (R164). -/
def heardBits (b : BeaconRec) : BitVec 16 :=
  allBeacons.foldr (fun i acc => (acc <<< 1) ||| (if (look b.lastHeard i).isSome then 1#16 else 0#16)) 0#16

/-- The beacon entry, 35 bytes (R127, R164). -/
def beaconEntry (s : State) : List Byte :=
  [receiverByte s.beacon.receiver] ++ bytes16 (heardBits s.beacon) ++
    allBeacons.flatMap fun i => num16 (((look s.beacon.lastHeard i).map (reportAge s.now)).getD 0)

/-- READ_TRAMS: no parameters ask for the beacon part, two for the list part (R158, R164). -/
def readTramsOwner (params : List Byte) (s : State) : State × Reply :=
  if params = [] then answerRead s [beaconEntry s]
  else
    match readRange 0 8 params with
    | some (first, count) => answerRead s (((allEntries.drop first).take count).map (tramEntryBytes s))
    | none => (s, plain .refusedParam)

/-! ### READ_COUNTS (R158, R164) -/

/-- The five error counts of a role in their order (R161). -/
def linkCounters (c : LinkCounts) : List Counter :=
  [c.checkFailures, c.formatDrops, c.clockTimeouts, c.busyDrops, c.unread]

/-- The seven counters of the beacon receiver in their order (R127). -/
def beaconCounters (c : BeaconCounts) : List Counter :=
  [c.accepted, c.stray, c.framing, c.breaks, c.gapDrops, c.checkFailures, c.contentDrops]

/-- The five statistics of an approach in their order (R149). -/
def tramCounters (c : TramStats) : List Counter := [c.calls, c.holds, c.capped, c.lost, c.checkOuts]

/-- The counters of a block of READ_COUNTS in their order (R164). -/
def countersOf (s : State) (block : Byte) : Option (List Counter) :=
  match block.toNat with
  | 0 => some (allRoles.flatMap fun r => linkCounters (link s r).counts)
  | 1 => some (beaconCounters s.beacon.counts)
  | 2 =>
    some
      (((List.finRange 4).flatMap fun a => tramCounters (look s.tramStats a)) ++
        [s.tramDrops.listFull, s.tramDrops.noRoute, s.tramDrops.unmatched])
  | 3 => some (allChannels.map fun ch => (channel s ch).vehicles)
  | 4 => some (allInputs.map fun i => (inputRec s i).activations)
  | _ => none

/-- READ_COUNTS (R158). -/
def readCountsOwner (params : List Byte) (s : State) : State × Reply :=
  match params with
  | [block] =>
    match countersOf s block with
    | some cs => answerRead s (cs.map bytes16)
    | none => (s, plain .refusedParam)
  | _ => (s, plain .refusedParam)

/-- READ_JUNCTION (R158). -/
def readJunctionOwner (params : List Byte) (s : State) : State × Reply :=
  noParams params (fun s => answerRead s [junctionEntry s]) s

/-! ### READ_CONFIG (R158, R166) -/

/-- READ_CONFIG (R166): ACTIVE without an active image is refused with REFUSED_STATE. DESIGN CHOICE (log 16): where
the section or the index is out of range too, REFUSED_PARAM comes first. -/
def readConfigOwner (params : List Byte) (s : State) : State × Reply :=
  match readConfigParams params with
  | none => (s, plain .refusedParam)
  | some (staging, sec, first, count) =>
    match if staging then some s.staging else s.active with
    | none => (s, plain .refusedState)
    | some img => answerRead s ((indices (sectionSize sec) first count).map (readRecord img sec))

/-! ### NOTICE_POLL (R160) -/

/-- NOTICE_POLL (R160): the highest-ranked kind leaves the set. -/
def noticePollOwner (role : Role) (s : State) : State × Reply :=
  match noticesOf s role with
  | [] => (s, { code := .done, data := [0#8, 0#8] })
  | n :: rest => (dropNotice n role s, { code := .done, data := [noticeByte n, byte rest.length] })

end Sys2Proof.Machine
end

