-- ==== Sys2Proof/Machine/ReadRequests.lean ====
section
/-! DEFINITION. The requests that every role may send: the six reads and NOTICE_POLL (R157, R158, R160). -/

namespace Sys2Proof.Machine

open Sys2Proof

/-- READ_JUNCTION (R72, R158). -/
def execReadJunction (role : Role) (params : List Byte) (s : State) : Host.Outcome State Fault Refusal :=
  .next (takeRequest role true params (readJunctionOwner params) s)

/-- READ_GROUPS (R158). -/
def execReadGroups (role : Role) (params : List Byte) (s : State) : Host.Outcome State Fault Refusal :=
  .next (takeRequest role true params (readGroupsOwner params) s)

/-- READ_TRANSITIONS (R56). -/
def execReadTransitions (role : Role) (params : List Byte) (s : State) : Host.Outcome State Fault Refusal :=
  .next (takeRequest role true params (readTransitionsOwner params) s)

/-- READ_LOOPS (R104, R110). -/
def execReadLoops (role : Role) (params : List Byte) (s : State) : Host.Outcome State Fault Refusal :=
  .next (takeRequest role true params (readLoopsOwner params) s)

/-- READ_TRAMS (R127, R149). -/
def execReadTrams (role : Role) (params : List Byte) (s : State) : Host.Outcome State Fault Refusal :=
  .next (takeRequest role true params (readTramsOwner params) s)

/-- READ_COUNTS (R158). -/
def execReadCounts (role : Role) (params : List Byte) (s : State) : Host.Outcome State Fault Refusal :=
  .next (takeRequest role true params (readCountsOwner params) s)

/-- NOTICE_POLL (R160). -/
def execNoticePoll (role : Role) (params : List Byte) (s : State) : Host.Outcome State Fault Refusal :=
  .next (takeRequest role true params (noParams params (noticePollOwner role)) s)

end Sys2Proof.Machine
end

