-- ==== Sys2Proof/Machine/RunRequests.lean ====
section
/-! DEFINITION. The requests by which the cards run the junction: KEEPALIVE, DEMAND, PRIORITY_INHIBIT,
TRANSITION, CANCEL_TRANSITION, MODE, GROUP_INHIBIT, TRAM_CHECK_IN, TRAM_CHECK_OUT, TRAM_CANCEL. Each owner
answers with the state it leaves and its reply. -/

namespace Sys2Proof.Machine

open Sys2Proof

/-- A plain reply with the state unchanged. -/
def refuse (c : ReplyCode) (s : State) : State × Reply := (s, plain c)

/-! ### KEEPALIVE (R68) -/

/-- KEEPALIVE is answered DONE in every mode (R68). -/
def keepaliveOwner (params : List Byte) (s : State) : State × Reply :=
  noParams params (fun s => (s, plain .done)) s

/-- KEEPALIVE (R68). -/
def execKeepalive (role : Role) (params : List Byte) (s : State) : Host.Outcome State Fault Refusal :=
  .next (takeRequest role (planOnly role) params (keepaliveOwner params) s)

/-! ### DEMAND (R114) -/

/-- The demand record of a group as DEMAND leaves it (R114). -/
def requestedDemand (now : Time) (place : Bool) (d : Option Demand) : Option Demand :=
  match place, d with
  | true, none => some { source := .plan, registeredAt := now, permanent := false }
  | true, some d => some d
  | false, some d => if d.permanent then some d else none
  | false, none => none

/-- DEMAND at the demand logic (R114). -/
def demandOwner (params : List Byte) (s : State) : State × Reply :=
  match actionOnGroups (used s) params with
  | none => refuse .refusedParam s
  | some (place, gs) =>
    (forEach gs
        (fun g s => modGroup g (fun r => { r with demand := requestedDemand s.now place r.demand }) s) s,
      plain .done)

/-- DEMAND (R114). -/
def execDemand (role : Role) (params : List Byte) (s : State) : Host.Outcome State Fault Refusal :=
  .next (takeRequest role (planOnly role) params (demandOwner params) s)

/-! ### PRIORITY_INHIBIT (R146) -/

/-- The priority-inhibited flag of a TRAM group is written, and the records on the group are evaluated at a
change and at every set (R146; log 26). -/
def writePriorityInhibit (set : Bool) (g : GroupId) (s : State) : State :=
  let s1 := modGroup g (fun r => { r with priorityInhibited := set }) s
  if set || (grp s g).priorityInhibited then emit (.tramEvaluateGroup g) s1 else s1

/-- PRIORITY_INHIBIT at the tram priority engine (R146). DESIGN CHOICE (log 44): the records on several named
groups are evaluated group by group, in the order in which the request names the groups. -/
def priorityInhibitOwner (params : List Byte) (s : State) : State × Reply :=
  match actionOnGroups (fun g => kind s g == .tram) params with
  | none => refuse .refusedParam s
  | some (set, gs) => (forEach gs (writePriorityInhibit set) s, plain .done)

/-- PRIORITY_INHIBIT (R146). -/
def execPriorityInhibit (role : Role) (params : List Byte) (s : State) : Host.Outcome State Fault Refusal :=
  .next (takeRequest role (planOnly role) params (priorityInhibitOwner params) s)

/-! ### TRANSITION (R37, R38) -/

/-- Check 3 of R37: no two groups of the release list conflict. -/
def releaseFree (s : State) (release : List GroupId) : Bool :=
  release.all fun i => release.all fun j => !conflicts s i j

/-- Check 4 of R37: no group of the release list is inhibited. -/
def releaseAllowed (s : State) (release : List GroupId) : Bool :=
  release.all fun g => !(grp s g).inhibited

/-- Check 5 of R37: each group that conflicts with the release list, and is in proceed or named in the
release set of a live transition, stands in the terminate list or in a live terminate set. -/
def covered (s : State) (terminate release : List GroupId) : Bool :=
  allGroups.all fun i =>
    !(release.any fun j => conflicts s i j) ||
    !(inProceed s i || (liveRecs s).any fun q => inSet .release q i) ||
    (decide (i ∈ terminate) || (liveRecs s).any fun q => inSet .terminate q i)

/-- The live records of class PLAN or CENTRAL (R37, R38). -/
def cardRecords (s : State) : List TransRec := (liveRecs s).filter fun r => r.cls != .tram

/-- Check 6 of R37. -/
def roomFor (s : State) : Bool := decide ((cardRecords s).length < 6) && (freeSlot s).isSome

/-- The class of a TRANSITION by its role (R34). -/
def requestClass (role : Role) : TClass := if role = .central then .central else .plan

/-- A request that passes every check is accepted (R38). -/
def acceptTransition (role : Role) (terminate release : List GroupId) (s : State) : State × Reply :=
  match freeSlot s with
  | none => refuse .refusedFull s
  | some k =>
    (writeRecordAt k (requestClass role) (.role role) terminate release none s,
      { code := .accepted, data := [nextId s] })

/-- TRANSITION at the release arbiter: the length, then the checks of R37 in their order. -/
def transitionOwner (role : Role) (params : List Byte) (s : State) : State × Reply :=
  match transitionBytes params with
  | none => refuse .refusedParam s
  | some (tb, rb) =>
    if s.mode ≠ .normal then refuse .refusedMode s
    else
      match transitionLists (used s) tb rb with
      | none => refuse .refusedParam s
      | some (terminate, release) =>
        if releaseFree s release = false then refuse .refusedConflict s
        else if releaseAllowed s release = false then refuse .refusedState s
        else if covered s terminate release = false then refuse .refusedConflict s
        else if roomFor s = false then refuse .refusedFull s
        else acceptTransition role terminate release s

/-- TRANSITION (R37). -/
def execTransition (role : Role) (params : List Byte) (s : State) : Host.Outcome State Fault Refusal :=
  .next (takeRequest role (planOrCentral role) params (transitionOwner role params) s)

/-! ### CANCEL_TRANSITION (R41) -/

/-- The end cause a role's cancellation gives a live record, or none when it has no right to it (R41). -/
def cancelRight (role : Role) (r : TransRec) : Option EndCause :=
  if r.origin = .role role then some .originCancel
  else if r.cls = .plan ∧ role = .central then some .centralCancel
  else none

/-- CANCEL_TRANSITION at the release arbiter (R41). -/
def cancelTransitionOwner (role : Role) (params : List Byte) (s : State) : State × Reply :=
  match params with
  | [id] =>
    match liveSlotOf s id with
    | none => refuse .refusedParam s
    | some k =>
      match (slot s k).bind (cancelRight role) with
      | some cause => (cancelRecord cause k s, plain .done)
      | none => refuse .refusedRole s
  | _ => refuse .refusedParam s

/-- CANCEL_TRANSITION (R41). -/
def execCancelTransition (role : Role) (params : List Byte) (s : State) :
    Host.Outcome State Fault Refusal :=
  .next (takeRequest role (planOrCentral role) params (cancelTransitionOwner role params) s)

/-! ### MODE (R60) -/

/-- MODE at the junction mode controller (R60). -/
def modeOwner (params : List Byte) (s : State) : State × Reply :=
  match params with
  | [m] =>
    match wantedMode m with
    | some .normal => wantNormal s
    | some .flash => wantResting .flash s
    | some .dark => wantResting .dark s
    | none => refuse .refusedParam s
  | _ => refuse .refusedParam s

/-- MODE (R60). -/
def execMode (role : Role) (params : List Byte) (s : State) : Host.Outcome State Fault Refusal :=
  .next (takeRequest role (modeRoles role) params (modeOwner params) s)

/-! ### GROUP_INHIBIT (R42) -/

/-- What a change of a group's inhibited flag hands to a neighbour: the RA examines scheduling (R42, R48), the
TPE evaluates the records on a TRAM group (R42, R146). -/
def inhibitHandoff (s : State) (g : GroupId) : Neighbour → Option Handoff
  | .arbiter => some .scheduleExamine
  | .tram => if kind s g = .tram then some (.tramEvaluateGroup g) else none
  | .config => none
  | .junction => none
  | .demand => none

/-- The inhibited flag of a group is written; a change is handed on (R42, R146). -/
def writeInhibit (set : Bool) (g : GroupId) (s : State) : State :=
  if (grp s g).inhibited = set then s
  else handOn (inhibitHandoff s g) (modGroup g (fun r => { r with inhibited := set }) s)

/-- GROUP_INHIBIT at the release arbiter (R42). DESIGN CHOICE (log 44): the changes of several named groups are
handed on group by group, in the order in which the request names the groups. -/
def groupInhibitOwner (params : List Byte) (s : State) : State × Reply :=
  match actionOnGroups (used s) params with
  | none => refuse .refusedParam s
  | some (set, gs) => (forEach gs (writeInhibit set) s, plain .done)

/-- GROUP_INHIBIT (R42). -/
def execGroupInhibit (role : Role) (params : List Byte) (s : State) : Host.Outcome State Fault Refusal :=
  .next (takeRequest role (centralOnly role) params (groupInhibitOwner params) s)

/-! ### TRAM_CHECK_IN, TRAM_CHECK_OUT, TRAM_CANCEL (R133, R143, R144) -/

/-- The reply to what became of a check-in (R133). -/
def checkInReply : CheckInResult → ReplyCode
  | .noRoute => .refusedParam
  | .listFull => .refusedFull
  | .taken => .done

/-- TRAM_CHECK_IN at the tram priority engine (R133). -/
def tramCheckInOwner (params : List Byte) (s : State) : State × Reply :=
  match checkInParams params with
  | none => refuse .refusedParam s
  | some c =>
    let r := takeCheckIn c s
    (r.1, plain (checkInReply r.2))

/-- TRAM_CHECK_IN (R133). -/
def execTramCheckIn (role : Role) (params : List Byte) (s : State) : Host.Outcome State Fault Refusal :=
  .next (takeRequest role (tramnetOnly role) params (tramCheckInOwner params) s)

/-- A request on the record of a tram number and approach; REFUSED_PARAM when there is none (R143, R144). -/
def onTram (act : EntryId → TramRec → State → State) (params : List Byte) (s : State) : State × Reply :=
  match tramParams params with
  | none => refuse .refusedParam s
  | some (number, a) =>
    match findTram s number a with
    | none => refuse .refusedParam s
    | some k =>
      match tram s k with
      | some r => (act k r s, plain .done)
      | none => refuse .refusedParam s

/-- TRAM_CHECK_OUT at the tram priority engine (R143). -/
def tramCheckOutOwner (params : List Byte) (s : State) : State × Reply := onTram checkOut params s

/-- TRAM_CHECK_OUT (R143). -/
def execTramCheckOut (role : Role) (params : List Byte) (s : State) : Host.Outcome State Fault Refusal :=
  .next (takeRequest role (tramnetOnly role) params (tramCheckOutOwner params) s)

/-- TRAM_CANCEL at the tram priority engine (R144). -/
def tramCancelOwner (params : List Byte) (s : State) : State × Reply := onTram removeTram params s

/-- TRAM_CANCEL (R144). -/
def execTramCancel (role : Role) (params : List Byte) (s : State) : Host.Outcome State Fault Refusal :=
  .next (takeRequest role (tramnetOnly role) params (tramCancelOwner params) s)

end Sys2Proof.Machine
end

