-- ==== Sys2Proof/Machine/ServiceRequests.lean ====
section
/-! DEFINITION. SERVICE's requests and the end of the store write: WRITE_CONFIG, COMMIT_CONFIG,
STORE_WRITE_END, DISCARD_STAGING, READ_CONFIG, CLEAR_LOCKOUT, CLEAR_LAMP_FAULTS, CLEAR_COUNTS, RESTART. -/

namespace Sys2Proof.Machine

open Sys2Proof

/-! ### WRITE_CONFIG, DISCARD_STAGING, READ_CONFIG (R166) -/

/-- WRITE_CONFIG at the configuration manager (R166). -/
def writeConfigOwner (params : List Byte) (s : State) : State × Reply :=
  match writeParams params with
  | none => (s, plain .refusedParam)
  | some (sec, first, bs) => ({ s with staging := writeRecords sec bs.length s.staging first bs }, plain .done)

/-- WRITE_CONFIG (R166). -/
def execWriteConfig (role : Role) (params : List Byte) (s : State) : Host.Outcome State Fault Refusal :=
  .next (takeRequest role (serviceOnly role) params (writeConfigOwner params) s)

/-- DISCARD_STAGING at the configuration manager (R166). -/
def discardStagingOwner (params : List Byte) (s : State) : State × Reply :=
  noParams params (fun s => ({ s with staging := s.active.getD defaultImage }, plain .done)) s

/-- DISCARD_STAGING (R166). -/
def execDiscardStaging (role : Role) (params : List Byte) (s : State) : Host.Outcome State Fault Refusal :=
  .next (takeRequest role (serviceOnly role) params (discardStagingOwner params) s)

/-- READ_CONFIG (R158, R166). -/
def execReadConfig (role : Role) (params : List Byte) (s : State) : Host.Outcome State Fault Refusal :=
  .next (takeRequest role (serviceOnly role) params (readConfigOwner params) s)

/-! ### COMMIT_CONFIG, STORE_WRITE_END (R167, R168, R170) -/

/-- The reply CONFIG_INVALID with its check code and index (R164, R167). -/
def invalidReply (f : Failure) : Reply := { code := .configInvalid, data := [checkByte f.1] ++ num16 f.2 }

/-- COMMIT_CONFIG at the configuration manager (R167, R168): validation, then the wait for an apply
instant, examined at once. -/
def commitConfigOwner (params : List Byte) (s : State) : State × Reply :=
  noParams params
    (fun s =>
      match validate s.staging with
      | some f => (s, invalidReply f)
      | none => (emit .configExamine { s with commit := .waitingApply }, plain .pending))
    s

/-- COMMIT_CONFIG (R167). -/
def execCommitConfig (role : Role) (params : List Byte) (s : State) : Host.Outcome State Fault Refusal :=
  .next (takeRequest role (serviceOnly role) params (commitConfigOwner params) s)

/-- What the store holds at the end of a write: exactly what was written, or what is given (R170). -/
def heldAtEnd (held : Option Store) (s : State) : Store := held.getD (written (s.active.getD defaultImage))

/-- STORE_WRITE_END (R170). -/
def execStoreWriteEnd (held : Option Store) (s : State) : Host.Outcome State Fault Refusal :=
  .next (if s.commit = .storing then endStoreWrite (heldAtEnd held s) s else s)

/-! ### CLEAR_LOCKOUT (R71) -/

/-- CLEAR_LOCKOUT at the junction mode controller (R71). -/
def clearLockoutOwner (params : List Byte) (s : State) : State × Reply :=
  noParams params
    (fun s =>
      if s.mode = .lockout then
        ({ s with lockoutCheck := some { beganAt := s.now, samples := 0 } }, plain .pending)
      else (s, plain .refusedMode))
    s

/-- CLEAR_LOCKOUT (R71). -/
def execClearLockout (role : Role) (params : List Byte) (s : State) : Host.Outcome State Fault Refusal :=
  .next (takeRequest role (serviceOnly role) params (clearLockoutOwner params) s)

/-! ### CLEAR_LAMP_FAULTS (R85) -/

/-- The empty lamp fault set (R85). -/
def noFaults : LampFaults := { bOut := false, cOut := false, aStuck := false, bStuck := false }

/-- The lamp faults of one group are cleared; a cleared RED_LOST flag has the RA examine scheduling
(R48, R85). -/
def clearFaults (g : GroupId) (s : State) : State :=
  let s1 := modLamps g clearLampTimes (modGroup g (fun r => { r with redLost := false, faults := noFaults }) s)
  if (grp s g).redLost then emit .scheduleExamine s1 else s1

/-- CLEAR_LAMP_FAULTS at lamp drive and proving (R85): an empty list names all 24 groups. -/
def clearLampFaultsOwner (params : List Byte) (s : State) : State × Reply :=
  match namedGroups params with
  | none => (s, plain .refusedParam)
  | some gs => (forEach (if gs = [] then allGroups else gs) clearFaults s, plain .done)

/-- CLEAR_LAMP_FAULTS (R85). -/
def execClearLampFaults (role : Role) (params : List Byte) (s : State) : Host.Outcome State Fault Refusal :=
  .next (takeRequest role (serviceOnly role) params (clearLampFaultsOwner params) s)

/-! ### CLEAR_COUNTS (R162) -/

/-- Every counter that CLEAR_COUNTS names is set to 0 (R162). -/
def clearAllCounts (s : State) : State :=
  { s with
    links := tabulate fun i => { look s.links i with counts := zeroLinkCounts }
    beacon := { s.beacon with counts := zeroBeaconCounts }
    tramStats := Vector.replicate 4 zeroTramStats
    tramDrops := zeroTramDrops
    channels := tabulate fun ch => { look s.channels ch with vehicles := 0#16 }
    inputs := tabulate fun i => { look s.inputs i with activations := 0#16 } }

/-- CLEAR_COUNTS at the link interface (R162): the reply it writes over is discarded uncounted. -/
def clearCountsOwner (role : Role) (params : List Byte) (s : State) : State × Reply :=
  noParams params (fun s => (discardReply role (clearAllCounts s), plain .done)) s

/-- CLEAR_COUNTS (R162). -/
def execClearCounts (role : Role) (params : List Byte) (s : State) : Host.Outcome State Fault Refusal :=
  .next (takeRequest role (serviceOnly role) params (clearCountsOwner role params) s)

/-! ### RESTART (R173) -/

/-- The request is a RESTART that is accepted: SERVICE's, of length 0, met by a slot that is not PENDING
(R154, R173). -/
def restartAccepted (role : Role) (params : List Byte) (s : State) : Bool :=
  serviceOnly role && params == [] && (link s role).slot != .pending

/-- RESTART (R173): an accepted one brings the service restart and writes no reply. -/
def execRestart (role : Role) (params : List Byte) (s : State) : Host.Outcome State Fault Refusal :=
  .next
    (if restartAccepted role params s then serviceRestart s
    else takeRequest role (serviceOnly role) params (fun s => (s, plain .refusedParam)) s)

end Sys2Proof.Machine
end

