-- ==== Sys2Proof/Machine/TramEvents.lean ====
section
/-! DEFINITION. The timers of the tram priority engine: HOLD_TIMER_EXPIRES and LOST_TIMER_EXPIRES. -/

namespace Sys2Proof.Machine

open Sys2Proof

/-- The record of an entry whose hold timer has expired (R139). -/
def holdExpired (s : State) (k : EntryId) : Option TramRec :=
  (tram s k).filter fun r => r.state == .holding && r.holdEnd.any fun h => atOrAfter s.now h

/-- A hold ends (R139): the record becomes OVERDUE and keeps H; the group's hold-until is recomputed. -/
def endHold (k : EntryId) (r : TramRec) (s : State) : State :=
  recomputeHold r.group (modTram k (fun r => { r with state := .overdue }) s)

/-- HOLD_TIMER_EXPIRES (R139). -/
def execHoldTimerExpires (k : EntryId) (s : State) : Host.Outcome State Fault Refusal :=
  .next
    (match holdExpired s k with
      | some r => settled (endHold k r s)
      | none => s)

/-- The record of an entry whose lost timer has expired (R145). -/
def lostExpired (s : State) (k : EntryId) : Option TramRec :=
  (tram s k).filter fun r => atOrAfter s.now (lostTime s r)

/-- LOST_TIMER_EXPIRES (R145). -/
def execLostTimerExpires (k : EntryId) (s : State) : Host.Outcome State Fault Refusal :=
  .next
    (match lostExpired s k with
      | some r => settled (loseTram k r s)
      | none => s)

end Sys2Proof.Machine
end

