-- ==== Sys2Proof/Machine/Dispatch.lean ====
section
/-! DEFINITION. One arm per command, each a direct call of its meaning. -/

namespace Sys2Proof.Machine

open Sys2Proof

def exec (i : Instr) (s : State) : Host.Outcome State Fault Refusal :=
  match i with
  | .powerOnReset pins => Sys2Proof.Machine.execPowerOnReset pins s
  | .autostart => Sys2Proof.Machine.execAutostart s
  | .junctionTimeAdvance => Sys2Proof.Machine.execJunctionTimeAdvance s
  | .flashPhaseChange => Sys2Proof.Machine.execFlashPhaseChange s
  | .stampDrop g stamp => Sys2Proof.Machine.execStampDrop g stamp s
  | .minimumRedExpires g => Sys2Proof.Machine.execMinimumRedExpires g s
  | .nowReachesS g => Sys2Proof.Machine.execNowReachesS g s
  | .nowReachesT g => Sys2Proof.Machine.execNowReachesT g s
  | .minimumGreenExpires g => Sys2Proof.Machine.execMinimumGreenExpires g s
  | .nowReachesHoldUntil g => Sys2Proof.Machine.execNowReachesHoldUntil g s
  | .clearTimeExpires g => Sys2Proof.Machine.execClearTimeExpires g s
  | .startFlashExpires => Sys2Proof.Machine.execStartFlashExpires s
  | .startRedExpires => Sys2Proof.Machine.execStartRedExpires s
  | .supervisionExpires => Sys2Proof.Machine.execSupervisionExpires s
  | .lampSenseSample sense => Sys2Proof.Machine.execLampSenseSample sense s
  | .unwantedProceed g => Sys2Proof.Machine.execUnwantedProceed g s
  | .redLost g => Sys2Proof.Machine.execRedLost g s
  | .lampOut g circuit => Sys2Proof.Machine.execLampOut g circuit s
  | .stuckOn g circuit => Sys2Proof.Machine.execStuckOn g circuit s
  | .clearLockoutCheckPasses => Sys2Proof.Machine.execClearLockoutCheckPasses s
  | .noOsc engine => Sys2Proof.Machine.execNoOsc engine s
  | .lowFreq engine => Sys2Proof.Machine.execLowFreq engine s
  | .measurementComplete engine count => Sys2Proof.Machine.execMeasurementComplete engine count s
  | .trackingMoment => Sys2Proof.Machine.execTrackingMoment s
  | .presenceLimitExpires channel => Sys2Proof.Machine.execPresenceLimitExpires channel s
  | .inputSample pins => Sys2Proof.Machine.execInputSample pins s
  | .debouncedStateChange input => Sys2Proof.Machine.execDebouncedStateChange input s
  | .gapValueSaturates g => Sys2Proof.Machine.execGapValueSaturates g s
  | .framingError => Sys2Proof.Machine.execFramingError s
  | .byteComplete => Sys2Proof.Machine.execByteComplete s
  | .gapTimerExpires => Sys2Proof.Machine.execGapTimerExpires s
  | .lineBreak => Sys2Proof.Machine.execLineBreak s
  | .brokenWaitComplete => Sys2Proof.Machine.execBrokenWaitComplete s
  | .holdTimerExpires entry => Sys2Proof.Machine.execHoldTimerExpires entry s
  | .lostTimerExpires entry => Sys2Proof.Machine.execLostTimerExpires entry s
  | .requestFrameDrop bytes close => Sys2Proof.Machine.execRequestFrameDrop bytes close s
  | .linkClockTimeout role frame => Sys2Proof.Machine.execLinkClockTimeout role frame s
  | .replyRead role acknowledged => Sys2Proof.Machine.execReplyRead role acknowledged s
  | .requestCodeUnknown role code => Sys2Proof.Machine.execRequestCodeUnknown role code s
  | .readJunction role params => Sys2Proof.Machine.execReadJunction role params s
  | .readGroups role params => Sys2Proof.Machine.execReadGroups role params s
  | .readTransitions role params => Sys2Proof.Machine.execReadTransitions role params s
  | .readLoops role params => Sys2Proof.Machine.execReadLoops role params s
  | .readTrams role params => Sys2Proof.Machine.execReadTrams role params s
  | .readCounts role params => Sys2Proof.Machine.execReadCounts role params s
  | .noticePoll role params => Sys2Proof.Machine.execNoticePoll role params s
  | .keepalive role params => Sys2Proof.Machine.execKeepalive role params s
  | .demand role params => Sys2Proof.Machine.execDemand role params s
  | .priorityInhibit role params => Sys2Proof.Machine.execPriorityInhibit role params s
  | .transition role params => Sys2Proof.Machine.execTransition role params s
  | .cancelTransition role params => Sys2Proof.Machine.execCancelTransition role params s
  | .mode role params => Sys2Proof.Machine.execMode role params s
  | .groupInhibit role params => Sys2Proof.Machine.execGroupInhibit role params s
  | .tramCheckIn role params => Sys2Proof.Machine.execTramCheckIn role params s
  | .tramCheckOut role params => Sys2Proof.Machine.execTramCheckOut role params s
  | .tramCancel role params => Sys2Proof.Machine.execTramCancel role params s
  | .writeConfig role params => Sys2Proof.Machine.execWriteConfig role params s
  | .commitConfig role params => Sys2Proof.Machine.execCommitConfig role params s
  | .storeWriteEnd held => Sys2Proof.Machine.execStoreWriteEnd held s
  | .discardStaging role params => Sys2Proof.Machine.execDiscardStaging role params s
  | .readConfig role params => Sys2Proof.Machine.execReadConfig role params s
  | .clearLockout role params => Sys2Proof.Machine.execClearLockout role params s
  | .clearLampFaults role params => Sys2Proof.Machine.execClearLampFaults role params s
  | .clearCounts role params => Sys2Proof.Machine.execClearCounts role params s
  | .restart role params => Sys2Proof.Machine.execRestart role params s
  | .beaconLineSample level => Sys2Proof.Machine.execBeaconLineSample level s

end Sys2Proof.Machine
end

