-- ==== Sys2Proof/Safety.lean ====
section
/-! DEFINITION. What claims about the part are stated in: states in which a command sets nothing further
off, states at rest with live transitions, what a reply does to the link, the laws of the device, and states in
which every due event has been taken. -/

namespace Sys2Proof.Machine

open Sys2Proof

/-! ### Quiet states -/

/-- A state in which the hand-offs of a command find nothing to do: none is left over, no transition is
live, no tram is in the list, and no commit waits for its apply. -/
structure Quiet (s : State) : Prop where
  work : s.work = []
  records : ∀ k r, slot s k = some r → isLive r = false
  trams : ∀ k, tram s k = none
  commit : s.commit ≠ .waitingApply

/-- A junction in NORMAL, or in CLEARING with another used group than g not yet red: no RED or RED_MIN entry
of g alone ends CLEARING (R65). -/
def Running (g : GroupId) (s : State) : Prop :=
  s.mode = .normal ∨
    (s.mode = .clearing ∧
      ∃ h, h ≠ g ∧ used s h = true ∧ (grp s h).state ≠ .red ∧ (grp s h).state ≠ .redMin)

/-- A state at rest, live transitions and trams included: no hand-off is left over, no record is QUEUED, no group
meets the conditions of R48, and no commit waits for its apply. -/
structure Steady (s : State) : Prop where
  work : s.work = []
  queued : ∀ k r, slot s k = some r → r.state ≠ .queued
  scheduling : ∀ j, maySchedule s j = false
  commit : s.commit ≠ .waitingApply

/-- The record of a slot is ACTIVE, no other record has its id, and it claims a group for an item of it that is
WAITING (R34, R36, R45). -/
structure Carries (k : SlotId) (r : TransRec) (g : GroupId) (kd : ItemKind) (s : State) : Prop where
  slot : Machine.slot s k = some r
  active : r.state = .active
  alone : ∀ j q, Machine.slot s j = some q → q.id = r.id → j = k
  claim : (grp s g).claim = some { id := r.id, kind := kd }
  item : itemOf r g = some { kind := kd, outcome := .waiting }

/-- An item of the record on another group than g is WAITING (R51). -/
def OthersWait (r : TransRec) (g : GroupId) : Prop :=
  ∃ h it, h ≠ g ∧ itemOf r h = some it ∧ it.outcome = .waiting

/-- A group in RED_WAIT under the release claim of an ACTIVE record, without S and T (R10, R48). -/
structure AwaitsSchedule (g : GroupId) (s : State) : Prop where
  state : (grp s g).state = .redWait
  schedule : (grp s g).schedule = none
  claim : ∃ k r, slot s k = some r ∧ r.state = .active ∧ (grp s g).claim = some { id := r.id, kind := .release }

/-- What keeps a group with a release claim of an ACTIVE record unscheduled (R48) is gone, but for group g: no
other group that conflicts with it is in proceed, none is marked RED_LOST, and it is not inhibited. -/
structure FreeBut (g j : GroupId) (s : State) : Prop where
  proceed : ∀ i, i ≠ g → conflicts s i j = true → inProceed s i = false
  lost : ∀ i, conflicts s i j = true → (grp s i).redLost = false
  inhibited : (grp s j).inhibited = false

/-! ### Replies -/

/-- What the link keeps for a role once a request of it has been taken and answered (R152, R154): the role
is seen, the reply stands in the slot, and a READY reply it replaces counts as unread and takes its REPLY
kind with it. -/
def repliedLink (reply : Reply) (l : LinkRec) : LinkRec :=
  match l.slot with
  | .ready _ true =>
    { slot := slotOf reply false
      notices := put l.notices (noticeIndex .reply) false
      seen := true
      counts := { l.counts with unread := satInc l.counts.unread } }
  | .ready _ false =>
    { l with slot := slotOf reply false, seen := true,
             counts := { l.counts with unread := satInc l.counts.unread } }
  | .empty => { l with slot := slotOf reply false, seen := true }
  | .pending => { l with slot := slotOf reply false, seen := true }

/-- The state `t` after a request whose owner left the state `u` and answered with a reply: the role's part of
the link has taken the reply, PLAN's supervision has restarted where R68 says so, and the rest is `u`. -/
structure Replied (role : Role) (reply : Reply) (u t : State) : Prop where
  own : link t role = repliedLink reply (link u role)
  others : ∀ r, r ≠ role → link t r = link u r
  supervision : t.supervision =
    if role = .plan ∧ isRefusal reply.code = false ∧ u.mode = .normal then some u.now else u.supervision
  rest : t = { u with links := t.links, supervision := t.supervision }

/-- The role's slot holds a reply that has not come from a PENDING request, and the role is seen. -/
structure Holds (role : Role) (reply : Reply) (t : State) : Prop where
  slot : (link t role).slot = .ready reply false
  seen : (link t role).seen = true

/-- A request of a role can be answered: its frame is no longer than a frame can be, the role's slot is
not PENDING, and no hand-off is left over (R152, R154). -/
structure Answerable (role : Role) (params : List Byte) (s : State) : Prop where
  length : params.length ≤ 40
  slot : (link s role).slot ≠ .pending
  work : s.work = []

/-! ### One record moved, the rest as it was -/

/-- One group record changed and its lamps took the commands of the table; every other group, every other
lamp and every other field stands as it did, but for the order the next hand-off takes (R9, R74, R75). -/
structure GroupMoved (g : GroupId) (f : GroupRec → GroupRec) (s t : State) : Prop where
  own : grp t g = f (grp s g)
  others : ∀ h, h ≠ g → grp t h = grp s h
  ownLamps : ∀ which,
    (circuit (lamp t g) which).cmd = lampCommand (kind s g) (f (grp s g)).state (showsPattern s) which
  otherLamps : ∀ h, h ≠ g → lamp t h = lamp s h
  order : t.order.items = s.order.items
  rest : t = { s with groups := t.groups, lamps := t.lamps, order := t.order }

/-- One group record changed and nothing else. -/
structure GroupChanged (g : GroupId) (f : GroupRec → GroupRec) (s t : State) : Prop where
  own : grp t g = f (grp s g)
  others : ∀ h, h ≠ g → grp t h = grp s h
  rest : t = { s with groups := t.groups }

/-- A notice set after a kind has been raised for some roles: it enters the set of each seen one (R159). -/
def noticedLink (n : Notice) (concerned : Bool) (l : LinkRec) : LinkRec :=
  if concerned && l.seen then { l with notices := put l.notices (noticeIndex n) true } else l

/-- A group record after the withdrawal of a transition's claim, in any state but RED_WAIT (R16, R51). -/
def withdrawn (id : TransId) (r : GroupRec) : GroupRec :=
  if r.claim.any (fun c => c.id == id) then
    { r with claim := none, pendingTerm := withdrawTerm id r.pendingTerm }
  else r

/-- A state entry of a group with which an item of an ACTIVE record is REACHED and the record still waits for
another (R9, R34; R47 for a terminate item). -/
structure ItemReached (k : SlotId) (r : TransRec) (g : GroupId) (f : GroupRec → GroupRec) (s t : State) :
    Prop where
  slot : Machine.slot t k = some (setOutcome g .reached r)
  slots : ∀ j, j ≠ k → Machine.slot t j = Machine.slot s j
  moved : GroupMoved g f { s with slots := t.slots } t

/-- A state entry of a group with which the last WAITING item of an ACTIVE record is REACHED: the record is DONE,
with end cause COMPLETED, its claims are withdrawn, and its origin has a TRANSITION notice (R34, R35, R51). -/
structure Completed (k : SlotId) (r : TransRec) (g : GroupId) (f : GroupRec → GroupRec) (s t : State) :
    Prop where
  slot : Machine.slot t k =
    some
      { setOutcome g .reached r with
        state := .done, finishedAt := some s.now, endCause := some .completed }
  slots : ∀ j, j ≠ k → Machine.slot t j = Machine.slot s j
  finishOrder : t.finishOrder = s.finishOrder.filter (· != k) ++ [k]
  acceptOrder : t.acceptOrder = s.acceptOrder.filter (· != k)
  own : grp t g = withdrawn r.id (f (grp s g))
  others : ∀ h, h ≠ g → grp t h = if named r h then withdrawn r.id (grp s h) else grp s h
  ownLamps : ∀ which,
    (circuit (lamp t g) which).cmd = lampCommand (kind s g) (f (grp s g)).state (showsPattern s) which
  otherLamps : ∀ h, h ≠ g → lamp t h = lamp s h
  origin : ∀ role, link t role = noticedLink .transition (decide (r.origin = .role role)) (link s role)
  items : t.order.items = s.order.items
  rest : t =
    { s with
      slots := t.slots, finishOrder := t.finishOrder, acceptOrder := t.acceptOrder, groups := t.groups,
      lamps := t.lamps, links := t.links, order := t.order }

/-- The roles a kind is entered for, of the kinds whose roles are fixed (R159). -/
def noticeRoles : Notice → Role → Bool
  | .fault, _ => true
  | .mode, _ => true
  | .tram, r => r == .plan || r == .tramnet
  | .detector, r => r == .plan || r == .service
  | .lamp, r => r == .central || r == .service
  | .reply, _ => false
  | .transition, _ => false

/-- A group record after its CLEAR entry (R14, R15), with the demand that a source still occupying the group
registers at it (R112). -/
def clearedRecord (s : State) (g : GroupId) (r : GroupRec) : GroupRec :=
  { r with
    state := .clear
    enteredAt := s.now
    greenEnd := some s.now
    pendingTerm := none
    holdUntil := none
    demand :=
      match r.demand with
      | some d => some d
      | none => (occupyingSource s g).map (newDemand s) }

/-- A group record after its GREEN_MIN entry at T (R12). -/
def greenRecord (s : State) (t : Time) (r : GroupRec) : GroupRec :=
  { r with
    state := .greenMin
    enteredAt := s.now
    greenStart := some t
    schedule := none
    demand := if r.demand.any (·.permanent) then r.demand else none }

/-- Every seen role's notice set holds a kind. -/
def SeenHave (n : Notice) (s t : State) : Prop := ∀ r, (link s r).seen = true → hasNotice t r n = true

/-- The links of the state are as they were but for a kind raised for some roles (R159). -/
def Noticed (n : Notice) (s t : State) : Prop := ∀ r, link t r = noticedLink n (noticeRoles n r) (link s r)

/-! ### Telegrams and trams -/

/-- The receiver holds a whole telegram: a beacon number of the table, its function and, unless it is OFF, its approach,
nine bytes of fields, and their right check byte as the twelfth (R121, R123, R124). -/
structure Telegram (bcn : BeaconId) (fn : BeaconFunction) (a : ApproachId) (fields : List Byte) (s : State) :
    Prop where
  work : s.work = []
  receiver : s.beacon.receiver = .assembling
  bytes : ∃ first, s.beacon.telegram = first :: BitVec.ofNat 8 bcn.val :: fields
  length : fields.length = 9
  last : ∃ n ones, s.beacon.assembler = .receiving n ones (crc8 s.beacon.telegram) (some true)
  function : beaconFn (look (cfg s).beacons bcn) = fn
  approach : fn ≠ .off → (look (cfg s).beacons bcn).approach.toNat = a.val + 1

/-- The receiver once it has accepted a telegram of a beacon (R121, R125, R126). -/
def acceptedBeacon (bcn : BeaconId) (s : State) : BeaconRec :=
  { s.beacon with
    receiver := .idle
    assembler := .waitingEdge
    telegram := []
    lastHeard := put s.beacon.lastHeard bcn (some s.now)
    counts := { s.beacon.counts with accepted := satInc s.beacon.counts.accepted } }

/-- No record of the list has a tram number and approach (R133). -/
def Unlisted (number : BitVec 16) (a : ApproachId) (s : State) : Prop :=
  ∀ k r, tram s k = some r → ¬ (r.number = number ∧ r.approach = a)

/-- An entry is the empty one with the lowest number (R130). -/
def LowestEmpty (k : EntryId) (s : State) : Prop := tram s k = none ∧ ∀ j, j < k → tram s j ≠ none

/-- One entry of the list has changed, and of the groups nothing but the hold-until of some (R133, R134, R142). -/
structure EntryChanged (k : EntryId) (r : Option TramRec) (gs : List GroupId) (s t : State) : Prop where
  own : tram t k = r
  others : ∀ j, j ≠ k → tram t j = tram s j
  groups : ∀ g, g ∉ gs → grp t g = grp s g
  holds : ∀ g ∈ gs, grp t g = { grp s g with holdUntil := (grp t g).holdUntil }

/-- A group on which no record is HOLDING has no hold-until (R138). -/
def HoldFollows (g : GroupId) (t : State) : Prop :=
  (∀ j q, tram t j = some q → q.group = g → q.state ≠ .holding) → (grp t g).holdUntil = none

/-! ### Measurements -/

/-- A measurement completed on the channel an engine measures (R91): its record takes it, the engine goes on
to its next channel that is not DISABLED, and no other channel or engine changes. -/
structure ChannelMeasured (e : EngineId) (k : Fin 4) (f : ChannelRec → ChannelRec) (s t : State) : Prop where
  own : channel t (engineChannel e k) = f (channel s (engineChannel e k))
  others : ∀ ch, ch ≠ engineChannel e k → channel t ch = channel s ch
  engine : look t.engines e = nextPlace s e k
  engines : ∀ e', e' ≠ e → look t.engines e' = look s.engines e'
  rest : t = { s with channels := t.channels, engines := t.engines, groups := t.groups, links := t.links,
                      tramDrops := t.tramDrops }

/-- A channel record after a bad measurement (R93, R100, R101). -/
def afterBad (result : BadResult) (r : ChannelRec) : ChannelRec :=
  if r.state = .fault then
    { r with goodRun := 0, badRun := min 3 (r.badRun + 1), faultKind := some result }
  else if 2 ≤ r.badRun then
    { r with state := .fault, goodRun := 0, badRun := 3, occupiedSince := none, faultKind := some result }
  else { r with goodRun := 0, badRun := r.badRun + 1 }

/-- The demand record of a group that a channel of it has entered FAULT for (R113). -/
def permanentDemand (s : State) (ch : ChannelId) (d : Option Demand) : Demand :=
  match d with
  | none => { source := .failedDetector ch, registeredAt := s.now, permanent := true }
  | some d => if d.permanent then d else { d with source := .failedDetector ch, permanent := true }

/-- A bad measurement and what its third in a row hands on: FAULT, a permanent demand and a gap value held at 0
on the group fed, and a DETECTOR notice (R100, R103, R113, R116). -/
structure MeasuredBad (e : EngineId) (k : Fin 4) (result : BadResult) (s t : State) : Prop where
  measured : ChannelMeasured e k (afterBad result) s t
  quiet : (channel t (engineChannel e k)).state = (channel s (engineChannel e k)).state →
    t.groups = s.groups ∧ t.links = s.links
  entry : (channel t (engineChannel e k)).state ≠ (channel s (engineChannel e k)).state →
    (∀ g, grp t g =
      if loopFeeds (loopCfg s (engineChannel e k)) = some g ∧ used s g = true then
        { grp s g with
          demand := some (permanentDemand s (engineChannel e k) (grp s g).demand), gap := .held }
      else grp s g) ∧
    Noticed .detector s t
  drops : t.tramDrops = s.tramDrops

/-- The shift of a good count against a baseline (R94). -/
def shiftAgainst (baseline count : Nat) : Int :=
  max (-9999) (min 9999 ((((baseline : Int) - count) * 10000).tdiv baseline))

/-! ### The earliest green -/

/-- A time is one of the terms of R28 for a release group. -/
def IsGreenTerm (s : State) (j : GroupId) (x : Time) : Prop :=
  x = plusDs s.now (prepareIn (cfg s) j) ∨
    (∃ r, (grp s j).redEntry = some r ∧ x = plusDs r (minRedIn (cfg s) j)) ∨
    ∃ i e, conflicts s i j = true ∧ (grp s i).greenEnd = some e ∧ x = plusDs e (igIn (cfg s) i j)

/-! ### The checks of a TRANSITION -/

/-- Check 5 of R37: each group that conflicts with the release list, and is in proceed or in the release set
of a live record, is in the terminate list or in the terminate set of a live record. -/
def Covered (s : State) (terminate release : List GroupId) : Prop :=
  ∀ i, (∃ j ∈ release, conflicts s i j = true) →
    (inProceed s i = true ∨ ∃ r ∈ liveRecs s, inSet .release r i = true) →
    i ∈ terminate ∨ ∃ r ∈ liveRecs s, inSet .terminate r i = true

/-- Check 6 of R37: fewer than six live records of class PLAN or CENTRAL, and a slot that is empty or holds a
finished record. -/
def RoomFor (s : State) : Prop :=
  (cardRecords s).length < 6 ∧ ∃ k, ∀ r, slot s k = some r → isLive r = false

/-- The finish order lists exactly the slots that hold a finished record (R35). -/
def FinishLaw (s : State) : Prop := ∀ k, k ∈ s.finishOrder ↔ ∃ r, slot s k = some r ∧ isLive r = false

/-! ### Lists of groups in a request -/

/-- A group list with an action that a request refuses with REFUSED_PARAM (R42, R114, R146): the action is
neither 0 nor 1, the list is empty, a number lies outside 1 to 24, a group is named twice, or a named group is
not of the kind asked for. -/
def ListRefused (fit : GroupId → Bool) (action : Byte) (bs : List Byte) : Prop :=
  (action ≠ 0#8 ∧ action ≠ 1#8) ∨ bs = [] ∨ (∃ b ∈ bs, b.toNat = 0 ∨ 24 < b.toNat) ∨ ¬ bs.Nodup ∨
    ∃ g, groupByte g ∈ bs ∧ fit g = false

/-! ### Requests -/

/-- The role and parameters of a request, for the commands that are requests with a code of R164. -/
def requestOf : Instr → Option (Role × List Byte)
  | .readJunction r p => some (r, p)
  | .readGroups r p => some (r, p)
  | .readTransitions r p => some (r, p)
  | .readLoops r p => some (r, p)
  | .readTrams r p => some (r, p)
  | .readCounts r p => some (r, p)
  | .noticePoll r p => some (r, p)
  | .keepalive r p => some (r, p)
  | .demand r p => some (r, p)
  | .priorityInhibit r p => some (r, p)
  | .transition r p => some (r, p)
  | .cancelTransition r p => some (r, p)
  | .mode r p => some (r, p)
  | .groupInhibit r p => some (r, p)
  | .tramCheckIn r p => some (r, p)
  | .tramCheckOut r p => some (r, p)
  | .tramCancel r p => some (r, p)
  | .writeConfig r p => some (r, p)
  | .commitConfig r p => some (r, p)
  | .discardStaging r p => some (r, p)
  | .readConfig r p => some (r, p)
  | .clearLockout r p => some (r, p)
  | .clearLampFaults r p => some (r, p)
  | .clearCounts r p => some (r, p)
  | .restart r p => some (r, p)
  | _ => none

/-- The table of rights (R157): the roles that may send a request. -/
def mayRequest (i : Instr) (r : Role) : Prop :=
  match i with
  | .keepalive _ _ => r = .plan
  | .demand _ _ => r = .plan
  | .priorityInhibit _ _ => r = .plan
  | .transition _ _ => r = .plan ∨ r = .central
  | .cancelTransition _ _ => r = .plan ∨ r = .central
  | .mode _ _ => r = .plan ∨ r = .central ∨ r = .service
  | .groupInhibit _ _ => r = .central
  | .tramCheckIn _ _ => r = .tramnet
  | .tramCheckOut _ _ => r = .tramnet
  | .tramCancel _ _ => r = .tramnet
  | .writeConfig _ _ => r = .service
  | .commitConfig _ _ => r = .service
  | .discardStaging _ _ => r = .service
  | .readConfig _ _ => r = .service
  | .clearLockout _ _ => r = .service
  | .clearLampFaults _ _ => r = .service
  | .clearCounts _ _ => r = .service
  | .restart _ _ => r = .service
  | _ => True

/-! ### After a reset -/

/-- A group record as either reset leaves it (R19), read at junction time 0. -/
structure FreshGroup (now : Time) (r : GroupRec) : Prop where
  state : r.state = .dark
  enteredAt : r.enteredAt = 0#32
  greenStart : r.greenStart = none
  greenEnd : r.greenEnd = none
  redEntry : r.redEntry = none
  schedule : r.schedule = none
  claim : r.claim = none
  pendingTerm : r.pendingTerm = none
  holdUntil : r.holdUntil = none
  demand : r.demand = none
  gap : gapValue now r.gap = 0
  inhibited : r.inhibited = false
  priorityInhibited : r.priorityInhibited = false
  redLost : r.redLost = false
  faults : r.faults = { bOut := false, cOut := false, aStuck := false, bStuck := false }

/-- The groups after either reset (R19): the table's values at junction time 0, the configuration of the image
that the reset loads from the store, and every group UNUSED when it loads none. -/
structure FreshGroups (t : State) : Prop where
  now : t.now = 0#32
  records : ∀ g, FreshGroup t.now (grp t g)
  active : t.active = (loadStore t.store).2
  unused : t.active = none → ∀ g, used t g = false

/-- What both resets leave outside the mode and the lockout cause: junction time 0, the flash generator in ON, fresh
groups under the lamp commands of the mode, channels SETTLING or DISABLED with every engine at its first channel, an
idle beacon receiver, an empty transition table and tram list, nothing in the link, the commit IDLE, and the load of
a store (R19, R57, R59, R73, R88, R106, R109, R129, R150, R163, R171). -/
structure FreshPart (st : Store) (t : State) : Prop where
  now : t.now = 0#32
  groups : ∀ g, FreshGroup t.now (grp t g)
  slots : ∀ k, slot t k = none
  accepted : t.acceptCounter = 0#8
  trams : ∀ k, tram t k = none
  stats : ∀ a, look t.tramStats a = zeroTramStats
  drops : t.tramDrops = zeroTramDrops
  links : ∀ r, link t r = resetLink
  inputs : ∀ i, inputRec t i = resetInput
  commit : t.commit = .idle
  store : t.store = st
  active : t.active = (loadStore st).2
  staging : t.staging = t.active.getD defaultImage
  entered : t.modeEnteredAt = 0#32
  phase : t.startPhase = none
  target : t.clearTarget = none
  supervision : t.supervision = none
  check : t.lockoutCheck = none
  flash : t.flash =
    { on := true, since := 0#32,
      duration := match t.active with | none => 5 | some img => figure img .flashOn }
  lamps : ∀ g which, circuit (lamp t g) which =
    { resetLamp with
      cmd := lampCommand (kind t g) .dark (showsPattern t) which
      sense := (circuit (lamp t g) which).sense }
  channels : ∀ ch, channel t ch =
    resetChannel (if loopFn (loopCfg t ch) = .disabled then .disabled else .settling)
  engines : ∀ e k, look t.engines e = some k ↔
    loopFn (loopCfg t (engineChannel e k)) ≠ .disabled ∧
      ∀ j, j < k → loopFn (loopCfg t (engineChannel e j)) = .disabled
  tracked : t.trackedAt = 0#32
  receiver : t.beacon.receiver = .idle ∧ t.beacon.assembler = .waitingHigh ∧ t.beacon.telegram = []
  heard : ∀ b, look t.beacon.lastHeard b = none
  line : t.beacon.lowFor = if t.beacon.level then none else some 0
  beaconCounts : t.beacon.counts = zeroBeaconCounts

/-! ### Laws of the device -/

/-- The junction mode is START, NORMAL or CLEARING only while a valid active configuration is present
(R61). -/
def ModeLaw (s : State) : Prop :=
  (s.mode = .start ∨ s.mode = .normal ∨ s.mode = .clearing) → s.active.isSome = true

/-- The tram approach list never holds two records with the same tram number and approach (R133). -/
def TramListLaw (s : State) : Prop :=
  ∀ j k x y, tram s j = some x → tram s k = some y → x.number = y.number → x.approach = y.approach → j = k

/-- At most six live records are of class PLAN or CENTRAL (R38). -/
def TableLaw (s : State) : Prop := (cardRecords s).length ≤ 6

/-- Only seen roles hold notices (R159). -/
def NoticeLaw (s : State) : Prop := ∀ r n, hasNotice s r n = true → (link s r).seen = true

/-- A count lies in the valid range of N periods: 16,000,000 × N ÷ 120,000, rounded up, to 16,000,000 × N ÷
20,000, rounded down (R93). -/
def ValidCount (n count : Nat) : Prop := (16000000 * n + 119999) / 120000 ≤ count ∧ count ≤ 16000000 * n / 20000

/-- The shift of every channel lies within -9,999 to +9,999, and the baseline and the last count of a channel in
FREE or OCCUPIED lie within the channel's valid count range (R98). -/
def DetectorLaw (s : State) : Prop :=
  ∀ ch,
    (∀ x, (channel s ch).lastShift = some x → -9999 ≤ x ∧ x ≤ 9999) ∧
    ((channel s ch).state = .free ∨ (channel s ch).state = .occupied →
      ∃ b c, (channel s ch).baseline = some b ∧ (channel s ch).lastCount = some c ∧
        ValidCount (loopCfg s ch).periods.toNat b ∧ ValidCount (loopCfg s ch).periods.toNat c)

/-- An UNUSED group is DARK (R3). -/
def UnusedLaw (s : State) : Prop := ∀ g, used s g = false → (grp s g).state = .dark

/-- Every lamp circuit stands under the command that the table gives for its group's kind and state and for
the junction mode (R74, R75). -/
def LampLaw (s : State) : Prop :=
  ∀ g which, (circuit (lamp s g) which).cmd = lampCommand (kind s g) (grp s g).state (showsPattern s) which

/-- The active image is a validated one, and so is the staging image that a commit waits to apply; while a
commit is under way or a CLEAR_LOCKOUT check runs, SERVICE's slot is PENDING, and never for both (R61, R71,
R168). -/
structure ConfigLaw (s : State) : Prop where
  valid : ∀ img, s.active = some img → validate img = none
  staged : s.commit = .waitingApply → validate s.staging = none
  pending : s.commit ≠ .idle → (link s .service).slot = .pending
  checking : s.lockoutCheck.isSome = true → (link s .service).slot = .pending
  single : s.lockoutCheck.isSome = true → s.commit = .idle

/-- The finish order and the table's card records, the tram list, the notice sets, and the loop channels keep
their laws (R35, R38, R98, R133, R159). -/
structure TableLaws (s : State) : Prop where
  finish : FinishLaw s
  cards : TableLaw s
  trams : TramListLaw s
  notices : NoticeLaw s
  channels : DetectorLaw s

/-- What keeps conflicting groups from proceeding together (R31, R44, R48), with what that rests on: S and T stand
in RED_WAIT and PREPARE only, a group at rest outside NORMAL and CLEARING, a claim names an ACTIVE record with that
item, ids and the acceptance order serve every live record, and no releases of ACTIVE records conflict. -/
structure ReleaseLaws (s : State) : Prop where
  apart : ∀ i j, conflicts s i j = true → ¬ (inProceed s i = true ∧ inProceed s j = true)
  waits : ∀ g, (grp s g).state = .redWait → (grp s g).schedule.isSome = true →
    (∃ c, (grp s g).claim = some c ∧ c.kind = .release) ∧ ∀ i, conflicts s i g = true → inProceed s i = false
  schedules : ∀ g, (grp s g).schedule.isSome = true → (grp s g).state = .redWait ∨ (grp s g).state = .prepare
  resting : s.mode ≠ .normal → s.mode ≠ .clearing → ∀ g, (grp s g).state = .dark ∨ (grp s g).state = .redMin
  claims : ∀ g c, (grp s g).claim = some c →
    ∃ k r, slot s k = some r ∧ r.state = .active ∧ r.id = c.id ∧ inSet c.kind r g = true
  ids : ∀ j k q r, slot s j = some q → slot s k = some r → q.id = r.id → j = k
  accepted : ∀ k r, slot s k = some r → isLive r = true → k ∈ s.acceptOrder
  releases : ∀ k r, slot s k = some r → isLive r = true → ∀ i j, inSet .release r i = true →
    inSet .release r j = true → conflicts s i j = false
  active : ∀ j k q r, slot s j = some q → slot s k = some r → q.state = .active → r.state = .active →
    ∀ g h, inSet .release q g = true → inSet .release r h = true → conflicts s g h = false

/-! ### Timeliness -/

/-- A timed event of some group is due. -/
def groupEventDue (s : State) : Bool :=
  allGroups.any fun g =>
    minimumRedDue s g || (reachedS s g).isSome || (reachedT s g).isSome || minimumGreenDue s g ||
      (holdUntilDue s g && terminateAllowed s.now (grp s g)) || clearTimeDue s g || gapFull s g ||
      dropDue s g .greenEnd || dropDue s g .redEntry || dropDue s g .holdUntil || dropDue s g .greenStart

/-- A timed event of the junction mode controller, the flash generator or the tracking clock is due. -/
def junctionEventDue (s : State) : Bool :=
  s.autostartDue || flashDue s || startFlashDue s || startRedDue s || supervisionDue s || trackingDue s ||
    checkPassed s

/-- A timed event of the channels or the tram priority engine is due. -/
def listEventDue (s : State) : Bool :=
  (allChannels.any (presenceDue s)) ||
    allEntries.any fun k => (holdExpired s k).isSome || (lostExpired s k).isSome

/-- No event counted in junction time is due: the states in which a sender that keeps the part's time sends
JUNCTION_TIME_ADVANCE (log 1). -/
def timely (s : State) : Bool := !groupEventDue s && !junctionEventDue s && !listEventDue s

end Sys2Proof.Machine
end

