-- ==== Sys2Proof/Certificates/Slice0/Obligations.lean ====
section
/-! DEFINITION. The statements for the provers. Each docstring names the rule it formalises, or says what
convention of the model (a log entry) it rests on. -/

open Sys2Proof Sys2Proof.Machine

/-! ### The step and the resets -/

/-- A step takes the command at the front of the queue and gives what `exec` gives with the queue's rest;
with no command waiting the part idles (the queue is the model's own, log 2). -/
def Obligations.StepTakesTheFrontCommand : Prop :=
  (∀ (c : Instr) (s : State), step { s with pending := c :: s.pending } = exec c s) ∧
    ∀ s : State, s.pending = [] → step s = .next s

/-- R19: after a power-on reset, and after a service restart, every group record holds the values of the
table; the configuration is that of the image the reset loads, and without one every group is UNUSED. -/
def Obligations.ResetsLeaveEveryGroupFresh : Prop :=
  (∀ (pins : ResetPins) (s : State),
      ∃ t, exec (.powerOnReset pins) s = .next t ∧ FreshGroups t) ∧
    ∀ s : State, (link s .service).slot ≠ .pending →
      ∃ t, exec (.restart .service []) s = .next t ∧ FreshGroups t

/-- The power-on reset leaves every block at its power-on values (`FreshPart`): fresh groups and lamps, channels,
engines, inputs, beacon receiver at the level of BCN, flash generator, empty tables and links; the mode of the strap,
no lockout cause, the straps latched, the load of the store (spoiled when a store write was under way, log 24) and
the reset-cause record (R19, R57, R59, R73, R88, R106, R109, R129, R150, R163, R170 to R172, R174). -/
def Obligations.PowerOnResetValues : Prop :=
  ∀ (pins : ResetPins) (s : State),
    ∃ t, exec (.powerOnReset pins) s = .next t ∧
      FreshPart (if s.commit = .storing then .spoiled else s.store) t ∧
      t.mode = (if pins.smode then Mode.flash else Mode.dark) ∧ t.lockoutCause = none ∧
      t.beacon.level = pins.bcn ∧
      t.straps = { addr := pins.addr, smode := pins.smode, astart := pins.astart } ∧
      t.autostartDue = pins.astart ∧
      t.resetCause =
        { serviceRestart := false, lockoutCarried := false, load := (loadStore t.store).1,
          straps := t.straps }

/-- An accepted RESTART brings the service restart: every block is fresh (`FreshPart`), the straps, the store and
the lockout cause are kept, a LOCKOUT is carried over, and no reply is written; of another length it is refused with
REFUSED_PARAM (R59, R70, R73, R88, R106, R129, R163, R173, R174). -/
def Obligations.RestartKeepsStrapsAndLockout : Prop :=
  (∀ s : State, (link s .service).slot ≠ .pending →
      ∃ t, exec (.restart .service []) s = .next t ∧ FreshPart s.store t ∧
        t.mode = (if s.mode = .lockout then Mode.lockout else if s.straps.smode then Mode.flash else Mode.dark) ∧
        t.lockoutCause = s.lockoutCause ∧ t.straps = s.straps ∧ t.autostartDue = s.straps.astart ∧
        t.resetCause =
          { serviceRestart := true, lockoutCarried := s.mode == .lockout, load := (loadStore s.store).1,
            straps := s.straps }) ∧
    ∀ (b : Byte) (bs : List Byte) (s : State), Answerable .service (b :: bs) s →
      ∃ t, exec (.restart .service (b :: bs)) s = .next t ∧ Replied .service (plain .refusedParam) s t

/-! ### The time base and the signal groups -/

/-- JUNCTION_TIME_ADVANCE adds 1 to junction time modulo 2^32 and holds every kept time that would grow
older than 65,535 ds; nothing else changes (R1, R8, R90, R125; the lamp times by log 23). -/
def Obligations.JunctionTimeAdvances : Prop :=
  (∀ s : State,
      ∃ t, exec .junctionTimeAdvance s = .next t ∧ t.now = s.now + 1#32 ∧
        (∀ g, grp t g =
          { grp s g with
            enteredAt := heldTime t.now (grp s g).enteredAt
            greenStart :=
              if (grp s g).state = .greenMin ∨ (grp s g).state = .green then
                (grp s g).greenStart.map (heldTime t.now)
              else (grp s g).greenStart
            demand :=
              (grp s g).demand.map fun d => { d with registeredAt := heldTime t.now d.registeredAt } }) ∧
        (∀ ch, channel t ch =
          { channel s ch with occupiedSince := (channel s ch).occupiedSince.map (heldTime t.now) }) ∧
        (∀ b, look t.beacon.lastHeard b = (look s.beacon.lastHeard b).map (heldTime t.now)) ∧
        (∀ g which, circuit (lamp t g) which =
          { circuit (lamp s g) which with
            changedAt := heldTime t.now (circuit (lamp s g) which).changedAt }) ∧
        t.beacon = { s.beacon with lastHeard := t.beacon.lastHeard } ∧
        t = { s with now := t.now, groups := t.groups, lamps := t.lamps, channels := t.channels,
                     beacon := t.beacon }) ∧
    ∀ now u : Time,
      (age now u ≤ 65535 → heldTime now u = u) ∧ (65535 < age now u → age now (heldTime now u) = 65535)

/-- FLASH_PHASE_CHANGE: when the phase has run its duration the generator enters the other phase and reads
its duration there; every circuit commanded FLASH takes a command change at now (R59, R75). That a phase ended late
starts the next one from now is the model's choice (log 12). -/
def Obligations.FlashPhaseChanges : Prop :=
  ∀ s : State, expired s.now s.flash.since s.flash.duration = true →
    ∃ t, exec .flashPhaseChange s = .next t ∧
      t.flash =
        { on := !s.flash.on, since := s.now,
          duration := if s.flash.on then figure (cfg s) .flashOff else figure (cfg s) .flashOn } ∧
      (∀ g which, circuit (lamp t g) which =
        if (circuit (lamp s g) which).cmd = .flash then { circuit (lamp s g) which with changedAt := s.now }
        else circuit (lamp s g) which) ∧
      t = { s with flash := t.flash, lamps := t.lamps }

/-- STAMP_DROP: a green-end or red-entry stamp, a hold-until, and a green start outside GREEN_MIN and GREEN,
becomes absent at 65,535 ds of age, and nothing else changes (R8); a hold-until with no pending terminate
waiting on it. GAP_VALUE_SATURATES: a gap clock that has run 999 ds is held at 999 (R116). Sent before that, it
changes nothing (the model's choice, log 1). -/
def Obligations.OldStampsAndGapsAreDropped : Prop :=
  (∀ (g : GroupId) (s : State) (u : Time), s.work = [] → expired s.now u 65535 = true →
      ((grp s g).greenEnd = some u →
        ∃ t, exec (.stampDrop g .greenEnd) s = .next t ∧
          GroupChanged g (fun r => { r with greenEnd := none }) s t) ∧
      ((grp s g).redEntry = some u →
        ∃ t, exec (.stampDrop g .redEntry) s = .next t ∧
          GroupChanged g (fun r => { r with redEntry := none }) s t) ∧
      ((grp s g).holdUntil = some u → (grp s g).pendingTerm = none →
        ∃ t, exec (.stampDrop g .holdUntil) s = .next t ∧
          GroupChanged g (fun r => { r with holdUntil := none }) s t) ∧
      ((grp s g).greenStart = some u → (grp s g).state ≠ .greenMin → (grp s g).state ≠ .green →
        ∃ t, exec (.stampDrop g .greenStart) s = .next t ∧
          GroupChanged g (fun r => { r with greenStart := none }) s t)) ∧
    ∀ (g : GroupId) (s : State),
      ((grp s g).state = .greenMin ∨ (grp s g).state = .green →
        exec (.stampDrop g .greenStart) s = .next s) ∧
      ∀ since, (grp s g).gap = .running since →
        (expired s.now since 999 = true →
          ∃ t, exec (.gapValueSaturates g) s = .next t ∧
            GroupChanged g (fun r => { r with gap := .full }) s t ∧ gapValue t.now (grp t g).gap = 999) ∧
        (expired s.now since 999 = false → exec (.gapValueSaturates g) s = .next s)

/-- MINIMUM_RED_EXPIRES takes RED_MIN to RED_WAIT under a release claim and to RED without one (R10, R15). Under the
claim of an ACTIVE record the group is scheduled there for its earliest green, unless a conflicting group proceeds or
has lost its red or the group is inhibited (R28, R48). In START, whose red phase does not run the timer, nothing
happens (R17). -/
def Obligations.MinimumRedEndsInRedOrRedWait : Prop :=
  ∀ (g : GroupId) (s : State), used s g = true → (grp s g).state = .redMin →
    (Quiet s → Running g s → expired s.now (grp s g).enteredAt (minRedIn (cfg s) g) = true →
      ∃ t, exec (.minimumRedExpires g) s = .next t ∧
        GroupMoved g
          (fun r => { r with state := if claimedForRelease s g then .redWait else .red, enteredAt := s.now })
          s t) ∧
    (Steady s → s.mode = .normal → expired s.now (grp s g).enteredAt (minRedIn (cfg s) g) = true →
      (grp s g).schedule = none → ∀ k r, Carries k r g .release s →
      let waiting := fun (r : GroupRec) => { r with state := .redWait, enteredAt := s.now }
      (FreeBut g g s →
        ∃ t, exec (.minimumRedExpires g) s = .next t ∧
          GroupMoved g (fun r => { waiting r with schedule := some (earliestGreen s g) }) s t) ∧
      (¬ FreeBut g g s → ∃ t, exec (.minimumRedExpires g) s = .next t ∧ GroupMoved g waiting s t)) ∧
    (s.mode = .start → exec (.minimumRedExpires g) s = .next s)

/-- NOW_REACHES_S: a scheduled group in RED_WAIT enters PREPARE when its prepare time is above 0, S and T kept
(log 9). When it is 0 the group enters GREEN_MIN at T and the item of the ACTIVE record that claims it is REACHED,
which completes the record when no other item waits (R9, R11, R12, R34, R51); for a junction with no tram in its
list. -/
def Obligations.ScheduledGroupBeginsAtS : Prop :=
  ∀ (g : GroupId) (s : State) (sch : Schedule), Steady s → used s g = true → (grp s g).state = .redWait →
    (grp s g).schedule = some sch → atOrAfter s.now sch.s = true →
    (prepareIn (cfg s) g ≠ 0 →
      ∃ t, exec (.nowReachesS g) s = .next t ∧
        GroupMoved g (fun r => { r with state := .prepare, enteredAt := s.now }) s t) ∧
    ∀ k r, prepareIn (cfg s) g = 0 → Carries k r g .release s → (∀ e, tram s e = none) →
      (OthersWait r g →
        ∃ t, exec (.nowReachesS g) s = .next t ∧ ItemReached k r g (greenRecord s sch.t) s t) ∧
      (¬ OthersWait r g → (∀ h, h ≠ g → named r h = true → (grp s h).state ≠ .redWait) →
        ∃ t, exec (.nowReachesS g) s = .next t ∧ Completed k r g (greenRecord s sch.t) s t)

/-- NOW_REACHES_T: a group in PREPARE enters GREEN_MIN; green start is T, S and T are dropped, and a demand that is
not permanent is cleared (R12). The item of the ACTIVE record that claims it is REACHED, which completes the record
when no other item waits: DONE, claims withdrawn, a TRANSITION notice for its origin (R9, R12, R34, R51); for a
junction with no tram in its list. A group whose record has gone meanwhile turns green all the same (R16). -/
def Obligations.PreparedGroupTurnsGreenAtT : Prop :=
  ∀ (g : GroupId) (s : State) (sch : Schedule), used s g = true → (grp s g).state = .prepare →
    (grp s g).schedule = some sch → atOrAfter s.now sch.t = true →
    (Quiet s → ∃ t, exec (.nowReachesT g) s = .next t ∧ GroupMoved g (greenRecord s sch.t) s t) ∧
    ∀ k r, Steady s → Carries k r g .release s → (∀ e, tram s e = none) →
      (OthersWait r g →
        ∃ t, exec (.nowReachesT g) s = .next t ∧ ItemReached k r g (greenRecord s sch.t) s t) ∧
      (¬ OthersWait r g → (∀ h, h ≠ g → named r h = true → (grp s h).state ≠ .redWait) →
        ∃ t, exec (.nowReachesT g) s = .next t ∧ Completed k r g (greenRecord s sch.t) s t)

/-- MINIMUM_GREEN_EXPIRES: GREEN_MIN is followed by CLEAR when a terminate is in effect by the conditions of
R14, otherwise by GREEN (R13); before the minimum has run nothing happens. -/
def Obligations.MinimumGreenEndsInGreenOrClear : Prop :=
  ∀ (g : GroupId) (s : State) (u : Time), used s g = true → (grp s g).state = .greenMin →
    (grp s g).greenStart = some u →
    (Quiet s → expired s.now u (minGreenIn (cfg s) g) = true →
      (terminateAllowed s.now (grp s g) = false →
        ∃ t, exec (.minimumGreenExpires g) s = .next t ∧
          GroupMoved g (fun r => { r with state := .green, enteredAt := s.now }) s t) ∧
      (terminateAllowed s.now (grp s g) = true →
        ∃ t, exec (.minimumGreenExpires g) s = .next t ∧ GroupMoved g (clearedRecord s g) s t)) ∧
    (expired s.now u (minGreenIn (cfg s) g) = false → exec (.minimumGreenExpires g) s = .next s)

/-- NOW_REACHES_HOLD_UNTIL: the terminate that the hold deferred takes effect, and the group is in CLEAR with E at
now, whatever else stands (R14). For a tram held on the group that has spent its calls, and the ACTIVE record whose
terminate waits: its item is REACHED, the tram is OBSERVED without a hold end, and the groups that only this green
kept waiting are scheduled (R47, R48, R135, R140). With no terminate pending nothing happens. -/
def Obligations.ReachedHoldLetsTheTerminateThrough : Prop :=
  ∀ (g : GroupId) (s : State) (h : Time), used s g = true → (grp s g).state = .green →
    (grp s g).holdUntil = some h → atOrAfter s.now h = true →
    ((grp s g).pendingTerm.isSome = true → s.work = [] → s.mode = .normal → s.commit ≠ .waitingApply →
      ∃ t, exec (.nowReachesHoldUntil g) s = .next t ∧ (grp t g).state = .clear ∧
        (grp t g).enteredAt = s.now ∧ (grp t g).greenEnd = some s.now ∧ (grp t g).pendingTerm = none ∧
        (grp t g).holdUntil = none) ∧
    (∀ k r e m, Steady s → s.mode = .normal → kind s g = .tram → Carries k r g .terminate s →
      OthersWait r g →
      (grp s g).pendingTerm = some (.transition r.cls r.id) → tram s e = some m → m.group = g →
      (m.state = .holding ∨ m.state = .overdue) → m.transition = none → 2 ≤ m.calls →
      (∀ e' q, e' ≠ e → tram s e' = some q → q.group ≠ g) →
      ∃ t, exec (.nowReachesHoldUntil g) s = .next t ∧ grp t g = clearedRecord s g (grp s g) ∧
        (∀ j, j ≠ g →
          (AwaitsSchedule j s ∧ FreeBut g j s →
            grp t j = { grp s j with schedule := some (earliestGreen t j) }) ∧
          (¬ (AwaitsSchedule j s ∧ FreeBut g j s) → grp t j = grp s j)) ∧
        slot t k = some (setOutcome g .reached r) ∧ (∀ j, j ≠ k → slot t j = slot s j) ∧
        tram t e = some { m with state := .observed, holdEnd := none, awaitsSlot := false } ∧
        (∀ e', e' ≠ e → tram t e' = tram s e') ∧
        (∀ which, (circuit (lamp t g) which).cmd = lampCommand (kind s g) .clear (showsPattern s) which) ∧
        (∀ j, j ≠ g → lamp t j = lamp s j) ∧ t.order.items = s.order.items ∧
        t = { s with groups := t.groups, lamps := t.lamps, slots := t.slots, trams := t.trams,
                     order := t.order }) ∧
    ((grp s g).pendingTerm = none → s.work = [] → exec (.nowReachesHoldUntil g) s = .next s)

/-- CLEAR_TIME_EXPIRES: CLEAR is followed by RED_MIN, with R set to now (R15). -/
def Obligations.ClearTimeEndsInRedMin : Prop :=
  ∀ (g : GroupId) (s : State), Quiet s → Running g s → used s g = true → (grp s g).state = .clear →
    expired s.now (grp s g).enteredAt (clearTimeIn (cfg s) g) = true →
    ∃ t, exec (.clearTimeExpires g) s = .next t ∧
      GroupMoved g (fun r => { r with state := .redMin, enteredAt := s.now, redEntry := some s.now }) s t

/-- The last CLEAR of a CLEARING ends it: the junction enters the target mode at that instant, every used
group is forced to DARK with its stamps kept, and a MODE notice goes to every seen role (R17, R65, R72). -/
def Obligations.LastRedEntryEndsClearing : Prop :=
  ∀ (g : GroupId) (s : State) (target : ClearTarget), Quiet s → s.mode = .clearing →
    s.clearTarget = some target → used s g = true → (grp s g).state = .clear →
    expired s.now (grp s g).enteredAt (clearTimeIn (cfg s) g) = true →
    (∀ h, h ≠ g → used s h = true → (grp s h).state = .red ∨ (grp s h).state = .redMin) →
    ∃ t, exec (.clearTimeExpires g) s = .next t ∧
      t.mode = (match target with | .dark => Mode.dark | .flash => Mode.flash) ∧
      t.modeEnteredAt = s.now ∧ t.clearTarget = none ∧
      (∀ h, used s h = true → (grp t h).state = .dark ∧ (grp t h).claim = none ∧
        (grp t h).pendingTerm = none ∧ (grp t h).schedule = none ∧ (grp t h).holdUntil = none ∧
        (grp t h).greenEnd = (grp s h).greenEnd ∧ (grp t h).greenStart = (grp s h).greenStart ∧
        (grp t h).demand = (grp s h).demand) ∧
      (∀ h, h ≠ g → (grp t h).redEntry = (grp s h).redEntry) ∧ (grp t g).redEntry = some s.now ∧
      SeenHave .mode s t ∧ t.active = s.active ∧ t.slots = s.slots

/-! ### The junction mode controller -/

/-- AUTOSTART: with the strap set, a valid image and the mode DARK or FLASH, the junction enters START in its
flash phase; otherwise the autostart has no effect but to be over (R61, R73). -/
def Obligations.AutostartEntersStart : Prop :=
  ∀ s : State, s.autostartDue = true →
    (s.work = [] → s.commit ≠ .waitingApply → s.active.isSome = true → (s.mode = .dark ∨ s.mode = .flash) →
      ∃ t, exec .autostart s = .next t ∧ t.mode = .start ∧ t.modeEnteredAt = s.now ∧
        t.startPhase = some (.flashPhase, s.now) ∧ Noticed .mode s t ∧ LampLaw t ∧
        t = { s with autostartDue := false, mode := t.mode, modeEnteredAt := t.modeEnteredAt,
                     startPhase := t.startPhase, links := t.links, lamps := t.lamps }) ∧
    (s.active = none ∨ (s.mode ≠ .dark ∧ s.mode ≠ .flash) →
      exec .autostart s = .next { s with autostartDue := false })

/-- START_FLASH_EXPIRES: the red phase begins, and every used group is forced to RED_MIN with R and E absent
(R17, R61). -/
def Obligations.StartFlashEndsInRedPhase : Prop :=
  ∀ (s : State) (u : Time), s.work = [] → s.commit ≠ .waitingApply → s.mode = .start →
    s.startPhase = some (.flashPhase, u) → expired s.now u (figure (cfg s) .startFlash) = true →
    ∃ t, exec .startFlashExpires s = .next t ∧ t.startPhase = some (.redPhase, s.now) ∧
      (∀ g, used s g = true →
        grp t g =
          { grp s g with
            state := .redMin
            enteredAt := if (grp s g).state = .redMin then (grp s g).enteredAt else s.now
            redEntry := none
            greenEnd := none }) ∧
      (∀ g, used s g = false → grp t g = grp s g) ∧ LampLaw t ∧ t.order.items = s.order.items ∧
      t = { s with startPhase := t.startPhase, groups := t.groups, lamps := t.lamps, order := t.order }

/-- START_RED_EXPIRES: NORMAL is entered; every used group goes to RED with its stamps absent, supervision
starts, and a MODE notice goes to every seen role (R17, R62, R72), when fewer than two reds are lost. -/
def Obligations.StartRedEndsInNormal : Prop :=
  ∀ (s : State) (u : Time), Quiet s → s.mode = .start → s.startPhase = some (.redPhase, u) →
    expired s.now u (figure (cfg s) .startRed) = true → lostCount s < 2 →
    ∃ t, exec .startRedExpires s = .next t ∧ t.mode = .normal ∧ t.modeEnteredAt = s.now ∧
      t.startPhase = none ∧ t.supervision = some s.now ∧
      (∀ g, used s g = true →
        grp t g =
          { grp s g with
            state := .red
            enteredAt := if (grp s g).state = .red then (grp s g).enteredAt else s.now
            greenStart := none
            greenEnd := none
            redEntry := none }) ∧
      (∀ g, used s g = false → grp t g = grp s g) ∧ Noticed .mode s t ∧
      t = { s with mode := t.mode, modeEnteredAt := t.modeEnteredAt, startPhase := t.startPhase,
                   supervision := t.supervision, groups := t.groups, lamps := t.lamps, links := t.links,
                   order := t.order }

/-- SUPERVISION_EXPIRES in a junction all at red: CLEARING is entered and ended at once, and the junction is
in FLASH with every used group DARK (R64, R65, R67). -/
def Obligations.SilentPlanFallsToFlash : Prop :=
  ∀ (s : State) (u : Time), Quiet s → s.mode = .normal → s.supervision = some u →
    expired s.now u (figure (cfg s) .supervision) = true →
    (∀ g, used s g = true → (grp s g).state = .red ∨ (grp s g).state = .redMin) →
    ∃ t, exec .supervisionExpires s = .next t ∧ t.mode = .flash ∧ t.modeEnteredAt = s.now ∧
      t.supervision = none ∧ t.clearTarget = none ∧
      (∀ g, used s g = true → (grp t g).state = .dark) ∧ SeenHave .mode s t ∧ t.active = s.active ∧
      t.slots = s.slots

/-- UNWANTED_PROCEED: a confirmed one brings LOCKOUT from every other mode, whatever else stands: the cause is
written, every used group is DARK, and every seen role has a FAULT and a MODE notice (R69, R72, R80). In
LOCKOUT the mode and the cause stand. -/
def Obligations.UnwantedProceedBringsLockout : Prop :=
  ∀ (g : GroupId) (s : State), offConfirmed s g .c = true →
    (s.mode ≠ .lockout →
      ∃ t, exec (.unwantedProceed g) s = .next t ∧ t.mode = .lockout ∧
        t.lockoutCause = some { group := g, circuit := .c, time := s.now } ∧
        (∀ h, used t h = true → (grp t h).state = .dark) ∧ SeenHave .fault s t ∧ SeenHave .mode s t) ∧
    (s.mode = .lockout → s.work = [] →
      ∃ t, exec (.unwantedProceed g) s = .next t ∧ t = { s with lamps := t.lamps })

/-- CLEAR_LOCKOUT_CHECK_PASSES: after the tenth sample the junction enters FLASH, SERVICE's slot becomes READY
with DONE and its REPLY kind is raised; the lockout cause stays (R71, R72, R154). -/
def Obligations.PassedCheckEntersFlash : Prop :=
  ∀ (s : State) (c : LockoutCheck), s.work = [] → s.commit ≠ .waitingApply → s.mode = .lockout →
    s.lockoutCheck = some c → 10 ≤ c.samples →
    ∃ t, exec .clearLockoutCheckPasses s = .next t ∧ t.mode = .flash ∧ t.modeEnteredAt = s.now ∧
      t.lockoutCheck = none ∧ t.lockoutCause = s.lockoutCause ∧
      (link t .service).slot = .ready (plain .done) true ∧
      ((link s .service).seen = true → hasNotice t .service .reply = true) ∧ SeenHave .mode s t

/-! ### Lamp drive and proving -/

/-- LAMP_SENSE_SAMPLE outside a CLEAR_LOCKOUT check: every sense is kept; a settling circuit is not compared;
a compared sample of a proved circuit sets the mismatch time of its command to 0 or grows it by 1 up to the
confirm time (R76, R77, R78, R79). -/
def Obligations.SampleUpdatesMismatchTimes : Prop :=
  ∀ (sense : BitVec 72) (s : State), s.lockoutCheck = none →
    ∃ t, exec (.lampSenseSample sense) s = .next t ∧ t = { s with lamps := t.lamps } ∧
      ∀ g which,
        let l := circuit (lamp s g) which
        let l' := circuit (lamp t g) which
        let lit := senseBit sense g which
        let compared := !settling s.now l
        let on := instantOn s.flash.on l.cmd
        l'.sense = lit ∧ l'.cmd = l.cmd ∧ l'.changedAt = l.changedAt ∧
          l'.onMismatch =
            (if compared && on && provesOn (kind s g) which then
              if lit then { time := 0, handed := false }
              else if l.onMismatch.time < 10 then { l.onMismatch with time := l.onMismatch.time + 1 }
              else l.onMismatch
            else l.onMismatch) ∧
          l'.offMismatch =
            (if compared && !on && provesOff (kind s g) which then
              if !lit then { time := 0, handed := false }
              else if l.offMismatch.time < (if which = .c then 2 else 10) then
                { l.offMismatch with time := l.offMismatch.time + 1 }
              else l.offMismatch
            else l.offMismatch)

/-- A sample of a CLEAR_LOCKOUT check: a proceed circuit sensed on ends it with REFUSED_STATE and the mode
stays; otherwise the check has taken one sample more (R71, R84). -/
def Obligations.LockoutCheckWatchesTenSamples : Prop :=
  ∀ (sense : BitVec 72) (s : State) (c : LockoutCheck), s.lockoutCheck = some c → c.samples < 10 →
    ∃ t, exec (.lampSenseSample sense) s = .next t ∧ t.mode = s.mode ∧
      ((∃ g, senseBit sense g .c = true) →
        t.lockoutCheck = none ∧ (link t .service).slot = .ready (plain .refusedState) true ∧
          ((link s .service).seen = true → hasNotice t .service .reply = true)) ∧
      ((∀ g, senseBit sense g .c = false) →
        t.lockoutCheck = some { c with samples := c.samples + 1 } ∧ t.links = s.links)

/-- RED_LOST: a confirmed red lost marks the group and raises LAMP and FAULT; a marked group is left alone;
the second lost red of a NORMAL junction all at red brings it to FLASH (R66, R81, R83). -/
def Obligations.LostRedIsMarked : Prop :=
  ∀ (g : GroupId) (s : State), Quiet s → onConfirmed s g .a = true →
    ((grp s g).redLost = false → (s.mode ≠ .normal ∨ ∀ h, (grp s h).redLost = false) →
      ∃ t, exec (.redLost g) s = .next t ∧ grp t g = { grp s g with redLost := true } ∧
        (∀ h, h ≠ g → grp t h = grp s h) ∧
        (∀ r, link t r = noticedLink .fault true (noticedLink .lamp (noticeRoles .lamp r) (link s r))) ∧
        t = { s with groups := t.groups, lamps := t.lamps, links := t.links, order := t.order }) ∧
    ((grp s g).redLost = true →
      ∃ t, exec (.redLost g) s = .next t ∧ t = { s with lamps := t.lamps }) ∧
    (∀ h, (grp s g).redLost = false → s.mode = .normal → used s g = true → h ≠ g → used s h = true →
      (grp s h).redLost = true →
      (∀ i, used s i = true → (grp s i).state = .red ∨ (grp s i).state = .redMin) →
      ∃ t, exec (.redLost g) s = .next t ∧ t.mode = .flash ∧ (grp t g).redLost = true ∧
        ∀ i, used s i = true → (grp t i).state = .dark)

/-- LAMP_OUT on circuit B or C and STUCK_ON on circuit A or B: a confirmed one adds its pair to the group's
fault set and raises a LAMP notice; a pair already in the set is left alone (R82, R83). -/
def Obligations.LampFaultsAreLatched : Prop :=
  ∀ (g : GroupId) (which : Circuit) (s : State),
    (which ≠ .a → onConfirmed s g which = true →
      ∃ t, exec (.lampOut g which) s = .next t ∧
        grp t g =
          { grp s g with
            faults :=
              { (grp s g).faults with
                bOut := (grp s g).faults.bOut || which == .b
                cOut := (grp s g).faults.cOut || which == .c } } ∧
        (∀ h, h ≠ g → grp t h = grp s h) ∧
        (∀ r, link t r =
          noticedLink .lamp (noticeRoles .lamp r && !hasLampOut (grp s g).faults which) (link s r)) ∧
        t = { s with groups := t.groups, lamps := t.lamps, links := t.links }) ∧
    (which ≠ .c → offConfirmed s g which = true →
      ∃ t, exec (.stuckOn g which) s = .next t ∧
        grp t g =
          { grp s g with
            faults :=
              { (grp s g).faults with
                aStuck := (grp s g).faults.aStuck || which == .a
                bStuck := (grp s g).faults.bStuck || which == .b } } ∧
        (∀ h, h ≠ g → grp t h = grp s h) ∧
        (∀ r, link t r =
          noticedLink .lamp (noticeRoles .lamp r && !hasStuckOn (grp s g).faults which) (link s r)) ∧
        t = { s with groups := t.groups, lamps := t.lamps, links := t.links })

/-! ### Detectors and inputs -/

/-- A bad measurement (NO_OSC, LOW_FREQ, or a count below C_min) sets the good-run count to 0 and grows the
bad-run count; the third in a row brings FAULT, a DETECTOR notice, and a permanent demand and a held gap value
on the group the channel feeds (R93, R100, R101, R103, R113, R116). The channel is the one the engine measures
(log 21), and the engine goes on to its next channel (R91). -/
def Obligations.BadMeasurementsBringFault : Prop :=
  ∀ (e : EngineId) (k : Fin 4) (s : State), s.work = [] → look s.engines e = some k →
    (channel s (engineChannel e k)).state ≠ .disabled →
    (∃ t, exec (.noOsc e) s = .next t ∧ MeasuredBad e k .noOsc s t) ∧
    (∃ t, exec (.lowFreq e) s = .next t ∧ MeasuredBad e k .lowFreq s t) ∧
    ∀ count, count < (16000000 * periodsOf (loopCfg s (engineChannel e k)) + 119999) / 120000 →
      ∃ t, exec (.measurementComplete e count) s = .next t ∧ MeasuredBad e k .highFreq s t

/-- MEASUREMENT_COMPLETE with a count in the valid range: SETTLING takes it as its baseline; FREE and OCCUPIED
judge its shift against the on-threshold and the off-threshold; FAULT recovers at the eighth good one in a row
(R93 to R96, R101). The engine goes on to its next channel (R91). The channel is the one the engine measures (the
model's choice, log 21), and a MEASUREMENT_COMPLETE for an idle engine changes nothing (the model's choice, log 1).
The judging is stated for an empty tram list, so a check-out by a TRAM channel is left out here. -/
def Obligations.GoodMeasurementIsJudged : Prop :=
  ∀ (e : EngineId) (count : Nat) (s : State), s.work = [] →
    (look s.engines e = none → exec (.measurementComplete e count) s = .next s) ∧
    ∀ k, look s.engines e = some k → (∀ j, tram s j = none) →
      let c := loopCfg s (engineChannel e k)
      let r := channel s (engineChannel e k)
      let good := fun (r : ChannelRec) => { r with lastCount := some count, goodRun := min 8 (r.goodRun + 1) }
      let judged := fun b => { good r with badRun := 0, lastShift := some (shiftAgainst b count) }
      let tOn : Int := c.onThreshold.toNat
      let tOff : Int := tOn - max 1 ((c.onThreshold.toNat / 4 : Nat) : Int)
      let becomes := fun (r' : ChannelRec) =>
        ∃ t, exec (.measurementComplete e count) s = .next t ∧ ChannelMeasured e k (fun _ => r') s t
      (16000000 * c.periods.toNat + 119999) / 120000 ≤ count → count ≤ 16000000 * c.periods.toNat / 20000 →
      (r.state = .settling →
        becomes
          { good r with
            state := .free, baseline := some count, lastShift := some 0, badRun := 0,
            occupiedSince := none }) ∧
      (∀ b, r.state = .free → r.baseline = some b → tOn ≤ shiftAgainst b count →
        becomes
          { judged b with
            state := .occupied, occupiedSince := some s.now, vehicles := r.vehicles + 1#16 }) ∧
      (∀ b, r.state = .free → r.baseline = some b → shiftAgainst b count < tOn → becomes (judged b)) ∧
      (∀ b, r.state = .occupied → r.baseline = some b → shiftAgainst b count < tOff →
        becomes
          { judged b with state := .free, occupiedSince := none, presenceExpired := false }) ∧
      (∀ b, r.state = .occupied → r.baseline = some b → tOff ≤ shiftAgainst b count → becomes (judged b)) ∧
      (r.state = .fault → r.goodRun < 7 → becomes (good r)) ∧
      (r.state = .fault → 7 ≤ r.goodRun →
        becomes
          { good r with
            state := .free, baseline := some count, lastShift := some 0, badRun := 0,
            occupiedSince := none, faultKind := none })

/-- An entry to OCCUPIED of a channel and an activation of an input register a demand on a used group out of
proceed that has none (R111); an EXTEND source holds its group's gap value at 0 (R116); a channel's recovery
leaves a permanent demand to another failed channel of the group, or clears its permanent flag (R113). -/
def Obligations.OccupationsReachTheDemandLogic : Prop :=
  (∀ (e : EngineId) (k : Fin 4) (count : Nat) (g : GroupId) (s t : State), s.work = [] →
      look s.engines e = some k →
      let ch := engineChannel e k
      loopFeeds (loopCfg s ch) = some g → exec (.measurementComplete e count) s = .next t →
      ((channel s ch).state = .free → (channel t ch).state = .occupied →
        (grp t g).demand =
          (if used s g = true ∧ inProceed s g = false ∧ (grp s g).demand = none then
            some { source := .loop ch, registeredAt := s.now, permanent := false }
          else (grp s g).demand) ∧
        (used s g = true → loopFn (loopCfg s ch) = .extend → (grp t g).gap = .held)) ∧
      ((channel s ch).state = .fault → (channel t ch).state = .free →
        (∀ d, (grp s g).demand = some d → d.permanent = true →
          (∀ other, loopFeeds (loopCfg s other) = some g → (channel t other).state = .fault →
            (∀ o, o < other → loopFeeds (loopCfg s o) = some g → (channel t o).state ≠ .fault) →
            (grp t g).demand = some { d with source := .failedDetector other }) ∧
          ((∀ o, loopFeeds (loopCfg s o) = some g → (channel t o).state ≠ .fault) →
            (grp t g).demand = some { d with permanent := false })) ∧
        (∀ d, (grp s g).demand = some d → d.permanent = false → (grp t g).demand = some d) ∧
        ((grp s g).demand = none → (grp t g).demand = none)) ∧
      ∀ h, h ≠ g → grp t h = grp s h) ∧
    ∀ (i : InputId) (g : GroupId) (s : State), s.work = [] → inputFeeds (inputCfg s i) = some g →
      (inputRec s i).active = false → 0 < (inputRec s i).run →
      debounceSamples (inputCfg s i) ≤ (inputRec s i).run →
      ∃ t, exec (.debouncedStateChange i) s = .next t ∧
        (grp t g).demand =
          (if used s g = true ∧ inProceed s g = false ∧ (grp s g).demand = none then
            some { source := .input i, registeredAt := s.now, permanent := false }
          else (grp s g).demand) ∧
        (used s g = true → inputFn (inputCfg s i) = .extend → (grp t g).gap = .held) ∧
        ∀ h, h ≠ g → grp t h = grp s h

/-- TRACKING_MOMENT: a FREE channel's baseline snaps to its last count at or below a shift of -T_on, stays when
equal to it, and otherwise moves by a sixteenth of the difference, at least by 1; it never passes the last
count. Nothing else changes but the clock (R97, R98). That the clock runs on from now after a late moment, and that
all channels are tracked in one command, are the model's choices (logs 12 and 42). -/
def Obligations.TrackingMovesFreeBaselines : Prop :=
  ∀ s : State, expired s.now s.trackedAt 20 = true →
    ∃ t, exec .trackingMoment s = .next t ∧
      t = { s with trackedAt := s.now, channels := t.channels } ∧
      (∀ ch, (channel s ch).state ≠ .free → channel t ch = channel s ch) ∧
      ∀ ch b c, (channel s ch).state = .free → (channel s ch).baseline = some b →
        (channel s ch).lastCount = some c →
        ∃ b', channel t ch = { channel s ch with baseline := some b' } ∧ min b c ≤ b' ∧ b' ≤ max b c ∧
          let step := ((c : Int) - b).tdiv 16
          b' =
            if shiftAgainst b c ≤ -((loopCfg s ch).onThreshold.toNat : Int) then c
            else if c = b then b
            else if step ≠ 0 then ((b : Int) + step).toNat
            else if b < c then b + 1
            else b - 1

/-- PRESENCE_LIMIT_EXPIRES: a channel OCCUPIED for its presence limit gives up the vehicle, with a DETECTOR
notice; a limit of 0 never expires (R99, R103). -/
def Obligations.PresenceLimitFreesTheChannel : Prop :=
  ∀ (ch : ChannelId) (s : State) (u : Time), s.work = [] → (channel s ch).state = .occupied →
    (channel s ch).occupiedSince = some u →
    ((loopCfg s ch).presence.toNat ≠ 0 → expired s.now u (loopCfg s ch).presence.toNat = true →
      ∃ t, exec (.presenceLimitExpires ch) s = .next t ∧
        channel t ch =
          { channel s ch with
            state := .free, baseline := (channel s ch).lastCount, occupiedSince := none,
            presenceExpired := true } ∧
        (∀ o, o ≠ ch → channel t o = channel s o) ∧ Noticed .detector s t ∧
        (∀ g, grp t g = { grp s g with gap := (grp t g).gap }) ∧
        t = { s with channels := t.channels, links := t.links, groups := t.groups }) ∧
    ((loopCfg s ch).presence.toNat = 0 → exec (.presenceLimitExpires ch) s = .next s)

/-- INPUT_SAMPLE keeps every raw level and grows or clears the run count; DEBOUNCED_STATE_CHANGE changes an
input whose run count has reached its debounce samples, and counts an activation (R107, R108); sent before that, it
changes nothing (the model's choice, log 1). The second is stated for an empty tram list, so a check-out by a TRAM_STOP
input is left out here. -/
def Obligations.InputsAreDebounced : Prop :=
  (∀ (pins : BitVec 16) (s : State),
      ∃ t, exec (.inputSample pins) s = .next t ∧ t = { s with inputs := t.inputs } ∧
        ∀ i : InputId,
          let level := pins.getLsbD i.val
          inputRec t i =
            { inputRec s i with
              raw := level
              run :=
                if (inputRec s i).active = !level then 0
                else if (inputRec s i).run < debounceSamples (inputCfg s i) then (inputRec s i).run + 1
                else (inputRec s i).run }) ∧
    ∀ (i : InputId) (s : State), s.work = [] → (∀ j, tram s j = none) →
      (0 < (inputRec s i).run → debounceSamples (inputCfg s i) ≤ (inputRec s i).run →
        ∃ t, exec (.debouncedStateChange i) s = .next t ∧
          inputRec t i =
            { inputRec s i with
              active := !(inputRec s i).active
              run := 0
              activations :=
                if (inputRec s i).active then (inputRec s i).activations
                else if (inputRec s i).activations = 65535#16 then 65535#16
                else (inputRec s i).activations + 1#16 } ∧
          (∀ j, j ≠ i → inputRec t j = inputRec s j) ∧
          t = { s with inputs := t.inputs, groups := t.groups, tramDrops := t.tramDrops }) ∧
      ((inputRec s i).run < debounceSamples (inputCfg s i) → exec (.debouncedStateChange i) s = .next s)

/-! ### The beacon line -/

/-- BEACON_LINE_SAMPLE: the byte assembler looks for 1, then for a start edge, then takes the samples 7, 8 and
9 sub-cells into each of ten cells and decides each by majority; the times BCN has stood at 0 and at 1 run on
(R118 to R120). Where the three samples lie in a cell is the model's reading (log 22). -/
def Obligations.LineSamplesAssembleBytes : Prop :=
  ∀ (level : Bool) (s : State),
    ∃ t, exec (.beaconLineSample level) s = .next t ∧
      t = { s with
            beacon := { s.beacon with
              level := level, assembler := t.beacon.assembler, lowFor := t.beacon.lowFor,
              highFor := t.beacon.highFor, sinceByte := t.beacon.sinceByte } } ∧
      (level = true → t.beacon.lowFor = none ∧
        t.beacon.highFor = some (match s.beacon.highFor with | none => 0 | some n => min 160 (n + 1))) ∧
      (level = false → t.beacon.highFor = none ∧
        t.beacon.lowFor = some (match s.beacon.lowFor with | none => 0 | some n => min 320 (n + 1))) ∧
      (s.beacon.receiver = .broken → t.beacon.assembler = s.beacon.assembler) ∧
      (s.beacon.receiver ≠ .broken →
        (s.beacon.assembler = .waitingHigh →
          t.beacon.assembler = if level then .waitingEdge else .waitingHigh) ∧
        (s.beacon.assembler = .waitingEdge →
          t.beacon.assembler = if level then .waitingEdge else .receiving 0 0 0#8 none) ∧
        (∀ n ones data stop, s.beacon.assembler = .receiving n ones data (some stop) →
          t.beacon.assembler = s.beacon.assembler) ∧
        ∀ n ones data, s.beacon.assembler = .receiving n ones data none →
          let m := n + 1
          let here := if level then 1 else 0
          (m % 16 = 7 → t.beacon.assembler = .receiving m here data none) ∧
          (m % 16 = 8 → t.beacon.assembler = .receiving m (ones + here) data none) ∧
          (m % 16 ≠ 7 → m % 16 ≠ 8 → m % 16 ≠ 9 → t.beacon.assembler = .receiving m ones data none) ∧
          (m % 16 = 9 →
            (m / 16 = 0 →
              t.beacon.assembler =
                if 2 ≤ ones + here then .waitingHigh else .receiving m 0 data none) ∧
            (1 ≤ m / 16 → m / 16 ≤ 8 →
              ∃ data', t.beacon.assembler = .receiving m 0 data' none ∧
                ∀ i, i < 8 →
                  data'.getLsbD i =
                    if i = m / 16 - 1 then decide (2 ≤ ones + here) || data.getLsbD i
                    else data.getLsbD i) ∧
            (9 ≤ m / 16 →
              t.beacon.assembler = .receiving m (ones + here) data (some (decide (2 ≤ ones + here))))))

/-- FRAMING_ERROR, GAP_TIMER_EXPIRES and BREAK drop the bytes of the telegram in hand, each with its counter;
BREAK takes the receiver to BROKEN with a TRAM notice, and BROKEN_WAIT_COMPLETE takes it out again (R118 to R122,
R127). Counting the break, the broken wait and the gap in BEACON_LINE_SAMPLE commands, 320, 160 and 480 of them, and
what the assembler waits for after a BREAK and after the broken wait are the model's choices (log 22). -/
def Obligations.LineFaultsDropTelegrams : Prop :=
  ∀ s : State,
    (∀ n ones data, s.beacon.receiver ≠ .broken → s.beacon.assembler = .receiving n ones data (some false) →
      ∃ t, exec .framingError s = .next t ∧
        t = { s with
              beacon := { s.beacon with
                receiver := .idle, assembler := .waitingHigh, telegram := [],
                counts := { s.beacon.counts with framing := satInc s.beacon.counts.framing } } }) ∧
    (s.beacon.receiver = .assembling → 480 ≤ s.beacon.sinceByte →
      ∃ t, exec .gapTimerExpires s = .next t ∧
        t = { s with
              beacon := { s.beacon with
                receiver := .idle, telegram := [],
                counts := { s.beacon.counts with gapDrops := satInc s.beacon.counts.gapDrops } } }) ∧
    (∀ n, s.beacon.receiver ≠ .broken → s.beacon.lowFor = some n → 320 ≤ n →
      ∃ t, exec .lineBreak s = .next t ∧ Noticed .tram s t ∧
        t = { s with
              links := t.links
              beacon := { s.beacon with
                receiver := .broken, assembler := .waitingHigh, telegram := [],
                counts := { s.beacon.counts with breaks := satInc s.beacon.counts.breaks } } }) ∧
    ∀ n, s.beacon.receiver = .broken → s.beacon.highFor = some n → 160 ≤ n →
      ∃ t, exec .brokenWaitComplete s = .next t ∧
        t = { s with beacon := { s.beacon with receiver := .idle, assembler := .waitingEdge } }

/-- BYTE_COMPLETE, by the receiver's state: a stray byte is counted, C3H opens a telegram, a byte joins it, and
the twelfth completes it; a wrong check byte and a beacon number above 15 are counted, and a STATUS telegram of
a beacon in use is accepted and refreshes its beacon (R121, R123 to R127). A telegram that fails another content check
is a content drop; an accepted CHECK_IN makes a record, or is counted where its route has no group or the list is
full; an accepted CHECK_OUT or CANCEL removes its record or is counted as unmatched (R124 to R126, R133, R142 to R144,
R149). The records are those of a junction outside NORMAL, and of removals without a transition, on a group where no
terminate waits. -/
def Obligations.CompletedBytesBuildTelegrams : Prop :=
  (∀ (n ones : Nat) (byte : Byte) (s : State), s.work = [] →
      s.beacon.assembler = .receiving n ones byte (some true) →
      let b := s.beacon
      let becomes := fun (b' : BeaconRec) =>
        ∃ t, exec .byteComplete s = .next t ∧ t = { s with beacon := { b' with assembler := .waitingEdge } }
      (b.receiver = .idle → byte ≠ 0xC3#8 →
        becomes { b with counts := { b.counts with stray := satInc b.counts.stray } }) ∧
      (b.receiver = .idle → byte = 0xC3#8 →
        becomes { b with receiver := .assembling, telegram := [byte], lastByteAt := s.now, sinceByte := 0 }) ∧
      (b.receiver = .assembling → b.telegram.length < 11 →
        becomes { b with telegram := b.telegram ++ [byte], lastByteAt := s.now, sinceByte := 0 }) ∧
      (b.receiver = .assembling → b.telegram.length = 11 →
        let idle := { b with receiver := .idle, telegram := [] }
        (byte ≠ crc8 b.telegram →
          becomes
            { idle with counts := { b.counts with checkFailures := satInc b.counts.checkFailures } }) ∧
        (∀ first bcn rest, b.telegram = first :: bcn :: rest → byte = crc8 b.telegram → 16 ≤ bcn.toNat →
          becomes { idle with counts := { b.counts with contentDrops := satInc b.counts.contentDrops } }) ∧
        ∀ (first : Byte) (bcn : BeaconId) (rest : List Byte) (a : ApproachId),
          b.telegram = first :: BitVec.ofNat 8 bcn.val :: 4#8 :: rest → byte = crc8 b.telegram →
          beaconFn (look (cfg s).beacons bcn) ≠ .off →
          (look (cfg s).beacons bcn).approach.toNat = a.val + 1 →
          becomes
            { idle with
              lastHeard := put b.lastHeard bcn (some s.now)
              counts := { b.counts with accepted := satInc b.counts.accepted } })) ∧
    ∀ (bcn : BeaconId) (fn : BeaconFunction) (a : ApproachId)
      (kd n1 n0 line way d1 d0 speed lateness : Byte) (s : State),
      Telegram bcn fn a [kd, n1, n0, line, way, d1, d0, speed, lateness] s →
      let number := word16 n1 n0
      let becomes := fun (u : State) =>
        ∃ t, exec .byteComplete s = .next t ∧ t = { u with beacon := acceptedBeacon bcn s }
      ((fn = .off ∨ kd.toNat = 0 ∨ 4 < kd.toNat ∨ (fn = .pre ∧ kd = 2#8) ∨ (fn = .stop ∧ kd = 1#8) ∨
          (kd ≠ 4#8 ∧ 9999 < number.toNat) ∨ (kd = 1#8 ∧ ∀ route, way ≠ routeByte route)) →
        ∃ t, exec .byteComplete s = .next t ∧
          t = { s with
                beacon := { s.beacon with
                  receiver := .idle, assembler := .waitingEdge, telegram := [],
                  counts := { s.beacon.counts with
                    contentDrops := satInc s.beacon.counts.contentDrops } } }) ∧
      (number.toNat ≤ 9999 →
        (∀ route, fn = .pre → kd = 1#8 → way = routeByte route →
          (routeGroupIn (cfg s) a route = none →
            becomes
              { s with tramDrops := { s.tramDrops with noRoute := satInc s.tramDrops.noRoute } }) ∧
          ∀ g, routeGroupIn (cfg s) a route = some g → Unlisted number a s →
            ((∀ k, tram s k ≠ none) →
              ∃ t, exec .byteComplete s = .next t ∧ Noticed .tram s t ∧
                t = { s with
                      beacon := acceptedBeacon bcn s, links := t.links,
                      tramDrops := { s.tramDrops with listFull := satInc s.tramDrops.listFull } }) ∧
            ∀ k, LowestEmpty k s → s.mode ≠ .normal → (grp s g).pendingTerm = none →
              ∃ t, exec .byteComplete s = .next t ∧ HoldFollows g t ∧
                EntryChanged k
                  (some
                    (newTram s
                      { number := number, approach := a, line := line, route := route,
                        distance := (word16 d1 d0).toNat, speed := speed.toNat,
                        lateness := if lateness.toNat < 128 then some lateness.toNat else none,
                        source := .beacon }
                      g)) [g] s t ∧
                t = { s with beacon := acceptedBeacon bcn s, trams := t.trams, groups := t.groups }) ∧
        ((fn = .stop ∧ kd = 2#8) ∨ (fn ≠ .off ∧ kd = 3#8) →
          (Unlisted number a s →
            becomes
              { s with tramDrops := { s.tramDrops with unmatched := satInc s.tramDrops.unmatched } }) ∧
          ∀ k r, TramListLaw s → tram s k = some r → r.number = number → r.approach = a →
            r.transition = none → (grp s r.group).pendingTerm = none →
            ∃ t, exec .byteComplete s = .next t ∧ EntryChanged k none [r.group] s t ∧
              (if r.state = .holding then HoldFollows r.group t else grp t r.group = grp s r.group) ∧
              look t.tramStats a =
                (if kd = 2#8 then
                  { look s.tramStats a with checkOuts := satInc (look s.tramStats a).checkOuts }
                else look s.tramStats a) ∧
              (∀ b, b ≠ a → look t.tramStats b = look s.tramStats b) ∧
              t = { s with beacon := acceptedBeacon bcn s, trams := t.trams, groups := t.groups,
                           tramStats := t.tramStats }))

/-! ### Trams -/

/-- HOLD_TIMER_EXPIRES: a hold that is over leaves its record OVERDUE, with H kept, and its group with no
hold-until when no other record holds it. LOST_TIMER_EXPIRES: a record past its lost time is removed and
counted, with a TRAM notice (R138, R139, R142, R145). For groups on which no terminate waits. -/
def Obligations.TramTimersExpire : Prop :=
  ∀ (k : EntryId) (r : TramRec) (s : State), s.work = [] → tram s k = some r →
    (grp s r.group).pendingTerm = none →
    (∀ h, r.state = .holding → r.holdEnd = some h → atOrAfter s.now h = true →
      ∃ t, exec (.holdTimerExpires k) s = .next t ∧
        tram t k = some { r with state := .overdue } ∧ (∀ j, j ≠ k → tram t j = tram s j) ∧
        (∀ g, g ≠ r.group → grp t g = grp s g) ∧
        grp t r.group = { grp s r.group with holdUntil := (grp t r.group).holdUntil } ∧
        ((∀ j q, j ≠ k → tram s j = some q → q.group = r.group → q.state ≠ .holding) →
          (grp t r.group).holdUntil = none) ∧
        t = { s with trams := t.trams, groups := t.groups }) ∧
    (r.transition = none → expired s.now r.arrival (figure (cfg s) .lostMargin) = true →
      ∃ t, exec (.lostTimerExpires k) s = .next t ∧
        tram t k = none ∧ (∀ j, j ≠ k → tram t j = tram s j) ∧
        (∀ g, g ≠ r.group → grp t g = grp s g) ∧
        grp t r.group = { grp s r.group with holdUntil := (grp t r.group).holdUntil } ∧
        (r.state ≠ .holding → grp t r.group = grp s r.group) ∧
        ((∀ j q, j ≠ k → tram s j = some q → q.group = r.group → q.state ≠ .holding) →
          r.state = .holding → (grp t r.group).holdUntil = none) ∧
        look t.tramStats r.approach =
          { look s.tramStats r.approach with lost := satInc (look s.tramStats r.approach).lost } ∧
        (∀ a, a ≠ r.approach → look t.tramStats a = look s.tramStats a) ∧ Noticed .tram s t ∧
        t = { s with trams := t.trams, groups := t.groups, tramStats := t.tramStats, links := t.links })

/-- TRAM_CHECK_IN makes a record, with the predicted arrival ⌈36 d ÷ v⌉ ds on and the level of its line raised by
lateness, in the lowest empty entry: OBSERVED outside NORMAL; in NORMAL with the list empty, held on a green group
until the arrival plus the hold margin, capped by the green start plus the maximum hold, and on a group to be called
CALLING, with a TRAM transition that releases it and terminates what proceeds against it, ACTIVE at once in a junction
at rest. A record of that tram and approach is updated instead (outside NORMAL, without a transition; OBSERVED in a new
group before its evaluation by log 39). A full list answers REFUSED_FULL, a route with no group REFUSED_PARAM (R130 to
R139). -/
def Obligations.TramCheckInMakesARecord : Prop :=
  ∀ (n1 n0 line d1 d0 speed lateness : Byte) (a : ApproachId) (route : Route) (s : State),
    let params := [n1, n0, approachByte a, line, routeByte route, d1, d0, speed, lateness]
    let number := word16 n1 n0
    Answerable .tramnet params s → number.toNat ≤ 9999 → (lateness.toNat < 128 ∨ lateness = 255#8) →
    (routeGroupIn (cfg s) a route = none →
      ∃ t, exec (.tramCheckIn .tramnet params) s = .next t ∧ Replied .tramnet (plain .refusedParam) s t) ∧
    (∀ g, routeGroupIn (cfg s) a route = some g → Unlisted number a s → (∀ k, tram s k ≠ none) →
      ∃ t, exec (.tramCheckIn .tramnet params) s = .next t ∧ Replied .tramnet (plain .refusedFull) s t) ∧
    ∀ g, routeGroupIn (cfg s) a route = some g → (grp s g).pendingTerm = none →
      let v :=
        if speed.toNat = 0 then figure (cfg s) .defaultSpeed
        else if speed.toNat < 5 then 5 else if 80 < speed.toNat then 80 else speed.toNat
      let base := baseLevelIn (cfg s) line
      let level :=
        if lateness ≠ 255#8 ∧ base ≠ 0 ∧ figure (cfg s) .lateThreshold ≤ lateness.toNat then min 2 (base + 1)
        else base
      let late := if lateness = 255#8 then none else some lateness.toNat
      let arrival := plusDs s.now ((min (word16 d1 d0).toNat 2000 * 36 + (v - 1)) / v)
      let record := fun (st : TramState) (h : Option Time) (capped : Bool) =>
        ({ number := number, approach := a, line := line, route := route, group := g,
           source := .tramnet, checkInAt := s.now, arrival := arrival, level := level,
           lateness := late, capped := capped, calls := 0, transition := none, holdEnd := h,
           state := st, awaitsSlot := false } : TramRec)
      let answered := fun (t : State) =>
        exec (.tramCheckIn .tramnet params) s = .next t ∧
          link t .tramnet = repliedLink (plain .done) (link s .tramnet)
      (∀ k, Unlisted number a s → LowestEmpty k s → s.mode ≠ .normal →
        ∃ t, answered t ∧ EntryChanged k (some (record .observed none false)) [g] s t ∧ HoldFollows g t ∧
          t = { s with trams := t.trams, groups := t.groups, links := t.links }) ∧
      (∀ k r, TramListLaw s → tram s k = some r → r.number = number → r.approach = a → s.mode ≠ .normal →
        r.state = .observed → r.transition = none → (grp s r.group).pendingTerm = none →
        ∃ t, answered t ∧ HoldFollows g t ∧ HoldFollows r.group t ∧
          EntryChanged k
            (some
              { r with
                line := line, route := route, group := g, source := .tramnet, checkInAt := s.now,
                arrival := arrival, level := level, lateness := late, holdEnd := none,
                capped := if g = r.group then r.capped else false,
                calls := if g = r.group then r.calls else 0,
                awaitsSlot := false })
            [g, r.group] s t ∧
          t = { s with trams := t.trams, groups := t.groups, links := t.links }) ∧
      ((∀ k, tram s k = none) → s.mode = .normal → level ≠ 0 → (grp s g).inhibited = false →
        (grp s g).priorityInhibited = false →
        (∀ green, isGreen s g = true → (grp s g).greenStart = some green →
          let wanted := plusDs arrival (figure (cfg s) .holdMargin)
          let cap := plusDs green (maxHoldIn (cfg s) g)
          let h := if after wanted cap then cap else wanted
          let held := after h s.now
          ∃ t, answered t ∧
            tram t 0 = some (record (if held then .holding else .overdue) (some h) (after wanted cap)) ∧
            (∀ k, k ≠ 0 → tram t k = none) ∧
            grp t g = { grp s g with holdUntil := if held then some h else none } ∧
            (∀ i, i ≠ g → grp t i = grp s i)) ∧
        (isGreen s g = false → (∀ k r, slot s k = some r → isLive r = false) → FinishLaw s →
          (∀ i, (grp s i).claim = none) → (∀ i, (grp s i).state ≠ .prepare) →
          (∀ i, (grp s i).redLost = false) → s.commit ≠ .waitingApply →
          ∃ t k q, answered t ∧
            tram t 0 =
              some { record .calling none false with calls := 1, transition := some q.id } ∧
            (∀ k, k ≠ 0 → tram t k = none) ∧ slot t k = some q ∧
            (∀ j p, slot s j = some p → p.id ≠ q.id) ∧ q.state = .active ∧ q.cls = .tram ∧
            q.origin = .tram number a ∧ q.tram = some { level := level, arrival := arrival } ∧
            (∀ i, inSet .release q i = decide (i = g)) ∧
            (∀ i, inSet .terminate q i = (conflicts s i g && inProceed s i)) ∧
            (grp t g).claim = some { id := q.id, kind := .release } ∧
            look t.tramStats a = { look s.tramStats a with calls := satInc (look s.tramStats a).calls } ∧
            ∀ b, b ≠ a → look t.tramStats b = look s.tramStats b))

/-- TRAM_CHECK_OUT and TRAM_CANCEL remove the record of a tram number and approach and answer DONE, a check-out
counting for its approach; with no such record they are refused with REFUSED_PARAM (R142 to R144). For a record
without a transition, on a group on which no terminate waits. -/
def Obligations.CheckOutAndCancelRemoveTheRecord : Prop :=
  ∀ (n1 n0 : Byte) (a : ApproachId) (s : State),
    let params := [n1, n0, approachByte a]
    Answerable .tramnet params s → (word16 n1 n0).toNat ≤ 9999 →
    ((∀ k r, tram s k = some r → ¬ (r.number = word16 n1 n0 ∧ r.approach = a)) →
      (∃ t, exec (.tramCheckOut .tramnet params) s = .next t ∧
        Replied .tramnet (plain .refusedParam) s t) ∧
      ∃ t, exec (.tramCancel .tramnet params) s = .next t ∧
        Replied .tramnet (plain .refusedParam) s t) ∧
    ∀ (k : EntryId) (r : TramRec), TramListLaw s → tram s k = some r → r.number = word16 n1 n0 →
      r.approach = a → r.transition = none → (grp s r.group).pendingTerm = none →
      let removed := fun (t : State) =>
        tram t k = none ∧ (∀ j, j ≠ k → tram t j = tram s j) ∧
        link t .tramnet = repliedLink (plain .done) (link s .tramnet) ∧
        (∀ q, q ≠ .tramnet → link t q = link s q) ∧ (∀ g, g ≠ r.group → grp t g = grp s g) ∧
        grp t r.group = { grp s r.group with holdUntil := (grp t r.group).holdUntil } ∧
        (r.state ≠ .holding → grp t r.group = grp s r.group)
      (∃ t, exec (.tramCheckOut .tramnet params) s = .next t ∧ removed t ∧
        look t.tramStats a =
          { look s.tramStats a with checkOuts := satInc (look s.tramStats a).checkOuts } ∧
        (∀ b, b ≠ a → look t.tramStats b = look s.tramStats b) ∧
        t = { s with trams := t.trams, groups := t.groups, links := t.links, tramStats := t.tramStats }) ∧
      ∃ t, exec (.tramCancel .tramnet params) s = .next t ∧ removed t ∧
        t = { s with trams := t.trams, groups := t.groups, links := t.links }

/-! ### The cabinet link -/

/-- The bytes of a frame are the command that the code table of R164 names for the role of its address, and every
request is that of some code; any other bytes are a REQUEST_FRAME_DROP (R151, R152, R164; the reading of log 2).
REQUEST_FRAME_DROP: a frame too short for its length, or with a length above 40, is a format drop; a wrong
check byte is a check failure; a byte after a right check byte is a format drop of a role that is then seen; a
whole frame, and a frame to an address that is no role's, change nothing here. LINK_CLOCK_TIMEOUT counts for
its role and leaves the slot (R151 to R153, R161). The model's choices: a frame cut off after its check byte (log 31),
a byte after a wrong check byte, which counts nothing more (log 40), and a reply frame that stalls after its check
byte, which is a REPLY_READ first (log 41). -/
def Obligations.BadFramesAreCounted : Prop :=
  (∀ (straps : Straps) (close : FrameClose),
      (∀ (role : Role) (code : Byte) (params : List Byte), params.length ≤ 40 →
        commandOfFrame straps (requestFrame straps role code params) close =
          match requestOfCode code with
          | some request => request role params
          | none => .requestCodeUnknown role code) ∧
      (∀ (i : Instr) (role : Role) (params : List Byte), requestOf i = some (role, params) →
        params.length ≤ 40 →
        ∃ code, commandOfFrame straps (requestFrame straps role code params) close = i) ∧
      ∀ bytes, (∀ role code params, params.length ≤ 40 → bytes ≠ requestFrame straps role code params) →
        commandOfFrame straps bytes close = .requestFrameDrop bytes close) ∧
  (∀ (role : Role) (close : FrameClose) (s : State),
      let a := addressByte s.straps role false
      let counted := fun (rest : List Byte) (f : LinkRec → LinkRec) =>
        ∃ t, exec (.requestFrameDrop (a :: rest) close) s = .next t ∧ link t role = f (link s role) ∧
          (∀ r, r ≠ role → link t r = link s r) ∧ t = { s with links := t.links }
      let format := fun (l : LinkRec) =>
        { l with counts := { l.counts with formatDrops := satInc l.counts.formatDrops } }
      (∀ rest, rest.length < 2 → counted rest format) ∧
      (∀ code n body, 40 < n.toNat → counted (code :: n :: body) format) ∧
      (∀ code n body, n.toNat ≤ 40 → body.length ≤ n.toNat → counted (code :: n :: body) format) ∧
      ∀ (code n check : Byte) (params extra : List Byte), params.length ≤ 40 → n.toNat = params.length →
        (check ≠ crc8 (a :: code :: n :: params) →
          counted (code :: n :: (params ++ check :: extra)) fun l =>
            { l with counts := { l.counts with checkFailures := satInc l.counts.checkFailures } }) ∧
        (check = crc8 (a :: code :: n :: params) → extra ≠ [] →
          counted (code :: n :: (params ++ check :: extra)) fun l => { format l with seen := true }) ∧
        (check = crc8 (a :: code :: n :: params) →
          exec (.requestFrameDrop (a :: code :: n :: (params ++ [check])) close) s = .next s)) ∧
    (∀ (b : Byte) (rest : List Byte) (close : FrameClose) (s : State),
      (∀ role, b ≠ addressByte s.straps role false) → exec (.requestFrameDrop (b :: rest) close) s = .next s) ∧
    ∀ (role : Role) (frame : TimedFrame) (s : State),
      ∃ t, exec (.linkClockTimeout role frame) s = .next t ∧
        link t role =
          { link s role with
            seen := (link s role).seen || decide (frame = .request true)
            counts :=
              { (link s role).counts with clockTimeouts := satInc (link s role).counts.clockTimeouts } } ∧
        (∀ r, r ≠ role → link t r = link s r) ∧ t = { s with links := t.links }

/-- REPLY_READ sends status, length, data and check byte of the slot's reply, NO_REPLY for an EMPTY and PENDING
for a PENDING slot, as far as the master acknowledges, and 0xFF for every byte acknowledged after that; only an
acknowledged check byte takes a READY slot to EMPTY, and a reply that came from a PENDING request takes its
REPLY kind with it (R155; the bytes sent by log 25). -/
def Obligations.ReadingAReplyEmptiesTheSlot : Prop :=
  ∀ (role : Role) (acknowledged : Nat) (s : State),
    let sent := fun (code : Byte) (data : List Byte) =>
      let body := [code, byte data.length] ++ data
      (body ++ [crc8 (addressByte s.straps role true :: body)]).take (acknowledged + 1) ++
        List.replicate (acknowledged - (data.length + 3)) 0xFF#8
    ((link s role).slot = .empty →
      exec (.replyRead role acknowledged) s = .next { s with replyLine := sent 2#8 [] }) ∧
    ((link s role).slot = .pending →
      exec (.replyRead role acknowledged) s = .next { s with replyLine := sent 3#8 [] }) ∧
    ∀ reply fromPending, (link s role).slot = .ready reply fromPending →
      ∃ t, exec (.replyRead role acknowledged) s = .next t ∧
        t.replyLine = sent (replyByte reply.code) reply.data ∧
        (acknowledged < reply.data.length + 3 → t.links = s.links) ∧
        (reply.data.length + 3 ≤ acknowledged →
          link t role =
            { link s role with
              slot := .empty
              notices :=
                if fromPending then put (link s role).notices (noticeIndex .reply) false
                else (link s role).notices }) ∧
        (∀ r, r ≠ role → link t r = link s r) ∧ t = { s with links := t.links, replyLine := t.replyLine }

/-- Every request meets its slot and its right first: a PENDING slot drops it with a busy drop, a role without
the right to it is answered REFUSED_ROLE, and a code that names no request is answered REFUSED_UNKNOWN; the role
is seen (R152, R154, R156, R157). A REQUEST_CODE_UNKNOWN sent with a code that names a request changes nothing, since
no frame is that command: the model's convention (log 1). -/
def Obligations.RequestsNeedAFreeSlotAndARight : Prop :=
  (∀ (i : Instr) (role : Role) (params : List Byte) (s : State), requestOf i = some (role, params) →
      params.length ≤ 40 →
      ((link s role).slot = .pending →
        ∃ t, exec i s = .next t ∧
          link t role =
            { link s role with
              seen := true
              counts := { (link s role).counts with busyDrops := satInc (link s role).counts.busyDrops } } ∧
          (∀ r, r ≠ role → link t r = link s r) ∧ t = { s with links := t.links }) ∧
      (Answerable role params s → ¬ mayRequest i role →
        ∃ t, exec i s = .next t ∧ Replied role (plain .refusedRole) s t)) ∧
    ∀ (role : Role) (code : Byte) (s : State),
      (knownCode code = false → Answerable role [] s →
        ∃ t, exec (.requestCodeUnknown role code) s = .next t ∧
          Replied role (plain .refusedUnknown) s t) ∧
      (knownCode code = true → exec (.requestCodeUnknown role code) s = .next s)

/-- The reads answer DONE with the junction time, the number of entries and as many entries from the first one
asked for as fit 64 bytes, in every mode and for every role, and change nothing else (R56, R104, R158).
READ_TRANSITIONS takes a count of 1 to 8 and is refused with REFUSED_PARAM beyond; that READ_LOOPS and READ_TRAMS take
every count but 0 is the model's reading (log 17). Two more of the model's choices are part of what is answered: PLAN's
READ_JUNCTION in NORMAL reports the supervision time before the restart that the same request brings (log 35), and the
target byte of a READ_LOOPS entry without a target is 0 (log 34). -/
def Obligations.ReadsAnswerWhatFits : Prop :=
  (∀ (role : Role) (s : State),
      let answered := fun (i : Instr) (entries : List (List Byte)) =>
        ∃ t, exec i s = .next t ∧ Replied role (readReplyOf s entries) s t
      (Answerable role [] s →
        answered (.readJunction role []) [junctionEntry s] ∧ answered (.readTrams role []) [beaconEntry s]) ∧
      ∀ first count : Byte, Answerable role [first, count] s →
        (∀ g, first = groupByte g → answered (.readGroups role [first]) [fullGroup s g]) ∧
        (∀ g, first = groupByte g → 1 ≤ count.toNat → count.toNat ≤ 7 →
          answered (.readGroups role [first, count])
            (((allGroups.drop g.val).take count.toNat).map (compactGroup s))) ∧
        (∀ k : SlotId, first = byte k.val → 1 ≤ count.toNat → count.toNat ≤ 8 →
          answered (.readTransitions role [first, count])
            (((allSlots.drop k.val).take count.toNat).map (slotEntry s))) ∧
        (count = 0#8 ∨ 8 < count.toNat →
          ∃ t, exec (.readTransitions role [first, count]) s = .next t ∧
            Replied role (plain .refusedParam) s t) ∧
        (1 ≤ first.toNat → first.toNat ≤ 32 → count ≠ 0#8 →
          answered (.readLoops role [first, count])
            (((loopItems s).drop (first.toNat - 1)).take count.toNat)) ∧
        (∀ k : EntryId, first = byte k.val → count ≠ 0#8 →
          answered (.readTrams role [first, count])
            (((allEntries.drop k.val).take count.toNat).map (tramEntryBytes s))) ∧
        ∀ cs, countersOf s first = some cs → answered (.readCounts role [first]) (cs.map bytes16)) ∧
    ∀ (s : State) (entries : List (List Byte)),
      ∃ m, m ≤ entries.length ∧
        (readReplyOf s entries).data = bytes32 s.now ++ [byte m] ++ (entries.take m).flatten ∧
        (readReplyOf s entries).data.length ≤ 64 ∧
        (m < entries.length → 64 < 5 + ((entries.take (m + 1)).flatten).length)

/-- R160: NOTICE_POLL takes the highest-ranked kind out of the role's set and answers it with the number left;
an empty set answers "none" and 0; a PENDING slot drops the poll; the poll that empties the last set releases
ALRT. -/
def Obligations.NoticePollTakesTheHighestKind : Prop :=
  ∀ (role : Role) (s : State),
    (Answerable role [] s →
      (∀ n, hasNotice s role n = true →
        (∀ m, hasNotice s role m = true → (noticeIndex n).val ≤ (noticeIndex m).val) →
        ∃ t, exec (.noticePoll role []) s = .next t ∧
          Replied role
            { code := .done
              data :=
                [noticeByte n, byte (allNotices.filter fun m => m ≠ n ∧ hasNotice s role m = true).length] }
            (modLink role (fun l => { l with notices := put l.notices (noticeIndex n) false }) s) t ∧
          ((∀ r m, hasNotice s r m = true → r = role ∧ m = n) → alrtLow t = false)) ∧
      ((∀ n, hasNotice s role n = false) →
        ∃ t, exec (.noticePoll role []) s = .next t ∧
          Replied role { code := .done, data := [0#8, 0#8] } s t)) ∧
    ((link s role).slot = .pending →
      ∃ t, exec (.noticePoll role []) s = .next t ∧ (link t role).notices = (link s role).notices ∧
        (link t role).slot = .pending)

/-- KEEPALIVE is answered DONE in every mode, and in NORMAL restarts the supervision timer; with parameters it is
refused and does not (R68, R156). -/
def Obligations.KeepaliveRestartsSupervision : Prop :=
  ∀ (params : List Byte) (s : State), Answerable .plan params s →
    ∃ t, exec (.keepalive .plan params) s = .next t ∧
      Replied .plan (plain (if params = [] then .done else .refusedParam)) s t ∧
      t.supervision = if params = [] ∧ s.mode = .normal then some s.now else s.supervision

/-! ### Demands and inhibits -/

/-- R114: DEMAND's refusals, and its effect on the demand record of every group it names, in every mode. -/
def Obligations.DemandPlacesAndClears : Prop :=
  ∀ (action : Byte) (s : State),
    (Answerable .plan [] s →
      ∃ t, exec (.demand .plan []) s = .next t ∧ Replied .plan (plain .refusedParam) s t) ∧
    (∀ bs, Answerable .plan (action :: bs) s → ListRefused (used s) action bs →
      ∃ t, exec (.demand .plan (action :: bs)) s = .next t ∧ Replied .plan (plain .refusedParam) s t) ∧
    ∀ gs : List GroupId, Answerable .plan (action :: gs.map groupByte) s → (action = 0#8 ∨ action = 1#8) →
      gs ≠ [] → gs.Nodup → (∀ g ∈ gs, used s g = true) →
      ∃ t, exec (.demand .plan (action :: gs.map groupByte)) s = .next t ∧
        Replied .plan (plain .done) { s with groups := t.groups } t ∧
        (∀ g, g ∉ gs → grp t g = grp s g) ∧
        ∀ g ∈ gs,
          (action = 1#8 → (grp s g).demand = none →
            grp t g =
              { grp s g with
                demand := some { source := .plan, registeredAt := s.now, permanent := false } }) ∧
          (action = 1#8 → (grp s g).demand ≠ none → grp t g = grp s g) ∧
          (action = 0#8 → (∀ d, (grp s g).demand = some d → d.permanent = false) →
            grp t g = { grp s g with demand := none }) ∧
          (action = 0#8 → (∃ d, (grp s g).demand = some d ∧ d.permanent = true) → grp t g = grp s g)

/-- GROUP_INHIBIT of CENTRAL and PRIORITY_INHIBIT of PLAN, with no live transition and no tram: the flag of every
group named takes the action in every mode, and nothing else of any group changes; their refusals (R7, R42,
R146). -/
def Obligations.InhibitsWriteTheirFlags : Prop :=
  ∀ (action : Byte) (s : State),
    (∀ bs,
      (Answerable .central (action :: bs) s → ListRefused (used s) action bs →
        ∃ t, exec (.groupInhibit .central (action :: bs)) s = .next t ∧
          Replied .central (plain .refusedParam) s t) ∧
      (Answerable .plan (action :: bs) s → ListRefused (fun g => kind s g == .tram) action bs →
        ∃ t, exec (.priorityInhibit .plan (action :: bs)) s = .next t ∧
          Replied .plan (plain .refusedParam) s t)) ∧
    ∀ gs : List GroupId, Quiet s → (action = 0#8 ∨ action = 1#8) → gs ≠ [] → gs.Nodup →
      (Answerable .central (action :: gs.map groupByte) s → (∀ g ∈ gs, used s g = true) →
        ∃ t, exec (.groupInhibit .central (action :: gs.map groupByte)) s = .next t ∧
          Replied .central (plain .done) { s with groups := t.groups, order := t.order } t ∧
          t.order.items = s.order.items ∧ (∀ g, g ∉ gs → grp t g = grp s g) ∧
          ∀ g ∈ gs, grp t g = { grp s g with inhibited := action == 1#8 }) ∧
      (Answerable .plan (action :: gs.map groupByte) s → (∀ g ∈ gs, kind s g = .tram) →
        ∃ t, exec (.priorityInhibit .plan (action :: gs.map groupByte)) s = .next t ∧
          Replied .plan (plain .done) { s with groups := t.groups } t ∧
          (∀ g, g ∉ gs → grp t g = grp s g) ∧
          ∀ g ∈ gs, grp t g = { grp s g with priorityInhibited := action == 1#8 })

/-! ### Transitions -/

/-- TRANSITION is refused at the first check of R37 that fails, with that check's code, and nothing else happens;
a length that does not match the terminate count is refused first (log 16). -/
def Obligations.TransitionChecksInOrder : Prop :=
  ∀ (role : Role) (s : State), (role = .plan ∨ role = .central) →
    let refused := fun (params : List Byte) (c : ReplyCode) =>
      ∃ t, exec (.transition role params) s = .next t ∧ Replied role (plain c) s t
    (Answerable role [] s → refused [] .refusedParam) ∧
    (∀ k bs, Answerable role (k :: bs) s → bs.length < k.toNat → refused (k :: bs) .refusedParam) ∧
    (∀ k bs, Answerable role (k :: bs) s → k.toNat ≤ bs.length →
      (s.mode ≠ .normal → refused (k :: bs) .refusedMode) ∧
      (s.mode = .normal →
        (bs = [] ∨ (∃ b ∈ bs, b.toNat = 0 ∨ 24 < b.toNat) ∨ ¬ bs.Nodup ∨
          ∃ g, groupByte g ∈ bs ∧ used s g = false) →
        refused (k :: bs) .refusedParam)) ∧
    ∀ terminate release : List GroupId,
      let params := byte terminate.length :: (terminate ++ release).map groupByte
      Answerable role params s → s.mode = .normal → terminate ++ release ≠ [] →
      (terminate ++ release).Nodup → (∀ g ∈ terminate ++ release, used s g = true) →
      ((∃ i ∈ release, ∃ j ∈ release, conflicts s i j = true) → refused params .refusedConflict) ∧
      ((∀ i ∈ release, ∀ j ∈ release, conflicts s i j = false) →
        ((∃ g ∈ release, (grp s g).inhibited = true) → refused params .refusedState) ∧
        ((∀ g ∈ release, (grp s g).inhibited = false) →
          (¬ Covered s terminate release → refused params .refusedConflict) ∧
          (Covered s terminate release → FinishLaw s → ¬ RoomFor s → refused params .refusedFull)))

/-- A TRANSITION that passes every check of R37 is written into the table with an id that no record held, the
class of its role, and its two lists as its sets, and the role is answered ACCEPTED with the id; no live record
is lost (R34 to R36, R38). In a junction with no tram in the list and no group marked RED_LOST. -/
def Obligations.PassedTransitionIsAccepted : Prop :=
  ∀ (role : Role) (terminate release : List GroupId) (s : State), (role = .plan ∨ role = .central) →
    let params := byte terminate.length :: (terminate ++ release).map groupByte
    Answerable role params s → s.mode = .normal → s.commit ≠ .waitingApply → (∀ k, tram s k = none) →
    (∀ g, (grp s g).redLost = false) → FinishLaw s →
    terminate ++ release ≠ [] → (terminate ++ release).Nodup →
    (∀ g ∈ terminate ++ release, used s g = true) →
    (∀ i ∈ release, ∀ j ∈ release, conflicts s i j = false) →
    (∀ g ∈ release, (grp s g).inhibited = false) → Covered s terminate release → RoomFor s →
    ∃ t k r, exec (.transition role params) s = .next t ∧ slot t k = some r ∧
      (∀ j q, slot s j = some q → q.id ≠ r.id) ∧
      (link t role).slot = .ready { code := .accepted, data := [r.id] } false ∧
      (link t role).seen = true ∧ r.cls = (if role = .central then TClass.central else TClass.plan) ∧
      r.origin = .role role ∧ r.acceptedAt = s.now ∧
      (∀ g, inSet .terminate r g = decide (g ∈ terminate)) ∧
      (∀ g, inSet .release r g = decide (g ∈ release)) ∧ t.acceptCounter = r.id + 1#8 ∧
      ∀ j q, slot s j = some q → isLive q = true → ∃ q', slot t j = some q' ∧ q'.id = q.id

/-- A TRANSITION that releases one red group of a quiet junction: the record is ACTIVE at once and claims the
group, which enters RED_WAIT and is scheduled at the latest term of R28, with S the prepare time before it
(R10, R28, R44, R45, R48). For stamps no older than R8 keeps them. -/
def Obligations.AcceptedReleaseIsScheduled : Prop :=
  ∀ (role : Role) (g : GroupId) (s : State), (role = .plan ∨ role = .central) → Quiet s →
    s.mode = .normal → FinishLaw s → Answerable role [0#8, groupByte g] s → used s g = true →
    (grp s g).state = .red → (grp s g).schedule = none →
    (grp s g).inhibited = false → conflicts s g g = false →
    (∀ h, (grp s h).claim = none ∧ (grp s h).pendingTerm = none) →
    (∀ i, conflicts s i g = true → inProceed s i = false ∧ (grp s i).redLost = false) →
    (∀ i e, (grp s i).greenEnd = some e → age s.now e ≤ 65535) →
    (∀ r, (grp s g).redEntry = some r → age s.now r ≤ 65535) →
    ∃ t k r sch, exec (.transition role [0#8, groupByte g]) s = .next t ∧ slot t k = some r ∧
      r.state = .active ∧ (link t role).slot = .ready { code := .accepted, data := [r.id] } false ∧
      grp t g =
        { grp s g with
          state := .redWait
          enteredAt := s.now
          claim := some { id := r.id, kind := .release }
          schedule := some sch } ∧
      (∀ h, h ≠ g → grp t h = grp s h) ∧ IsGreenTerm s g sch.t ∧
      (∀ x, IsGreenTerm s g x → atOrAfter sch.t x = true) ∧
      sch.s = sch.t - BitVec.ofNat 32 (prepareIn (cfg s) g)

/-- CANCEL_TRANSITION: an id of no live record is refused with REFUSED_PARAM; a record of another origin, but for
CENTRAL over class PLAN, with REFUSED_ROLE; otherwise the record is CANCELLED at now with its cause, its claims
are withdrawn, and a RED_WAIT group of its returns to RED. For the one live record of a junction with no tram
(R16, R41, R52, R54). -/
def Obligations.CancelEndsALiveTransition : Prop :=
  ∀ (role : Role) (id : Byte) (s : State), (role = .plan ∨ role = .central) → Answerable role [id] s →
    ((∀ k r, slot s k = some r → isLive r = true → r.id ≠ id) →
      ∃ t, exec (.cancelTransition role [id]) s = .next t ∧ Replied role (plain .refusedParam) s t) ∧
    ∀ k r, slot s k = some r → isLive r = true → r.id = id →
      (∀ j q, j ≠ k → slot s j = some q → isLive q = false) →
      (r.origin ≠ .role role → ¬ (r.cls = .plan ∧ role = .central) →
        ∃ t, exec (.cancelTransition role [id]) s = .next t ∧ Replied role (plain .refusedRole) s t) ∧
      ((r.origin = .role role ∨ (r.cls = .plan ∧ role = .central)) → r.cls ≠ .tram → s.mode ≠ .clearing →
        s.commit ≠ .waitingApply → (∀ j, tram s j = none) →
        ∃ t, exec (.cancelTransition role [id]) s = .next t ∧ Holds role (plain .done) t ∧
          slot t k =
            some
              { r with
                state := .cancelled
                finishedAt := some s.now
                endCause := some (if r.origin = .role role then .originCancel else .centralCancel) } ∧
          (∀ j, j ≠ k → slot t j = slot s j) ∧
          (r.state = .active →
            ∀ g, named r g = true → ∀ c, (grp s g).claim = some c → c.id = id →
              (grp t g).claim = none ∧
              ((grp s g).state = .redWait → (grp t g).state = .red ∧ (grp t g).schedule = none) ∧
              ((grp s g).state ≠ .redWait → (grp t g).state = (grp s g).state)) ∧
          (∀ origin, r.origin = .role origin → origin ≠ role → (link s origin).seen = true →
            hasNotice t origin .transition = true))

/-! ### The mode table -/

/-- MODE, by the mode wanted and the mode it meets: the refusals, the requests that change nothing, START from
DARK and FLASH, DARK and FLASH from one another and from START, and CLEARING from NORMAL, which ends at once when
every used group is red already (R60, R61, R63 to R65). -/
def Obligations.ModeFollowsItsTable : Prop :=
  ∀ (role : Role) (b : Byte) (s : State), role ≠ .tramnet → Answerable role [b] s →
    let replies := fun (c : ReplyCode) (u : State) =>
      ∃ t, exec (.mode role [b]) s = .next t ∧ Replied role (plain c) u t
    let rests := fun (m : Mode) =>
      ∃ t, exec (.mode role [b]) s = .next t ∧ Holds role (plain .done) t ∧ t.mode = m ∧
        t.modeEnteredAt = s.now ∧ t.startPhase = none ∧ t.clearTarget = none ∧
        (∀ g, used s g = true → (grp t g).state = .dark) ∧ SeenHave .mode s t
    (b ≠ 0#8 → b ≠ 1#8 → b ≠ 3#8 → replies .refusedParam s) ∧
    (b = 3#8 →
      (s.mode = .clearing ∨ s.mode = .lockout → replies .refusedMode s) ∧
      (s.mode = .start ∨ s.mode = .normal → replies .done s) ∧
      (s.mode = .dark ∨ s.mode = .flash → s.active = none → replies .refusedMode s) ∧
      (s.mode = .dark ∨ s.mode = .flash → s.active.isSome = true → s.commit ≠ .waitingApply →
        ∃ t, exec (.mode role [b]) s = .next t ∧ Holds role (plain .done) t ∧ t.mode = .start ∧
          t.modeEnteredAt = s.now ∧ t.startPhase = some (.flashPhase, s.now) ∧ SeenHave .mode s t)) ∧
    ∀ target, b = targetByte target →
      let m := match target with | .dark => Mode.dark | .flash => Mode.flash
      (s.mode = .lockout → replies .refusedMode s) ∧
      (s.mode = .clearing → replies .done { s with clearTarget := some target }) ∧
      (s.mode = m → replies .done s) ∧
      (s.mode ≠ m → (s.mode = .dark ∨ s.mode = .flash ∨ s.mode = .start) → s.commit ≠ .waitingApply →
        rests m) ∧
      (s.mode = .normal → Quiet s →
        ((∀ g, used s g = true → (grp s g).state = .red ∨ (grp s g).state = .redMin) → rests m) ∧
        ((∃ g, used s g = true ∧ (grp s g).state ≠ .red ∧ (grp s g).state ≠ .redMin) →
          ∃ t, exec (.mode role [b]) s = .next t ∧ Holds role (plain .done) t ∧ t.mode = .clearing ∧
            t.modeEnteredAt = s.now ∧ t.clearTarget = some target ∧ t.supervision = none ∧
            SeenHave .mode s t ∧
            ∀ g, used s g = true →
              ((grp s g).state = .green →
                (grp t g).state = .clear ∧ (grp t g).greenEnd = some s.now) ∧
              ((grp s g).state = .prepare ∨ (grp s g).state = .greenMin →
                grp t g = { grp s g with pendingTerm := some .junction }) ∧
              ((grp s g).state = .red ∨ (grp s g).state = .redMin ∨ (grp s g).state = .clear →
                grp t g = grp s g)))

/-! ### SERVICE's requests -/

/-- WRITE_CONFIG writes whole records of one section into the staging image and nothing else, or is refused with
REFUSED_PARAM; DISCARD_STAGING takes the staging image back to the active one, or to the default image;
READ_CONFIG answers the records of an image, and is refused with REFUSED_STATE when no image is active (R158,
R165, R166). That READ_CONFIG takes every count but 0, also one past the section's last record, is the model's reading
(log 17). -/
def Obligations.StagingIsWrittenAndRead : Prop :=
  (∀ (code i1 i0 : Byte) (bs : List Byte) (s : State), Answerable .service (code :: i1 :: i0 :: bs) s →
      let exec' := exec (.writeConfig .service (code :: i1 :: i0 :: bs)) s
      (sectionOfCode code = none →
        ∃ t, exec' = .next t ∧ Replied .service (plain .refusedParam) s t) ∧
      ∀ sec, sectionOfCode code = some sec →
        let first := (word16 i1 i0).toNat
        let m := bs.length / recordBytes sec
        (bs = [] ∨ bs.length % recordBytes sec ≠ 0 ∨ sectionSize sec < first + m →
          ∃ t, exec' = .next t ∧ Replied .service (plain .refusedParam) s t) ∧
        (bs ≠ [] → bs.length % recordBytes sec = 0 → first + m ≤ sectionSize sec →
          ∃ t, exec' = .next t ∧ Replied .service (plain .done) { s with staging := t.staging } t ∧
            ∀ sec' i,
              readRecord t.staging sec' i =
                if sec' = sec ∧ first ≤ i ∧ i < first + m then
                  (bs.drop ((i - first) * recordBytes sec)).take (recordBytes sec)
                else readRecord s.staging sec' i)) ∧
    (∀ s : State, Answerable .service [] s →
      ∃ t, exec (.discardStaging .service []) s = .next t ∧
        Replied .service (plain .done) { s with staging := s.active.getD defaultImage } t) ∧
    ∀ (code i1 i0 count : Byte) (sec : Section) (s : State), sectionOfCode code = some sec →
      (word16 i1 i0).toNat < sectionSize sec → count ≠ 0#8 →
      Answerable .service [0#8, code, i1, i0, count] s →
      let first := (word16 i1 i0).toNat
      let records := fun (img : Image) =>
        readReplyOf s
          (((List.range' first count.toNat).filter fun i => i < sectionSize sec).map (readRecord img sec))
      (∃ t, exec (.readConfig .service [1#8, code, i1, i0, count]) s = .next t ∧
        Replied .service (records s.staging) s t) ∧
      (∀ img, s.active = some img →
        ∃ t, exec (.readConfig .service [0#8, code, i1, i0, count]) s = .next t ∧
          Replied .service (records img) s t) ∧
      (s.active = none →
        ∃ t, exec (.readConfig .service [0#8, code, i1, i0, count]) s = .next t ∧
          Replied .service (plain .refusedState) s t)

/-- COMMIT_CONFIG of a staging image that fails a check is answered CONFIG_INVALID with the check and the index;
of a valid one it is PENDING: applied at once in DARK, FLASH and LOCKOUT, and held while a group in START, NORMAL
or CLEARING is not red. An image is valid when every record passes its check. STORE_WRITE_END answers DONE when
the store reads back as written, otherwise STORE_FAILED (R167, R168, R169, R170). Two clauses are the model's
choices: STORE_WRITE_END carries what the store holds when it differs from what was written (log 24), and outside
STORING it changes nothing (log 1). -/
def Obligations.CommitValidatesAppliesAndStores : Prop :=
  (∀ s : State, Answerable .service [] s →
      (∀ code index, validate s.staging = some (code, index) →
        ∃ t, exec (.commitConfig .service []) s = .next t ∧
          Replied .service { code := .configInvalid, data := [checkByte code] ++ num16 index } s t) ∧
      (validate s.staging = none →
        (s.mode = .dark ∨ s.mode = .flash ∨ s.mode = .lockout →
          ∃ t, exec (.commitConfig .service []) s = .next t ∧ t.active = some s.staging ∧
            t.staging = s.staging ∧ t.commit = .storing ∧ t.mode = s.mode ∧
            (link t .service).slot = .pending ∧
            ∀ g, used s g = true → used t g = false →
              (grp t g).state = .dark ∧ (grp t g).demand = none) ∧
        (s.mode ≠ .dark → s.mode ≠ .flash → s.mode ≠ .lockout →
          (∃ g, used s g = true ∧ (grp s g).state ≠ .red ∧ (grp s g).state ≠ .redMin ∧
            (grp s g).state ≠ .dark) →
          ∃ t, exec (.commitConfig .service []) s = .next t ∧
            Replied .service (plain .pending) { s with commit := .waitingApply } t))) ∧
    (∀ img, validate img = none ↔
      (∀ i, checkJunction img i = none) ∧ (∀ g, checkGroup img g = none) ∧
      (∀ i j, checkEntry img i j = none) ∧ (∀ ch, checkLoop img ch = none) ∧
      (∀ i, checkInput img i = none) ∧ (∀ b, checkBeacon img b = none) ∧ (∀ i, checkRoute img i = none) ∧
      ∀ i, checkLine img i = none) ∧
    ∀ (held : Option Store) (s : State),
      (∀ img, s.commit = .storing → s.active = some img →
        let holds := held.getD (.holds img (crc16 (imageBytes img)))
        ∃ t, exec (.storeWriteEnd held) s = .next t ∧ t.store = holds ∧ t.commit = .idle ∧
          (link t .service).slot =
            .ready (plain (if holds = .holds img (crc16 (imageBytes img)) then .done else .storeFailed)) true ∧
          ((link s .service).seen = true → hasNotice t .service .reply = true) ∧
          t = { s with store := t.store, commit := t.commit, links := t.links }) ∧
      (s.commit ≠ .storing → exec (.storeWriteEnd held) s = .next s)

/-- CLEAR_LOCKOUT begins its check in LOCKOUT with a PENDING slot, and is refused with REFUSED_MODE elsewhere.
CLEAR_LAMP_FAULTS clears the flags, the fault sets and the mismatch times of the groups it names, of all 24 for
an empty list, in a junction with no live transition; a bad list is refused (R71, R85). -/
def Obligations.ServiceClearsLockoutAndFaults : Prop :=
  (∀ s : State, Answerable .service [] s →
      ∃ t, exec (.clearLockout .service []) s = .next t ∧
        (s.mode = .lockout →
          Replied .service (plain .pending)
            { s with lockoutCheck := some { beganAt := s.now, samples := 0 } } t) ∧
        (s.mode ≠ .lockout → Replied .service (plain .refusedMode) s t)) ∧
    (∀ (bs : List Byte) (s : State), Answerable .service bs s →
      ((∃ b ∈ bs, b.toNat = 0 ∨ 24 < b.toNat) ∨ ¬ bs.Nodup) →
      ∃ t, exec (.clearLampFaults .service bs) s = .next t ∧
        Replied .service (plain .refusedParam) s t) ∧
    ∀ (gs : List GroupId) (s : State), Quiet s → Answerable .service (gs.map groupByte) s → gs.Nodup →
      ∃ t, exec (.clearLampFaults .service (gs.map groupByte)) s = .next t ∧
        Replied .service (plain .done) { s with groups := t.groups, lamps := t.lamps } t ∧
        ∀ g,
          (gs = [] ∨ g ∈ gs →
            grp t g =
              { grp s g with
                redLost := false
                faults := { bOut := false, cOut := false, aStuck := false, bStuck := false } } ∧
            ∀ which, circuit (lamp t g) which =
              { circuit (lamp s g) which with
                onMismatch := { time := 0, handed := false }, offMismatch := { time := 0, handed := false } }) ∧
          (gs ≠ [] → g ∉ gs → grp t g = grp s g ∧ lamp t g = lamp s g)

/-- CLEAR_COUNTS is answered DONE in every mode, sets the counts it names to 0, and changes nothing else but for its
own reply (R162). Where that reply discards one that came from a PENDING request, the REPLY kind leaves SERVICE's
notice set (R154, read with R162 as log 30 deduces). -/
def Obligations.ClearCountsZeroesTheCounters : Prop :=
  ∀ s : State, Answerable .service [] s →
    ∃ t, exec (.clearCounts .service []) s = .next t ∧ Holds .service (plain .done) t ∧
      (∀ r, (link t r).counts = zeroLinkCounts) ∧
      (∀ r, r ≠ .service → link t r = { link s r with counts := zeroLinkCounts }) ∧
      (∀ n, n ≠ .reply → hasNotice t .service n = hasNotice s .service n) ∧
      (hasNotice t .service .reply =
        match (link s .service).slot with
        | .ready _ true => false
        | _ => hasNotice s .service .reply) ∧
      t.beacon = { s.beacon with counts := zeroBeaconCounts } ∧
      (∀ a, look t.tramStats a = zeroTramStats) ∧ t.tramDrops = zeroTramDrops ∧
      (∀ ch, channel t ch = { channel s ch with vehicles := 0#16 }) ∧
      (∀ i, inputRec t i = { inputRec s i with activations := 0#16 }) ∧
      t = { s with links := t.links, beacon := t.beacon, tramStats := t.tramStats, tramDrops := t.tramDrops,
                   channels := t.channels, inputs := t.inputs }

/-! ### Laws of the device -/

/-- The reset state meets the laws of the device that the statements below say every step keeps. -/
def Obligations.ResetMeetsTheLaws : Prop :=
  ModeLaw State.reset ∧ ConfigLaw State.reset ∧ LampLaw State.reset ∧ UnusedLaw State.reset ∧
    TableLaws State.reset ∧ ReleaseLaws State.reset

/-- Every step keeps START, NORMAL and CLEARING to a junction with an active image; and the active image,
and the one a commit waits to apply, stay validated, with SERVICE's slot PENDING for the commit and for the
CLEAR_LOCKOUT check (R61, R71, R168). -/
def Obligations.StepsKeepTheModeAndConfigLaws : Prop :=
  ∀ s t : State, step s = .next t → (ModeLaw s → ModeLaw t) ∧ (ConfigLaw s → ConfigLaw t)

/-- Every step keeps every lamp circuit under the command that the table of R74 gives it (R74, R75). -/
def Obligations.StepsKeepTheLampLaw : Prop := ∀ s t : State, LampLaw s → step s = .next t → LampLaw t

/-- Every step keeps an UNUSED group DARK (R3, R18). -/
def Obligations.StepsKeepUnusedGroupsDark : Prop := ∀ s t : State, UnusedLaw s → step s = .next t → UnusedLaw t

/-- Every step keeps the laws of the tables: the finish order, at most six live card records, no two tram records
of one number and approach, notices for seen roles only, and shifts and baselines within their ranges (R35, R38,
R98, R133, R159). -/
def Obligations.StepsKeepTheTableLaws : Prop := ∀ s t : State, TableLaws s → step s = .next t → TableLaws t

/-- LOCKOUT is left by a CLEAR_LOCKOUT check that passes and by a power-on reset only (R70). -/
def Obligations.LockoutStaysUntilCleared : Prop :=
  ∀ (c : Instr) (s t : State), s.mode = .lockout → exec c s = .next t →
    (∀ pins, c ≠ .powerOnReset pins) → (c = .clearLockoutCheckPasses → checkPassed s = false) →
    t.mode = .lockout

/-- Every step keeps the release laws: no two groups that the active matrix marks as conflicting are in proceed
together, a group scheduled in RED_WAIT has no conflicting group in proceed, and the releases of ACTIVE records do not
conflict (R31, R44, R48); a configuration apply included (R24). From states that meet the laws of the configuration,
of UNUSED groups and of the finish order as well. -/
def Obligations.ConflictingGroupsNeverProceedTogether : Prop :=
  ∀ s t : State, ConfigLaw s → UnusedLaw s → FinishLaw s → ReleaseLaws s → step s = .next t → ReleaseLaws t
end

