-- ==== Sys2Proof/Laws/State.lean ====
section
/-! SUPPORT. The fields of the state after each named update: one lemma per field per update, true by
definition, so that no proof unfolds a record update. -/

namespace Sys2Proof.Machine

open Sys2Proof

variable (s : State)

/-! ### modGroup -/

@[simp] theorem modGroup_pending (g : GroupId) (f : GroupRec → GroupRec) : (modGroup g f s).pending = s.pending := rfl
@[simp] theorem modGroup_work (g : GroupId) (f : GroupRec → GroupRec) : (modGroup g f s).work = s.work := rfl
@[simp] theorem modGroup_order (g : GroupId) (f : GroupRec → GroupRec) : (modGroup g f s).order = s.order := rfl
@[simp] theorem modGroup_now (g : GroupId) (f : GroupRec → GroupRec) : (modGroup g f s).now = s.now := rfl
@[simp] theorem modGroup_flash (g : GroupId) (f : GroupRec → GroupRec) : (modGroup g f s).flash = s.flash := rfl
@[simp] theorem modGroup_slots (g : GroupId) (f : GroupRec → GroupRec) : (modGroup g f s).slots = s.slots := rfl
@[simp] theorem modGroup_finishOrder (g : GroupId) (f : GroupRec → GroupRec) : (modGroup g f s).finishOrder = s.finishOrder := rfl
@[simp] theorem modGroup_acceptOrder (g : GroupId) (f : GroupRec → GroupRec) : (modGroup g f s).acceptOrder = s.acceptOrder := rfl
@[simp] theorem modGroup_acceptCounter (g : GroupId) (f : GroupRec → GroupRec) : (modGroup g f s).acceptCounter = s.acceptCounter := rfl
@[simp] theorem modGroup_mode (g : GroupId) (f : GroupRec → GroupRec) : (modGroup g f s).mode = s.mode := rfl
@[simp] theorem modGroup_modeEnteredAt (g : GroupId) (f : GroupRec → GroupRec) : (modGroup g f s).modeEnteredAt = s.modeEnteredAt := rfl
@[simp] theorem modGroup_startPhase (g : GroupId) (f : GroupRec → GroupRec) : (modGroup g f s).startPhase = s.startPhase := rfl
@[simp] theorem modGroup_clearTarget (g : GroupId) (f : GroupRec → GroupRec) : (modGroup g f s).clearTarget = s.clearTarget := rfl
@[simp] theorem modGroup_supervision (g : GroupId) (f : GroupRec → GroupRec) : (modGroup g f s).supervision = s.supervision := rfl
@[simp] theorem modGroup_lockoutCause (g : GroupId) (f : GroupRec → GroupRec) : (modGroup g f s).lockoutCause = s.lockoutCause := rfl
@[simp] theorem modGroup_lockoutCheck (g : GroupId) (f : GroupRec → GroupRec) : (modGroup g f s).lockoutCheck = s.lockoutCheck := rfl
@[simp] theorem modGroup_autostartDue (g : GroupId) (f : GroupRec → GroupRec) : (modGroup g f s).autostartDue = s.autostartDue := rfl
@[simp] theorem modGroup_lamps (g : GroupId) (f : GroupRec → GroupRec) : (modGroup g f s).lamps = s.lamps := rfl
@[simp] theorem modGroup_engines (g : GroupId) (f : GroupRec → GroupRec) : (modGroup g f s).engines = s.engines := rfl
@[simp] theorem modGroup_trackedAt (g : GroupId) (f : GroupRec → GroupRec) : (modGroup g f s).trackedAt = s.trackedAt := rfl
@[simp] theorem modGroup_channels (g : GroupId) (f : GroupRec → GroupRec) : (modGroup g f s).channels = s.channels := rfl
@[simp] theorem modGroup_inputs (g : GroupId) (f : GroupRec → GroupRec) : (modGroup g f s).inputs = s.inputs := rfl
@[simp] theorem modGroup_beacon (g : GroupId) (f : GroupRec → GroupRec) : (modGroup g f s).beacon = s.beacon := rfl
@[simp] theorem modGroup_trams (g : GroupId) (f : GroupRec → GroupRec) : (modGroup g f s).trams = s.trams := rfl
@[simp] theorem modGroup_tramStats (g : GroupId) (f : GroupRec → GroupRec) : (modGroup g f s).tramStats = s.tramStats := rfl
@[simp] theorem modGroup_tramDrops (g : GroupId) (f : GroupRec → GroupRec) : (modGroup g f s).tramDrops = s.tramDrops := rfl
@[simp] theorem modGroup_links (g : GroupId) (f : GroupRec → GroupRec) : (modGroup g f s).links = s.links := rfl
@[simp] theorem modGroup_active (g : GroupId) (f : GroupRec → GroupRec) : (modGroup g f s).active = s.active := rfl
@[simp] theorem modGroup_staging (g : GroupId) (f : GroupRec → GroupRec) : (modGroup g f s).staging = s.staging := rfl
@[simp] theorem modGroup_commit (g : GroupId) (f : GroupRec → GroupRec) : (modGroup g f s).commit = s.commit := rfl
@[simp] theorem modGroup_store (g : GroupId) (f : GroupRec → GroupRec) : (modGroup g f s).store = s.store := rfl
@[simp] theorem modGroup_straps (g : GroupId) (f : GroupRec → GroupRec) : (modGroup g f s).straps = s.straps := rfl
@[simp] theorem modGroup_resetCause (g : GroupId) (f : GroupRec → GroupRec) : (modGroup g f s).resetCause = s.resetCause := rfl
@[simp] theorem modGroup_replyLine (g : GroupId) (f : GroupRec → GroupRec) : (modGroup g f s).replyLine = s.replyLine := rfl

/-! ### modSlot -/

@[simp] theorem modSlot_pending (k : SlotId) (f : TransRec → TransRec) : (modSlot k f s).pending = s.pending := rfl
@[simp] theorem modSlot_work (k : SlotId) (f : TransRec → TransRec) : (modSlot k f s).work = s.work := rfl
@[simp] theorem modSlot_order (k : SlotId) (f : TransRec → TransRec) : (modSlot k f s).order = s.order := rfl
@[simp] theorem modSlot_now (k : SlotId) (f : TransRec → TransRec) : (modSlot k f s).now = s.now := rfl
@[simp] theorem modSlot_flash (k : SlotId) (f : TransRec → TransRec) : (modSlot k f s).flash = s.flash := rfl
@[simp] theorem modSlot_groups (k : SlotId) (f : TransRec → TransRec) : (modSlot k f s).groups = s.groups := rfl
@[simp] theorem modSlot_finishOrder (k : SlotId) (f : TransRec → TransRec) : (modSlot k f s).finishOrder = s.finishOrder := rfl
@[simp] theorem modSlot_acceptOrder (k : SlotId) (f : TransRec → TransRec) : (modSlot k f s).acceptOrder = s.acceptOrder := rfl
@[simp] theorem modSlot_acceptCounter (k : SlotId) (f : TransRec → TransRec) : (modSlot k f s).acceptCounter = s.acceptCounter := rfl
@[simp] theorem modSlot_mode (k : SlotId) (f : TransRec → TransRec) : (modSlot k f s).mode = s.mode := rfl
@[simp] theorem modSlot_modeEnteredAt (k : SlotId) (f : TransRec → TransRec) : (modSlot k f s).modeEnteredAt = s.modeEnteredAt := rfl
@[simp] theorem modSlot_startPhase (k : SlotId) (f : TransRec → TransRec) : (modSlot k f s).startPhase = s.startPhase := rfl
@[simp] theorem modSlot_clearTarget (k : SlotId) (f : TransRec → TransRec) : (modSlot k f s).clearTarget = s.clearTarget := rfl
@[simp] theorem modSlot_supervision (k : SlotId) (f : TransRec → TransRec) : (modSlot k f s).supervision = s.supervision := rfl
@[simp] theorem modSlot_lockoutCause (k : SlotId) (f : TransRec → TransRec) : (modSlot k f s).lockoutCause = s.lockoutCause := rfl
@[simp] theorem modSlot_lockoutCheck (k : SlotId) (f : TransRec → TransRec) : (modSlot k f s).lockoutCheck = s.lockoutCheck := rfl
@[simp] theorem modSlot_autostartDue (k : SlotId) (f : TransRec → TransRec) : (modSlot k f s).autostartDue = s.autostartDue := rfl
@[simp] theorem modSlot_lamps (k : SlotId) (f : TransRec → TransRec) : (modSlot k f s).lamps = s.lamps := rfl
@[simp] theorem modSlot_engines (k : SlotId) (f : TransRec → TransRec) : (modSlot k f s).engines = s.engines := rfl
@[simp] theorem modSlot_trackedAt (k : SlotId) (f : TransRec → TransRec) : (modSlot k f s).trackedAt = s.trackedAt := rfl
@[simp] theorem modSlot_channels (k : SlotId) (f : TransRec → TransRec) : (modSlot k f s).channels = s.channels := rfl
@[simp] theorem modSlot_inputs (k : SlotId) (f : TransRec → TransRec) : (modSlot k f s).inputs = s.inputs := rfl
@[simp] theorem modSlot_beacon (k : SlotId) (f : TransRec → TransRec) : (modSlot k f s).beacon = s.beacon := rfl
@[simp] theorem modSlot_trams (k : SlotId) (f : TransRec → TransRec) : (modSlot k f s).trams = s.trams := rfl
@[simp] theorem modSlot_tramStats (k : SlotId) (f : TransRec → TransRec) : (modSlot k f s).tramStats = s.tramStats := rfl
@[simp] theorem modSlot_tramDrops (k : SlotId) (f : TransRec → TransRec) : (modSlot k f s).tramDrops = s.tramDrops := rfl
@[simp] theorem modSlot_links (k : SlotId) (f : TransRec → TransRec) : (modSlot k f s).links = s.links := rfl
@[simp] theorem modSlot_active (k : SlotId) (f : TransRec → TransRec) : (modSlot k f s).active = s.active := rfl
@[simp] theorem modSlot_staging (k : SlotId) (f : TransRec → TransRec) : (modSlot k f s).staging = s.staging := rfl
@[simp] theorem modSlot_commit (k : SlotId) (f : TransRec → TransRec) : (modSlot k f s).commit = s.commit := rfl
@[simp] theorem modSlot_store (k : SlotId) (f : TransRec → TransRec) : (modSlot k f s).store = s.store := rfl
@[simp] theorem modSlot_straps (k : SlotId) (f : TransRec → TransRec) : (modSlot k f s).straps = s.straps := rfl
@[simp] theorem modSlot_resetCause (k : SlotId) (f : TransRec → TransRec) : (modSlot k f s).resetCause = s.resetCause := rfl
@[simp] theorem modSlot_replyLine (k : SlotId) (f : TransRec → TransRec) : (modSlot k f s).replyLine = s.replyLine := rfl

/-! ### modLamps -/

@[simp] theorem modLamps_pending (g : GroupId) (f : Lamps → Lamps) : (modLamps g f s).pending = s.pending := rfl
@[simp] theorem modLamps_work (g : GroupId) (f : Lamps → Lamps) : (modLamps g f s).work = s.work := rfl
@[simp] theorem modLamps_order (g : GroupId) (f : Lamps → Lamps) : (modLamps g f s).order = s.order := rfl
@[simp] theorem modLamps_now (g : GroupId) (f : Lamps → Lamps) : (modLamps g f s).now = s.now := rfl
@[simp] theorem modLamps_flash (g : GroupId) (f : Lamps → Lamps) : (modLamps g f s).flash = s.flash := rfl
@[simp] theorem modLamps_groups (g : GroupId) (f : Lamps → Lamps) : (modLamps g f s).groups = s.groups := rfl
@[simp] theorem modLamps_slots (g : GroupId) (f : Lamps → Lamps) : (modLamps g f s).slots = s.slots := rfl
@[simp] theorem modLamps_finishOrder (g : GroupId) (f : Lamps → Lamps) : (modLamps g f s).finishOrder = s.finishOrder := rfl
@[simp] theorem modLamps_acceptOrder (g : GroupId) (f : Lamps → Lamps) : (modLamps g f s).acceptOrder = s.acceptOrder := rfl
@[simp] theorem modLamps_acceptCounter (g : GroupId) (f : Lamps → Lamps) : (modLamps g f s).acceptCounter = s.acceptCounter := rfl
@[simp] theorem modLamps_mode (g : GroupId) (f : Lamps → Lamps) : (modLamps g f s).mode = s.mode := rfl
@[simp] theorem modLamps_modeEnteredAt (g : GroupId) (f : Lamps → Lamps) : (modLamps g f s).modeEnteredAt = s.modeEnteredAt := rfl
@[simp] theorem modLamps_startPhase (g : GroupId) (f : Lamps → Lamps) : (modLamps g f s).startPhase = s.startPhase := rfl
@[simp] theorem modLamps_clearTarget (g : GroupId) (f : Lamps → Lamps) : (modLamps g f s).clearTarget = s.clearTarget := rfl
@[simp] theorem modLamps_supervision (g : GroupId) (f : Lamps → Lamps) : (modLamps g f s).supervision = s.supervision := rfl
@[simp] theorem modLamps_lockoutCause (g : GroupId) (f : Lamps → Lamps) : (modLamps g f s).lockoutCause = s.lockoutCause := rfl
@[simp] theorem modLamps_lockoutCheck (g : GroupId) (f : Lamps → Lamps) : (modLamps g f s).lockoutCheck = s.lockoutCheck := rfl
@[simp] theorem modLamps_autostartDue (g : GroupId) (f : Lamps → Lamps) : (modLamps g f s).autostartDue = s.autostartDue := rfl
@[simp] theorem modLamps_engines (g : GroupId) (f : Lamps → Lamps) : (modLamps g f s).engines = s.engines := rfl
@[simp] theorem modLamps_trackedAt (g : GroupId) (f : Lamps → Lamps) : (modLamps g f s).trackedAt = s.trackedAt := rfl
@[simp] theorem modLamps_channels (g : GroupId) (f : Lamps → Lamps) : (modLamps g f s).channels = s.channels := rfl
@[simp] theorem modLamps_inputs (g : GroupId) (f : Lamps → Lamps) : (modLamps g f s).inputs = s.inputs := rfl
@[simp] theorem modLamps_beacon (g : GroupId) (f : Lamps → Lamps) : (modLamps g f s).beacon = s.beacon := rfl
@[simp] theorem modLamps_trams (g : GroupId) (f : Lamps → Lamps) : (modLamps g f s).trams = s.trams := rfl
@[simp] theorem modLamps_tramStats (g : GroupId) (f : Lamps → Lamps) : (modLamps g f s).tramStats = s.tramStats := rfl
@[simp] theorem modLamps_tramDrops (g : GroupId) (f : Lamps → Lamps) : (modLamps g f s).tramDrops = s.tramDrops := rfl
@[simp] theorem modLamps_links (g : GroupId) (f : Lamps → Lamps) : (modLamps g f s).links = s.links := rfl
@[simp] theorem modLamps_active (g : GroupId) (f : Lamps → Lamps) : (modLamps g f s).active = s.active := rfl
@[simp] theorem modLamps_staging (g : GroupId) (f : Lamps → Lamps) : (modLamps g f s).staging = s.staging := rfl
@[simp] theorem modLamps_commit (g : GroupId) (f : Lamps → Lamps) : (modLamps g f s).commit = s.commit := rfl
@[simp] theorem modLamps_store (g : GroupId) (f : Lamps → Lamps) : (modLamps g f s).store = s.store := rfl
@[simp] theorem modLamps_straps (g : GroupId) (f : Lamps → Lamps) : (modLamps g f s).straps = s.straps := rfl
@[simp] theorem modLamps_resetCause (g : GroupId) (f : Lamps → Lamps) : (modLamps g f s).resetCause = s.resetCause := rfl
@[simp] theorem modLamps_replyLine (g : GroupId) (f : Lamps → Lamps) : (modLamps g f s).replyLine = s.replyLine := rfl

/-! ### modChannel -/

@[simp] theorem modChannel_pending (ch : ChannelId) (f : ChannelRec → ChannelRec) : (modChannel ch f s).pending = s.pending := rfl
@[simp] theorem modChannel_work (ch : ChannelId) (f : ChannelRec → ChannelRec) : (modChannel ch f s).work = s.work := rfl
@[simp] theorem modChannel_order (ch : ChannelId) (f : ChannelRec → ChannelRec) : (modChannel ch f s).order = s.order := rfl
@[simp] theorem modChannel_now (ch : ChannelId) (f : ChannelRec → ChannelRec) : (modChannel ch f s).now = s.now := rfl
@[simp] theorem modChannel_flash (ch : ChannelId) (f : ChannelRec → ChannelRec) : (modChannel ch f s).flash = s.flash := rfl
@[simp] theorem modChannel_groups (ch : ChannelId) (f : ChannelRec → ChannelRec) : (modChannel ch f s).groups = s.groups := rfl
@[simp] theorem modChannel_slots (ch : ChannelId) (f : ChannelRec → ChannelRec) : (modChannel ch f s).slots = s.slots := rfl
@[simp] theorem modChannel_finishOrder (ch : ChannelId) (f : ChannelRec → ChannelRec) : (modChannel ch f s).finishOrder = s.finishOrder := rfl
@[simp] theorem modChannel_acceptOrder (ch : ChannelId) (f : ChannelRec → ChannelRec) : (modChannel ch f s).acceptOrder = s.acceptOrder := rfl
@[simp] theorem modChannel_acceptCounter (ch : ChannelId) (f : ChannelRec → ChannelRec) : (modChannel ch f s).acceptCounter = s.acceptCounter := rfl
@[simp] theorem modChannel_mode (ch : ChannelId) (f : ChannelRec → ChannelRec) : (modChannel ch f s).mode = s.mode := rfl
@[simp] theorem modChannel_modeEnteredAt (ch : ChannelId) (f : ChannelRec → ChannelRec) : (modChannel ch f s).modeEnteredAt = s.modeEnteredAt := rfl
@[simp] theorem modChannel_startPhase (ch : ChannelId) (f : ChannelRec → ChannelRec) : (modChannel ch f s).startPhase = s.startPhase := rfl
@[simp] theorem modChannel_clearTarget (ch : ChannelId) (f : ChannelRec → ChannelRec) : (modChannel ch f s).clearTarget = s.clearTarget := rfl
@[simp] theorem modChannel_supervision (ch : ChannelId) (f : ChannelRec → ChannelRec) : (modChannel ch f s).supervision = s.supervision := rfl
@[simp] theorem modChannel_lockoutCause (ch : ChannelId) (f : ChannelRec → ChannelRec) : (modChannel ch f s).lockoutCause = s.lockoutCause := rfl
@[simp] theorem modChannel_lockoutCheck (ch : ChannelId) (f : ChannelRec → ChannelRec) : (modChannel ch f s).lockoutCheck = s.lockoutCheck := rfl
@[simp] theorem modChannel_autostartDue (ch : ChannelId) (f : ChannelRec → ChannelRec) : (modChannel ch f s).autostartDue = s.autostartDue := rfl
@[simp] theorem modChannel_lamps (ch : ChannelId) (f : ChannelRec → ChannelRec) : (modChannel ch f s).lamps = s.lamps := rfl
@[simp] theorem modChannel_engines (ch : ChannelId) (f : ChannelRec → ChannelRec) : (modChannel ch f s).engines = s.engines := rfl
@[simp] theorem modChannel_trackedAt (ch : ChannelId) (f : ChannelRec → ChannelRec) : (modChannel ch f s).trackedAt = s.trackedAt := rfl
@[simp] theorem modChannel_inputs (ch : ChannelId) (f : ChannelRec → ChannelRec) : (modChannel ch f s).inputs = s.inputs := rfl
@[simp] theorem modChannel_beacon (ch : ChannelId) (f : ChannelRec → ChannelRec) : (modChannel ch f s).beacon = s.beacon := rfl
@[simp] theorem modChannel_trams (ch : ChannelId) (f : ChannelRec → ChannelRec) : (modChannel ch f s).trams = s.trams := rfl
@[simp] theorem modChannel_tramStats (ch : ChannelId) (f : ChannelRec → ChannelRec) : (modChannel ch f s).tramStats = s.tramStats := rfl
@[simp] theorem modChannel_tramDrops (ch : ChannelId) (f : ChannelRec → ChannelRec) : (modChannel ch f s).tramDrops = s.tramDrops := rfl
@[simp] theorem modChannel_links (ch : ChannelId) (f : ChannelRec → ChannelRec) : (modChannel ch f s).links = s.links := rfl
@[simp] theorem modChannel_active (ch : ChannelId) (f : ChannelRec → ChannelRec) : (modChannel ch f s).active = s.active := rfl
@[simp] theorem modChannel_staging (ch : ChannelId) (f : ChannelRec → ChannelRec) : (modChannel ch f s).staging = s.staging := rfl
@[simp] theorem modChannel_commit (ch : ChannelId) (f : ChannelRec → ChannelRec) : (modChannel ch f s).commit = s.commit := rfl
@[simp] theorem modChannel_store (ch : ChannelId) (f : ChannelRec → ChannelRec) : (modChannel ch f s).store = s.store := rfl
@[simp] theorem modChannel_straps (ch : ChannelId) (f : ChannelRec → ChannelRec) : (modChannel ch f s).straps = s.straps := rfl
@[simp] theorem modChannel_resetCause (ch : ChannelId) (f : ChannelRec → ChannelRec) : (modChannel ch f s).resetCause = s.resetCause := rfl
@[simp] theorem modChannel_replyLine (ch : ChannelId) (f : ChannelRec → ChannelRec) : (modChannel ch f s).replyLine = s.replyLine := rfl

/-! ### modInput -/

@[simp] theorem modInput_pending (i : InputId) (f : InputRec → InputRec) : (modInput i f s).pending = s.pending := rfl
@[simp] theorem modInput_work (i : InputId) (f : InputRec → InputRec) : (modInput i f s).work = s.work := rfl
@[simp] theorem modInput_order (i : InputId) (f : InputRec → InputRec) : (modInput i f s).order = s.order := rfl
@[simp] theorem modInput_now (i : InputId) (f : InputRec → InputRec) : (modInput i f s).now = s.now := rfl
@[simp] theorem modInput_flash (i : InputId) (f : InputRec → InputRec) : (modInput i f s).flash = s.flash := rfl
@[simp] theorem modInput_groups (i : InputId) (f : InputRec → InputRec) : (modInput i f s).groups = s.groups := rfl
@[simp] theorem modInput_slots (i : InputId) (f : InputRec → InputRec) : (modInput i f s).slots = s.slots := rfl
@[simp] theorem modInput_finishOrder (i : InputId) (f : InputRec → InputRec) : (modInput i f s).finishOrder = s.finishOrder := rfl
@[simp] theorem modInput_acceptOrder (i : InputId) (f : InputRec → InputRec) : (modInput i f s).acceptOrder = s.acceptOrder := rfl
@[simp] theorem modInput_acceptCounter (i : InputId) (f : InputRec → InputRec) : (modInput i f s).acceptCounter = s.acceptCounter := rfl
@[simp] theorem modInput_mode (i : InputId) (f : InputRec → InputRec) : (modInput i f s).mode = s.mode := rfl
@[simp] theorem modInput_modeEnteredAt (i : InputId) (f : InputRec → InputRec) : (modInput i f s).modeEnteredAt = s.modeEnteredAt := rfl
@[simp] theorem modInput_startPhase (i : InputId) (f : InputRec → InputRec) : (modInput i f s).startPhase = s.startPhase := rfl
@[simp] theorem modInput_clearTarget (i : InputId) (f : InputRec → InputRec) : (modInput i f s).clearTarget = s.clearTarget := rfl
@[simp] theorem modInput_supervision (i : InputId) (f : InputRec → InputRec) : (modInput i f s).supervision = s.supervision := rfl
@[simp] theorem modInput_lockoutCause (i : InputId) (f : InputRec → InputRec) : (modInput i f s).lockoutCause = s.lockoutCause := rfl
@[simp] theorem modInput_lockoutCheck (i : InputId) (f : InputRec → InputRec) : (modInput i f s).lockoutCheck = s.lockoutCheck := rfl
@[simp] theorem modInput_autostartDue (i : InputId) (f : InputRec → InputRec) : (modInput i f s).autostartDue = s.autostartDue := rfl
@[simp] theorem modInput_lamps (i : InputId) (f : InputRec → InputRec) : (modInput i f s).lamps = s.lamps := rfl
@[simp] theorem modInput_engines (i : InputId) (f : InputRec → InputRec) : (modInput i f s).engines = s.engines := rfl
@[simp] theorem modInput_trackedAt (i : InputId) (f : InputRec → InputRec) : (modInput i f s).trackedAt = s.trackedAt := rfl
@[simp] theorem modInput_channels (i : InputId) (f : InputRec → InputRec) : (modInput i f s).channels = s.channels := rfl
@[simp] theorem modInput_beacon (i : InputId) (f : InputRec → InputRec) : (modInput i f s).beacon = s.beacon := rfl
@[simp] theorem modInput_trams (i : InputId) (f : InputRec → InputRec) : (modInput i f s).trams = s.trams := rfl
@[simp] theorem modInput_tramStats (i : InputId) (f : InputRec → InputRec) : (modInput i f s).tramStats = s.tramStats := rfl
@[simp] theorem modInput_tramDrops (i : InputId) (f : InputRec → InputRec) : (modInput i f s).tramDrops = s.tramDrops := rfl
@[simp] theorem modInput_links (i : InputId) (f : InputRec → InputRec) : (modInput i f s).links = s.links := rfl
@[simp] theorem modInput_active (i : InputId) (f : InputRec → InputRec) : (modInput i f s).active = s.active := rfl
@[simp] theorem modInput_staging (i : InputId) (f : InputRec → InputRec) : (modInput i f s).staging = s.staging := rfl
@[simp] theorem modInput_commit (i : InputId) (f : InputRec → InputRec) : (modInput i f s).commit = s.commit := rfl
@[simp] theorem modInput_store (i : InputId) (f : InputRec → InputRec) : (modInput i f s).store = s.store := rfl
@[simp] theorem modInput_straps (i : InputId) (f : InputRec → InputRec) : (modInput i f s).straps = s.straps := rfl
@[simp] theorem modInput_resetCause (i : InputId) (f : InputRec → InputRec) : (modInput i f s).resetCause = s.resetCause := rfl
@[simp] theorem modInput_replyLine (i : InputId) (f : InputRec → InputRec) : (modInput i f s).replyLine = s.replyLine := rfl

/-! ### modTram -/

@[simp] theorem modTram_pending (k : EntryId) (f : TramRec → TramRec) : (modTram k f s).pending = s.pending := rfl
@[simp] theorem modTram_work (k : EntryId) (f : TramRec → TramRec) : (modTram k f s).work = s.work := rfl
@[simp] theorem modTram_order (k : EntryId) (f : TramRec → TramRec) : (modTram k f s).order = s.order := rfl
@[simp] theorem modTram_now (k : EntryId) (f : TramRec → TramRec) : (modTram k f s).now = s.now := rfl
@[simp] theorem modTram_flash (k : EntryId) (f : TramRec → TramRec) : (modTram k f s).flash = s.flash := rfl
@[simp] theorem modTram_groups (k : EntryId) (f : TramRec → TramRec) : (modTram k f s).groups = s.groups := rfl
@[simp] theorem modTram_slots (k : EntryId) (f : TramRec → TramRec) : (modTram k f s).slots = s.slots := rfl
@[simp] theorem modTram_finishOrder (k : EntryId) (f : TramRec → TramRec) : (modTram k f s).finishOrder = s.finishOrder := rfl
@[simp] theorem modTram_acceptOrder (k : EntryId) (f : TramRec → TramRec) : (modTram k f s).acceptOrder = s.acceptOrder := rfl
@[simp] theorem modTram_acceptCounter (k : EntryId) (f : TramRec → TramRec) : (modTram k f s).acceptCounter = s.acceptCounter := rfl
@[simp] theorem modTram_mode (k : EntryId) (f : TramRec → TramRec) : (modTram k f s).mode = s.mode := rfl
@[simp] theorem modTram_modeEnteredAt (k : EntryId) (f : TramRec → TramRec) : (modTram k f s).modeEnteredAt = s.modeEnteredAt := rfl
@[simp] theorem modTram_startPhase (k : EntryId) (f : TramRec → TramRec) : (modTram k f s).startPhase = s.startPhase := rfl
@[simp] theorem modTram_clearTarget (k : EntryId) (f : TramRec → TramRec) : (modTram k f s).clearTarget = s.clearTarget := rfl
@[simp] theorem modTram_supervision (k : EntryId) (f : TramRec → TramRec) : (modTram k f s).supervision = s.supervision := rfl
@[simp] theorem modTram_lockoutCause (k : EntryId) (f : TramRec → TramRec) : (modTram k f s).lockoutCause = s.lockoutCause := rfl
@[simp] theorem modTram_lockoutCheck (k : EntryId) (f : TramRec → TramRec) : (modTram k f s).lockoutCheck = s.lockoutCheck := rfl
@[simp] theorem modTram_autostartDue (k : EntryId) (f : TramRec → TramRec) : (modTram k f s).autostartDue = s.autostartDue := rfl
@[simp] theorem modTram_lamps (k : EntryId) (f : TramRec → TramRec) : (modTram k f s).lamps = s.lamps := rfl
@[simp] theorem modTram_engines (k : EntryId) (f : TramRec → TramRec) : (modTram k f s).engines = s.engines := rfl
@[simp] theorem modTram_trackedAt (k : EntryId) (f : TramRec → TramRec) : (modTram k f s).trackedAt = s.trackedAt := rfl
@[simp] theorem modTram_channels (k : EntryId) (f : TramRec → TramRec) : (modTram k f s).channels = s.channels := rfl
@[simp] theorem modTram_inputs (k : EntryId) (f : TramRec → TramRec) : (modTram k f s).inputs = s.inputs := rfl
@[simp] theorem modTram_beacon (k : EntryId) (f : TramRec → TramRec) : (modTram k f s).beacon = s.beacon := rfl
@[simp] theorem modTram_tramStats (k : EntryId) (f : TramRec → TramRec) : (modTram k f s).tramStats = s.tramStats := rfl
@[simp] theorem modTram_tramDrops (k : EntryId) (f : TramRec → TramRec) : (modTram k f s).tramDrops = s.tramDrops := rfl
@[simp] theorem modTram_links (k : EntryId) (f : TramRec → TramRec) : (modTram k f s).links = s.links := rfl
@[simp] theorem modTram_active (k : EntryId) (f : TramRec → TramRec) : (modTram k f s).active = s.active := rfl
@[simp] theorem modTram_staging (k : EntryId) (f : TramRec → TramRec) : (modTram k f s).staging = s.staging := rfl
@[simp] theorem modTram_commit (k : EntryId) (f : TramRec → TramRec) : (modTram k f s).commit = s.commit := rfl
@[simp] theorem modTram_store (k : EntryId) (f : TramRec → TramRec) : (modTram k f s).store = s.store := rfl
@[simp] theorem modTram_straps (k : EntryId) (f : TramRec → TramRec) : (modTram k f s).straps = s.straps := rfl
@[simp] theorem modTram_resetCause (k : EntryId) (f : TramRec → TramRec) : (modTram k f s).resetCause = s.resetCause := rfl
@[simp] theorem modTram_replyLine (k : EntryId) (f : TramRec → TramRec) : (modTram k f s).replyLine = s.replyLine := rfl

/-! ### modStats -/

@[simp] theorem modStats_pending (a : ApproachId) (f : TramStats → TramStats) : (modStats a f s).pending = s.pending := rfl
@[simp] theorem modStats_work (a : ApproachId) (f : TramStats → TramStats) : (modStats a f s).work = s.work := rfl
@[simp] theorem modStats_order (a : ApproachId) (f : TramStats → TramStats) : (modStats a f s).order = s.order := rfl
@[simp] theorem modStats_now (a : ApproachId) (f : TramStats → TramStats) : (modStats a f s).now = s.now := rfl
@[simp] theorem modStats_flash (a : ApproachId) (f : TramStats → TramStats) : (modStats a f s).flash = s.flash := rfl
@[simp] theorem modStats_groups (a : ApproachId) (f : TramStats → TramStats) : (modStats a f s).groups = s.groups := rfl
@[simp] theorem modStats_slots (a : ApproachId) (f : TramStats → TramStats) : (modStats a f s).slots = s.slots := rfl
@[simp] theorem modStats_finishOrder (a : ApproachId) (f : TramStats → TramStats) : (modStats a f s).finishOrder = s.finishOrder := rfl
@[simp] theorem modStats_acceptOrder (a : ApproachId) (f : TramStats → TramStats) : (modStats a f s).acceptOrder = s.acceptOrder := rfl
@[simp] theorem modStats_acceptCounter (a : ApproachId) (f : TramStats → TramStats) : (modStats a f s).acceptCounter = s.acceptCounter := rfl
@[simp] theorem modStats_mode (a : ApproachId) (f : TramStats → TramStats) : (modStats a f s).mode = s.mode := rfl
@[simp] theorem modStats_modeEnteredAt (a : ApproachId) (f : TramStats → TramStats) : (modStats a f s).modeEnteredAt = s.modeEnteredAt := rfl
@[simp] theorem modStats_startPhase (a : ApproachId) (f : TramStats → TramStats) : (modStats a f s).startPhase = s.startPhase := rfl
@[simp] theorem modStats_clearTarget (a : ApproachId) (f : TramStats → TramStats) : (modStats a f s).clearTarget = s.clearTarget := rfl
@[simp] theorem modStats_supervision (a : ApproachId) (f : TramStats → TramStats) : (modStats a f s).supervision = s.supervision := rfl
@[simp] theorem modStats_lockoutCause (a : ApproachId) (f : TramStats → TramStats) : (modStats a f s).lockoutCause = s.lockoutCause := rfl
@[simp] theorem modStats_lockoutCheck (a : ApproachId) (f : TramStats → TramStats) : (modStats a f s).lockoutCheck = s.lockoutCheck := rfl
@[simp] theorem modStats_autostartDue (a : ApproachId) (f : TramStats → TramStats) : (modStats a f s).autostartDue = s.autostartDue := rfl
@[simp] theorem modStats_lamps (a : ApproachId) (f : TramStats → TramStats) : (modStats a f s).lamps = s.lamps := rfl
@[simp] theorem modStats_engines (a : ApproachId) (f : TramStats → TramStats) : (modStats a f s).engines = s.engines := rfl
@[simp] theorem modStats_trackedAt (a : ApproachId) (f : TramStats → TramStats) : (modStats a f s).trackedAt = s.trackedAt := rfl
@[simp] theorem modStats_channels (a : ApproachId) (f : TramStats → TramStats) : (modStats a f s).channels = s.channels := rfl
@[simp] theorem modStats_inputs (a : ApproachId) (f : TramStats → TramStats) : (modStats a f s).inputs = s.inputs := rfl
@[simp] theorem modStats_beacon (a : ApproachId) (f : TramStats → TramStats) : (modStats a f s).beacon = s.beacon := rfl
@[simp] theorem modStats_trams (a : ApproachId) (f : TramStats → TramStats) : (modStats a f s).trams = s.trams := rfl
@[simp] theorem modStats_tramDrops (a : ApproachId) (f : TramStats → TramStats) : (modStats a f s).tramDrops = s.tramDrops := rfl
@[simp] theorem modStats_links (a : ApproachId) (f : TramStats → TramStats) : (modStats a f s).links = s.links := rfl
@[simp] theorem modStats_active (a : ApproachId) (f : TramStats → TramStats) : (modStats a f s).active = s.active := rfl
@[simp] theorem modStats_staging (a : ApproachId) (f : TramStats → TramStats) : (modStats a f s).staging = s.staging := rfl
@[simp] theorem modStats_commit (a : ApproachId) (f : TramStats → TramStats) : (modStats a f s).commit = s.commit := rfl
@[simp] theorem modStats_store (a : ApproachId) (f : TramStats → TramStats) : (modStats a f s).store = s.store := rfl
@[simp] theorem modStats_straps (a : ApproachId) (f : TramStats → TramStats) : (modStats a f s).straps = s.straps := rfl
@[simp] theorem modStats_resetCause (a : ApproachId) (f : TramStats → TramStats) : (modStats a f s).resetCause = s.resetCause := rfl
@[simp] theorem modStats_replyLine (a : ApproachId) (f : TramStats → TramStats) : (modStats a f s).replyLine = s.replyLine := rfl

/-! ### modLink -/

@[simp] theorem modLink_pending (r : Role) (f : LinkRec → LinkRec) : (modLink r f s).pending = s.pending := rfl
@[simp] theorem modLink_work (r : Role) (f : LinkRec → LinkRec) : (modLink r f s).work = s.work := rfl
@[simp] theorem modLink_order (r : Role) (f : LinkRec → LinkRec) : (modLink r f s).order = s.order := rfl
@[simp] theorem modLink_now (r : Role) (f : LinkRec → LinkRec) : (modLink r f s).now = s.now := rfl
@[simp] theorem modLink_flash (r : Role) (f : LinkRec → LinkRec) : (modLink r f s).flash = s.flash := rfl
@[simp] theorem modLink_groups (r : Role) (f : LinkRec → LinkRec) : (modLink r f s).groups = s.groups := rfl
@[simp] theorem modLink_slots (r : Role) (f : LinkRec → LinkRec) : (modLink r f s).slots = s.slots := rfl
@[simp] theorem modLink_finishOrder (r : Role) (f : LinkRec → LinkRec) : (modLink r f s).finishOrder = s.finishOrder := rfl
@[simp] theorem modLink_acceptOrder (r : Role) (f : LinkRec → LinkRec) : (modLink r f s).acceptOrder = s.acceptOrder := rfl
@[simp] theorem modLink_acceptCounter (r : Role) (f : LinkRec → LinkRec) : (modLink r f s).acceptCounter = s.acceptCounter := rfl
@[simp] theorem modLink_mode (r : Role) (f : LinkRec → LinkRec) : (modLink r f s).mode = s.mode := rfl
@[simp] theorem modLink_modeEnteredAt (r : Role) (f : LinkRec → LinkRec) : (modLink r f s).modeEnteredAt = s.modeEnteredAt := rfl
@[simp] theorem modLink_startPhase (r : Role) (f : LinkRec → LinkRec) : (modLink r f s).startPhase = s.startPhase := rfl
@[simp] theorem modLink_clearTarget (r : Role) (f : LinkRec → LinkRec) : (modLink r f s).clearTarget = s.clearTarget := rfl
@[simp] theorem modLink_supervision (r : Role) (f : LinkRec → LinkRec) : (modLink r f s).supervision = s.supervision := rfl
@[simp] theorem modLink_lockoutCause (r : Role) (f : LinkRec → LinkRec) : (modLink r f s).lockoutCause = s.lockoutCause := rfl
@[simp] theorem modLink_lockoutCheck (r : Role) (f : LinkRec → LinkRec) : (modLink r f s).lockoutCheck = s.lockoutCheck := rfl
@[simp] theorem modLink_autostartDue (r : Role) (f : LinkRec → LinkRec) : (modLink r f s).autostartDue = s.autostartDue := rfl
@[simp] theorem modLink_lamps (r : Role) (f : LinkRec → LinkRec) : (modLink r f s).lamps = s.lamps := rfl
@[simp] theorem modLink_engines (r : Role) (f : LinkRec → LinkRec) : (modLink r f s).engines = s.engines := rfl
@[simp] theorem modLink_trackedAt (r : Role) (f : LinkRec → LinkRec) : (modLink r f s).trackedAt = s.trackedAt := rfl
@[simp] theorem modLink_channels (r : Role) (f : LinkRec → LinkRec) : (modLink r f s).channels = s.channels := rfl
@[simp] theorem modLink_inputs (r : Role) (f : LinkRec → LinkRec) : (modLink r f s).inputs = s.inputs := rfl
@[simp] theorem modLink_beacon (r : Role) (f : LinkRec → LinkRec) : (modLink r f s).beacon = s.beacon := rfl
@[simp] theorem modLink_trams (r : Role) (f : LinkRec → LinkRec) : (modLink r f s).trams = s.trams := rfl
@[simp] theorem modLink_tramStats (r : Role) (f : LinkRec → LinkRec) : (modLink r f s).tramStats = s.tramStats := rfl
@[simp] theorem modLink_tramDrops (r : Role) (f : LinkRec → LinkRec) : (modLink r f s).tramDrops = s.tramDrops := rfl
@[simp] theorem modLink_active (r : Role) (f : LinkRec → LinkRec) : (modLink r f s).active = s.active := rfl
@[simp] theorem modLink_staging (r : Role) (f : LinkRec → LinkRec) : (modLink r f s).staging = s.staging := rfl
@[simp] theorem modLink_commit (r : Role) (f : LinkRec → LinkRec) : (modLink r f s).commit = s.commit := rfl
@[simp] theorem modLink_store (r : Role) (f : LinkRec → LinkRec) : (modLink r f s).store = s.store := rfl
@[simp] theorem modLink_straps (r : Role) (f : LinkRec → LinkRec) : (modLink r f s).straps = s.straps := rfl
@[simp] theorem modLink_resetCause (r : Role) (f : LinkRec → LinkRec) : (modLink r f s).resetCause = s.resetCause := rfl
@[simp] theorem modLink_replyLine (r : Role) (f : LinkRec → LinkRec) : (modLink r f s).replyLine = s.replyLine := rfl

/-! ### modBeacon -/

@[simp] theorem modBeacon_pending (f : BeaconRec → BeaconRec) : (modBeacon f s).pending = s.pending := rfl
@[simp] theorem modBeacon_work (f : BeaconRec → BeaconRec) : (modBeacon f s).work = s.work := rfl
@[simp] theorem modBeacon_order (f : BeaconRec → BeaconRec) : (modBeacon f s).order = s.order := rfl
@[simp] theorem modBeacon_now (f : BeaconRec → BeaconRec) : (modBeacon f s).now = s.now := rfl
@[simp] theorem modBeacon_flash (f : BeaconRec → BeaconRec) : (modBeacon f s).flash = s.flash := rfl
@[simp] theorem modBeacon_groups (f : BeaconRec → BeaconRec) : (modBeacon f s).groups = s.groups := rfl
@[simp] theorem modBeacon_slots (f : BeaconRec → BeaconRec) : (modBeacon f s).slots = s.slots := rfl
@[simp] theorem modBeacon_finishOrder (f : BeaconRec → BeaconRec) : (modBeacon f s).finishOrder = s.finishOrder := rfl
@[simp] theorem modBeacon_acceptOrder (f : BeaconRec → BeaconRec) : (modBeacon f s).acceptOrder = s.acceptOrder := rfl
@[simp] theorem modBeacon_acceptCounter (f : BeaconRec → BeaconRec) : (modBeacon f s).acceptCounter = s.acceptCounter := rfl
@[simp] theorem modBeacon_mode (f : BeaconRec → BeaconRec) : (modBeacon f s).mode = s.mode := rfl
@[simp] theorem modBeacon_modeEnteredAt (f : BeaconRec → BeaconRec) : (modBeacon f s).modeEnteredAt = s.modeEnteredAt := rfl
@[simp] theorem modBeacon_startPhase (f : BeaconRec → BeaconRec) : (modBeacon f s).startPhase = s.startPhase := rfl
@[simp] theorem modBeacon_clearTarget (f : BeaconRec → BeaconRec) : (modBeacon f s).clearTarget = s.clearTarget := rfl
@[simp] theorem modBeacon_supervision (f : BeaconRec → BeaconRec) : (modBeacon f s).supervision = s.supervision := rfl
@[simp] theorem modBeacon_lockoutCause (f : BeaconRec → BeaconRec) : (modBeacon f s).lockoutCause = s.lockoutCause := rfl
@[simp] theorem modBeacon_lockoutCheck (f : BeaconRec → BeaconRec) : (modBeacon f s).lockoutCheck = s.lockoutCheck := rfl
@[simp] theorem modBeacon_autostartDue (f : BeaconRec → BeaconRec) : (modBeacon f s).autostartDue = s.autostartDue := rfl
@[simp] theorem modBeacon_lamps (f : BeaconRec → BeaconRec) : (modBeacon f s).lamps = s.lamps := rfl
@[simp] theorem modBeacon_engines (f : BeaconRec → BeaconRec) : (modBeacon f s).engines = s.engines := rfl
@[simp] theorem modBeacon_trackedAt (f : BeaconRec → BeaconRec) : (modBeacon f s).trackedAt = s.trackedAt := rfl
@[simp] theorem modBeacon_channels (f : BeaconRec → BeaconRec) : (modBeacon f s).channels = s.channels := rfl
@[simp] theorem modBeacon_inputs (f : BeaconRec → BeaconRec) : (modBeacon f s).inputs = s.inputs := rfl
@[simp] theorem modBeacon_trams (f : BeaconRec → BeaconRec) : (modBeacon f s).trams = s.trams := rfl
@[simp] theorem modBeacon_tramStats (f : BeaconRec → BeaconRec) : (modBeacon f s).tramStats = s.tramStats := rfl
@[simp] theorem modBeacon_tramDrops (f : BeaconRec → BeaconRec) : (modBeacon f s).tramDrops = s.tramDrops := rfl
@[simp] theorem modBeacon_links (f : BeaconRec → BeaconRec) : (modBeacon f s).links = s.links := rfl
@[simp] theorem modBeacon_active (f : BeaconRec → BeaconRec) : (modBeacon f s).active = s.active := rfl
@[simp] theorem modBeacon_staging (f : BeaconRec → BeaconRec) : (modBeacon f s).staging = s.staging := rfl
@[simp] theorem modBeacon_commit (f : BeaconRec → BeaconRec) : (modBeacon f s).commit = s.commit := rfl
@[simp] theorem modBeacon_store (f : BeaconRec → BeaconRec) : (modBeacon f s).store = s.store := rfl
@[simp] theorem modBeacon_straps (f : BeaconRec → BeaconRec) : (modBeacon f s).straps = s.straps := rfl
@[simp] theorem modBeacon_resetCause (f : BeaconRec → BeaconRec) : (modBeacon f s).resetCause = s.resetCause := rfl
@[simp] theorem modBeacon_replyLine (f : BeaconRec → BeaconRec) : (modBeacon f s).replyLine = s.replyLine := rfl

/-! ### setEngine -/

@[simp] theorem setEngine_pending (e : EngineId) (k : Option (Fin 4)) : (setEngine e k s).pending = s.pending := rfl
@[simp] theorem setEngine_work (e : EngineId) (k : Option (Fin 4)) : (setEngine e k s).work = s.work := rfl
@[simp] theorem setEngine_order (e : EngineId) (k : Option (Fin 4)) : (setEngine e k s).order = s.order := rfl
@[simp] theorem setEngine_now (e : EngineId) (k : Option (Fin 4)) : (setEngine e k s).now = s.now := rfl
@[simp] theorem setEngine_flash (e : EngineId) (k : Option (Fin 4)) : (setEngine e k s).flash = s.flash := rfl
@[simp] theorem setEngine_groups (e : EngineId) (k : Option (Fin 4)) : (setEngine e k s).groups = s.groups := rfl
@[simp] theorem setEngine_slots (e : EngineId) (k : Option (Fin 4)) : (setEngine e k s).slots = s.slots := rfl
@[simp] theorem setEngine_finishOrder (e : EngineId) (k : Option (Fin 4)) : (setEngine e k s).finishOrder = s.finishOrder := rfl
@[simp] theorem setEngine_acceptOrder (e : EngineId) (k : Option (Fin 4)) : (setEngine e k s).acceptOrder = s.acceptOrder := rfl
@[simp] theorem setEngine_acceptCounter (e : EngineId) (k : Option (Fin 4)) : (setEngine e k s).acceptCounter = s.acceptCounter := rfl
@[simp] theorem setEngine_mode (e : EngineId) (k : Option (Fin 4)) : (setEngine e k s).mode = s.mode := rfl
@[simp] theorem setEngine_modeEnteredAt (e : EngineId) (k : Option (Fin 4)) : (setEngine e k s).modeEnteredAt = s.modeEnteredAt := rfl
@[simp] theorem setEngine_startPhase (e : EngineId) (k : Option (Fin 4)) : (setEngine e k s).startPhase = s.startPhase := rfl
@[simp] theorem setEngine_clearTarget (e : EngineId) (k : Option (Fin 4)) : (setEngine e k s).clearTarget = s.clearTarget := rfl
@[simp] theorem setEngine_supervision (e : EngineId) (k : Option (Fin 4)) : (setEngine e k s).supervision = s.supervision := rfl
@[simp] theorem setEngine_lockoutCause (e : EngineId) (k : Option (Fin 4)) : (setEngine e k s).lockoutCause = s.lockoutCause := rfl
@[simp] theorem setEngine_lockoutCheck (e : EngineId) (k : Option (Fin 4)) : (setEngine e k s).lockoutCheck = s.lockoutCheck := rfl
@[simp] theorem setEngine_autostartDue (e : EngineId) (k : Option (Fin 4)) : (setEngine e k s).autostartDue = s.autostartDue := rfl
@[simp] theorem setEngine_lamps (e : EngineId) (k : Option (Fin 4)) : (setEngine e k s).lamps = s.lamps := rfl
@[simp] theorem setEngine_trackedAt (e : EngineId) (k : Option (Fin 4)) : (setEngine e k s).trackedAt = s.trackedAt := rfl
@[simp] theorem setEngine_channels (e : EngineId) (k : Option (Fin 4)) : (setEngine e k s).channels = s.channels := rfl
@[simp] theorem setEngine_inputs (e : EngineId) (k : Option (Fin 4)) : (setEngine e k s).inputs = s.inputs := rfl
@[simp] theorem setEngine_beacon (e : EngineId) (k : Option (Fin 4)) : (setEngine e k s).beacon = s.beacon := rfl
@[simp] theorem setEngine_trams (e : EngineId) (k : Option (Fin 4)) : (setEngine e k s).trams = s.trams := rfl
@[simp] theorem setEngine_tramStats (e : EngineId) (k : Option (Fin 4)) : (setEngine e k s).tramStats = s.tramStats := rfl
@[simp] theorem setEngine_tramDrops (e : EngineId) (k : Option (Fin 4)) : (setEngine e k s).tramDrops = s.tramDrops := rfl
@[simp] theorem setEngine_links (e : EngineId) (k : Option (Fin 4)) : (setEngine e k s).links = s.links := rfl
@[simp] theorem setEngine_active (e : EngineId) (k : Option (Fin 4)) : (setEngine e k s).active = s.active := rfl
@[simp] theorem setEngine_staging (e : EngineId) (k : Option (Fin 4)) : (setEngine e k s).staging = s.staging := rfl
@[simp] theorem setEngine_commit (e : EngineId) (k : Option (Fin 4)) : (setEngine e k s).commit = s.commit := rfl
@[simp] theorem setEngine_store (e : EngineId) (k : Option (Fin 4)) : (setEngine e k s).store = s.store := rfl
@[simp] theorem setEngine_straps (e : EngineId) (k : Option (Fin 4)) : (setEngine e k s).straps = s.straps := rfl
@[simp] theorem setEngine_resetCause (e : EngineId) (k : Option (Fin 4)) : (setEngine e k s).resetCause = s.resetCause := rfl
@[simp] theorem setEngine_replyLine (e : EngineId) (k : Option (Fin 4)) : (setEngine e k s).replyLine = s.replyLine := rfl

/-! ### emit -/

@[simp] theorem emit_pending (h : Handoff) : (emit h s).pending = s.pending := rfl
@[simp] theorem emit_order (h : Handoff) : (emit h s).order = s.order := rfl
@[simp] theorem emit_now (h : Handoff) : (emit h s).now = s.now := rfl
@[simp] theorem emit_flash (h : Handoff) : (emit h s).flash = s.flash := rfl
@[simp] theorem emit_groups (h : Handoff) : (emit h s).groups = s.groups := rfl
@[simp] theorem emit_slots (h : Handoff) : (emit h s).slots = s.slots := rfl
@[simp] theorem emit_finishOrder (h : Handoff) : (emit h s).finishOrder = s.finishOrder := rfl
@[simp] theorem emit_acceptOrder (h : Handoff) : (emit h s).acceptOrder = s.acceptOrder := rfl
@[simp] theorem emit_acceptCounter (h : Handoff) : (emit h s).acceptCounter = s.acceptCounter := rfl
@[simp] theorem emit_mode (h : Handoff) : (emit h s).mode = s.mode := rfl
@[simp] theorem emit_modeEnteredAt (h : Handoff) : (emit h s).modeEnteredAt = s.modeEnteredAt := rfl
@[simp] theorem emit_startPhase (h : Handoff) : (emit h s).startPhase = s.startPhase := rfl
@[simp] theorem emit_clearTarget (h : Handoff) : (emit h s).clearTarget = s.clearTarget := rfl
@[simp] theorem emit_supervision (h : Handoff) : (emit h s).supervision = s.supervision := rfl
@[simp] theorem emit_lockoutCause (h : Handoff) : (emit h s).lockoutCause = s.lockoutCause := rfl
@[simp] theorem emit_lockoutCheck (h : Handoff) : (emit h s).lockoutCheck = s.lockoutCheck := rfl
@[simp] theorem emit_autostartDue (h : Handoff) : (emit h s).autostartDue = s.autostartDue := rfl
@[simp] theorem emit_lamps (h : Handoff) : (emit h s).lamps = s.lamps := rfl
@[simp] theorem emit_engines (h : Handoff) : (emit h s).engines = s.engines := rfl
@[simp] theorem emit_trackedAt (h : Handoff) : (emit h s).trackedAt = s.trackedAt := rfl
@[simp] theorem emit_channels (h : Handoff) : (emit h s).channels = s.channels := rfl
@[simp] theorem emit_inputs (h : Handoff) : (emit h s).inputs = s.inputs := rfl
@[simp] theorem emit_beacon (h : Handoff) : (emit h s).beacon = s.beacon := rfl
@[simp] theorem emit_trams (h : Handoff) : (emit h s).trams = s.trams := rfl
@[simp] theorem emit_tramStats (h : Handoff) : (emit h s).tramStats = s.tramStats := rfl
@[simp] theorem emit_tramDrops (h : Handoff) : (emit h s).tramDrops = s.tramDrops := rfl
@[simp] theorem emit_links (h : Handoff) : (emit h s).links = s.links := rfl
@[simp] theorem emit_active (h : Handoff) : (emit h s).active = s.active := rfl
@[simp] theorem emit_staging (h : Handoff) : (emit h s).staging = s.staging := rfl
@[simp] theorem emit_commit (h : Handoff) : (emit h s).commit = s.commit := rfl
@[simp] theorem emit_store (h : Handoff) : (emit h s).store = s.store := rfl
@[simp] theorem emit_straps (h : Handoff) : (emit h s).straps = s.straps := rfl
@[simp] theorem emit_resetCause (h : Handoff) : (emit h s).resetCause = s.resetCause := rfl
@[simp] theorem emit_replyLine (h : Handoff) : (emit h s).replyLine = s.replyLine := rfl

/-! ### emitAll -/

@[simp] theorem emitAll_pending (hs : List Handoff) : (emitAll hs s).pending = s.pending := rfl
@[simp] theorem emitAll_order (hs : List Handoff) : (emitAll hs s).order = s.order := rfl
@[simp] theorem emitAll_now (hs : List Handoff) : (emitAll hs s).now = s.now := rfl
@[simp] theorem emitAll_flash (hs : List Handoff) : (emitAll hs s).flash = s.flash := rfl
@[simp] theorem emitAll_groups (hs : List Handoff) : (emitAll hs s).groups = s.groups := rfl
@[simp] theorem emitAll_slots (hs : List Handoff) : (emitAll hs s).slots = s.slots := rfl
@[simp] theorem emitAll_finishOrder (hs : List Handoff) : (emitAll hs s).finishOrder = s.finishOrder := rfl
@[simp] theorem emitAll_acceptOrder (hs : List Handoff) : (emitAll hs s).acceptOrder = s.acceptOrder := rfl
@[simp] theorem emitAll_acceptCounter (hs : List Handoff) : (emitAll hs s).acceptCounter = s.acceptCounter := rfl
@[simp] theorem emitAll_mode (hs : List Handoff) : (emitAll hs s).mode = s.mode := rfl
@[simp] theorem emitAll_modeEnteredAt (hs : List Handoff) : (emitAll hs s).modeEnteredAt = s.modeEnteredAt := rfl
@[simp] theorem emitAll_startPhase (hs : List Handoff) : (emitAll hs s).startPhase = s.startPhase := rfl
@[simp] theorem emitAll_clearTarget (hs : List Handoff) : (emitAll hs s).clearTarget = s.clearTarget := rfl
@[simp] theorem emitAll_supervision (hs : List Handoff) : (emitAll hs s).supervision = s.supervision := rfl
@[simp] theorem emitAll_lockoutCause (hs : List Handoff) : (emitAll hs s).lockoutCause = s.lockoutCause := rfl
@[simp] theorem emitAll_lockoutCheck (hs : List Handoff) : (emitAll hs s).lockoutCheck = s.lockoutCheck := rfl
@[simp] theorem emitAll_autostartDue (hs : List Handoff) : (emitAll hs s).autostartDue = s.autostartDue := rfl
@[simp] theorem emitAll_lamps (hs : List Handoff) : (emitAll hs s).lamps = s.lamps := rfl
@[simp] theorem emitAll_engines (hs : List Handoff) : (emitAll hs s).engines = s.engines := rfl
@[simp] theorem emitAll_trackedAt (hs : List Handoff) : (emitAll hs s).trackedAt = s.trackedAt := rfl
@[simp] theorem emitAll_channels (hs : List Handoff) : (emitAll hs s).channels = s.channels := rfl
@[simp] theorem emitAll_inputs (hs : List Handoff) : (emitAll hs s).inputs = s.inputs := rfl
@[simp] theorem emitAll_beacon (hs : List Handoff) : (emitAll hs s).beacon = s.beacon := rfl
@[simp] theorem emitAll_trams (hs : List Handoff) : (emitAll hs s).trams = s.trams := rfl
@[simp] theorem emitAll_tramStats (hs : List Handoff) : (emitAll hs s).tramStats = s.tramStats := rfl
@[simp] theorem emitAll_tramDrops (hs : List Handoff) : (emitAll hs s).tramDrops = s.tramDrops := rfl
@[simp] theorem emitAll_links (hs : List Handoff) : (emitAll hs s).links = s.links := rfl
@[simp] theorem emitAll_active (hs : List Handoff) : (emitAll hs s).active = s.active := rfl
@[simp] theorem emitAll_staging (hs : List Handoff) : (emitAll hs s).staging = s.staging := rfl
@[simp] theorem emitAll_commit (hs : List Handoff) : (emitAll hs s).commit = s.commit := rfl
@[simp] theorem emitAll_store (hs : List Handoff) : (emitAll hs s).store = s.store := rfl
@[simp] theorem emitAll_straps (hs : List Handoff) : (emitAll hs s).straps = s.straps := rfl
@[simp] theorem emitAll_resetCause (hs : List Handoff) : (emitAll hs s).resetCause = s.resetCause := rfl
@[simp] theorem emitAll_replyLine (hs : List Handoff) : (emitAll hs s).replyLine = s.replyLine := rfl

/-! ### handOn -/

@[simp] theorem handOn_pending (f : Neighbour → Option Handoff) : (handOn f s).pending = s.pending := rfl
@[simp] theorem handOn_now (f : Neighbour → Option Handoff) : (handOn f s).now = s.now := rfl
@[simp] theorem handOn_flash (f : Neighbour → Option Handoff) : (handOn f s).flash = s.flash := rfl
@[simp] theorem handOn_groups (f : Neighbour → Option Handoff) : (handOn f s).groups = s.groups := rfl
@[simp] theorem handOn_slots (f : Neighbour → Option Handoff) : (handOn f s).slots = s.slots := rfl
@[simp] theorem handOn_finishOrder (f : Neighbour → Option Handoff) : (handOn f s).finishOrder = s.finishOrder := rfl
@[simp] theorem handOn_acceptOrder (f : Neighbour → Option Handoff) : (handOn f s).acceptOrder = s.acceptOrder := rfl
@[simp] theorem handOn_acceptCounter (f : Neighbour → Option Handoff) : (handOn f s).acceptCounter = s.acceptCounter := rfl
@[simp] theorem handOn_mode (f : Neighbour → Option Handoff) : (handOn f s).mode = s.mode := rfl
@[simp] theorem handOn_modeEnteredAt (f : Neighbour → Option Handoff) : (handOn f s).modeEnteredAt = s.modeEnteredAt := rfl
@[simp] theorem handOn_startPhase (f : Neighbour → Option Handoff) : (handOn f s).startPhase = s.startPhase := rfl
@[simp] theorem handOn_clearTarget (f : Neighbour → Option Handoff) : (handOn f s).clearTarget = s.clearTarget := rfl
@[simp] theorem handOn_supervision (f : Neighbour → Option Handoff) : (handOn f s).supervision = s.supervision := rfl
@[simp] theorem handOn_lockoutCause (f : Neighbour → Option Handoff) : (handOn f s).lockoutCause = s.lockoutCause := rfl
@[simp] theorem handOn_lockoutCheck (f : Neighbour → Option Handoff) : (handOn f s).lockoutCheck = s.lockoutCheck := rfl
@[simp] theorem handOn_autostartDue (f : Neighbour → Option Handoff) : (handOn f s).autostartDue = s.autostartDue := rfl
@[simp] theorem handOn_lamps (f : Neighbour → Option Handoff) : (handOn f s).lamps = s.lamps := rfl
@[simp] theorem handOn_engines (f : Neighbour → Option Handoff) : (handOn f s).engines = s.engines := rfl
@[simp] theorem handOn_trackedAt (f : Neighbour → Option Handoff) : (handOn f s).trackedAt = s.trackedAt := rfl
@[simp] theorem handOn_channels (f : Neighbour → Option Handoff) : (handOn f s).channels = s.channels := rfl
@[simp] theorem handOn_inputs (f : Neighbour → Option Handoff) : (handOn f s).inputs = s.inputs := rfl
@[simp] theorem handOn_beacon (f : Neighbour → Option Handoff) : (handOn f s).beacon = s.beacon := rfl
@[simp] theorem handOn_trams (f : Neighbour → Option Handoff) : (handOn f s).trams = s.trams := rfl
@[simp] theorem handOn_tramStats (f : Neighbour → Option Handoff) : (handOn f s).tramStats = s.tramStats := rfl
@[simp] theorem handOn_tramDrops (f : Neighbour → Option Handoff) : (handOn f s).tramDrops = s.tramDrops := rfl
@[simp] theorem handOn_links (f : Neighbour → Option Handoff) : (handOn f s).links = s.links := rfl
@[simp] theorem handOn_active (f : Neighbour → Option Handoff) : (handOn f s).active = s.active := rfl
@[simp] theorem handOn_staging (f : Neighbour → Option Handoff) : (handOn f s).staging = s.staging := rfl
@[simp] theorem handOn_commit (f : Neighbour → Option Handoff) : (handOn f s).commit = s.commit := rfl
@[simp] theorem handOn_store (f : Neighbour → Option Handoff) : (handOn f s).store = s.store := rfl
@[simp] theorem handOn_straps (f : Neighbour → Option Handoff) : (handOn f s).straps = s.straps := rfl
@[simp] theorem handOn_resetCause (f : Neighbour → Option Handoff) : (handOn f s).resetCause = s.resetCause := rfl
@[simp] theorem handOn_replyLine (f : Neighbour → Option Handoff) : (handOn f s).replyLine = s.replyLine := rfl

@[simp] theorem emit_work (h : Handoff) : (emit h s).work = s.work ++ [h] := rfl
@[simp] theorem emitAll_work (hs : List Handoff) : (emitAll hs s).work = s.work ++ hs := rfl
@[simp] theorem handOn_work (f : Neighbour → Option Handoff) :
    (handOn f s).work = s.work ++ (neighbourOrder s).filterMap f := rfl
@[simp] theorem handOn_order (f : Neighbour → Option Handoff) :
    (handOn f s).order = { s.order with neighbours := turn s.order.neighbours } := rfl

end Sys2Proof.Machine
end

