-- ==== Sys2Proof/Laws/Tables.lean ====
section
/-! SUPPORT. Reading a table after a write, records after an update of a record, and operations applied over
a list. -/

namespace Sys2Proof

@[simp] theorem look_put {α : Type} {n : Nat} (v : Vector α n) (i j : Fin n) (a : α) :
    look (put v i a) j = if i = j then a else look v j := by
  simp [look, put, Vector.getElem_set, Fin.ext_iff]

@[simp] theorem look_tabulate {α : Type} {n : Nat} (f : Fin n → α) (i : Fin n) :
    look (tabulate f) i = f i := by
  simp [look, tabulate]

@[simp] theorem look_replicate {α : Type} {n : Nat} (a : α) (i : Fin n) :
    look (Vector.replicate n a) i = a := by
  simp [look]

/-- Two tables that agree at every index are equal. -/
theorem table_ext {α : Type} {n : Nat} {v w : Vector α n} (h : ∀ i, look v i = look w i) : v = w := by
  apply Vector.ext
  intro i hi
  exact h ⟨i, hi⟩

@[simp] theorem put_look {α : Type} {n : Nat} (v : Vector α n) (i : Fin n) : put v i (look v i) = v := by
  apply table_ext
  intro j
  simp only [look_put]
  split
  · next h => rw [h]
  · rfl

end Sys2Proof

namespace Sys2Proof.Machine

open Sys2Proof

variable (s : State)

/-! ### Records after an update -/

@[simp] theorem grp_modGroup (g h : GroupId) (f : GroupRec → GroupRec) :
    grp (modGroup g f s) h = if g = h then f (grp s g) else grp s h := by
  simp [grp, modGroup]

@[simp] theorem slot_modSlot (k j : SlotId) (f : TransRec → TransRec) :
    slot (modSlot k f s) j = if k = j then (slot s k).map f else slot s j := by
  simp [slot, modSlot]

@[simp] theorem lamp_modLamps (g h : GroupId) (f : Lamps → Lamps) :
    lamp (modLamps g f s) h = if g = h then f (lamp s g) else lamp s h := by
  simp [lamp, modLamps]

@[simp] theorem channel_modChannel (g h : ChannelId) (f : ChannelRec → ChannelRec) :
    channel (modChannel g f s) h = if g = h then f (channel s g) else channel s h := by
  simp [channel, modChannel]

@[simp] theorem inputRec_modInput (g h : InputId) (f : InputRec → InputRec) :
    inputRec (modInput g f s) h = if g = h then f (inputRec s g) else inputRec s h := by
  simp [inputRec, modInput]

@[simp] theorem tram_modTram (k j : EntryId) (f : TramRec → TramRec) :
    tram (modTram k f s) j = if k = j then (tram s k).map f else tram s j := by
  simp [tram, modTram]

/-- The numbers of the roles differ (R151). -/
theorem roleIndex_injective {r r' : Role} (h : roleIndex r = roleIndex r') : r = r' := by
  cases r <;> cases r' <;> simp [roleIndex] at h <;> rfl

@[simp] theorem roleIndex_eq (r r' : Role) : roleIndex r = roleIndex r' ↔ r = r' :=
  ⟨roleIndex_injective, fun h => h ▸ rfl⟩

@[simp] theorem link_modLink (r r' : Role) (f : LinkRec → LinkRec) :
    link (modLink r f s) r' = if r = r' then f (link s r) else link s r' := by
  simp [link, modLink]

/-- Records are read from their table alone. -/
theorem grp_congr {s t : State} (h : t.groups = s.groups) (g : GroupId) : grp t g = grp s g := by
  simp [grp, h]

theorem slot_congr {s t : State} (h : t.slots = s.slots) (k : SlotId) : slot t k = slot s k := by
  simp [slot, h]

theorem lamp_congr {s t : State} (h : t.lamps = s.lamps) (g : GroupId) : lamp t g = lamp s g := by
  simp [lamp, h]

theorem channel_congr {s t : State} (h : t.channels = s.channels) (ch : ChannelId) :
    channel t ch = channel s ch := by
  simp [channel, h]

theorem inputRec_congr {s t : State} (h : t.inputs = s.inputs) (i : InputId) :
    inputRec t i = inputRec s i := by
  simp [inputRec, h]

theorem tram_congr {s t : State} (h : t.trams = s.trams) (k : EntryId) : tram t k = tram s k := by
  simp [tram, h]

theorem link_congr {s t : State} (h : t.links = s.links) (r : Role) : link t r = link s r := by
  simp [link, h]

theorem cfg_congr {s t : State} (h : t.active = s.active) : cfg t = cfg s := by
  simp [cfg, h]

/-! ### Operations over a list -/

@[simp] theorem forEach_nil {α : Type} (f : α → State → State) : forEach [] f s = s := rfl

@[simp] theorem forEach_cons {α : Type} (a : α) (l : List α) (f : α → State → State) :
    forEach (a :: l) f s = forEach l f (f a s) := rfl

/-- What every member's operation keeps, the whole pass keeps. -/
theorem forEach_keeps {α : Type} (P : State → Prop) (l : List α) (f : α → State → State)
    (h : ∀ a ∈ l, ∀ s, P s → P (f a s)) : ∀ s, P s → P (forEach l f s) := by
  induction l with
  | nil => exact fun s hs => hs
  | cons a l ih =>
    intro s hs
    exact ih (fun b hb => h b (List.mem_cons_of_mem a hb)) (f a s) (h a List.mem_cons_self s hs)

/-- What no member's operation changes, the whole pass leaves alone. -/
theorem forEach_frame {α β : Type} (get : State → β) (l : List α) (f : α → State → State)
    (h : ∀ a ∈ l, ∀ s, get (f a s) = get s) (s : State) : get (forEach l f s) = get s :=
  forEach_keeps (fun t => get t = get s) l f (fun a ha t ht => (h a ha t).trans ht) s rfl

/-- A pass none of whose operations changes anything is no change. -/
theorem forEach_id {α : Type} (l : List α) (f : α → State → State) (s : State)
    (h : ∀ a ∈ l, f a s = s) : forEach l f s = s := by
  induction l with
  | nil => rfl
  | cons a l ih =>
    rw [forEach_cons, h a List.mem_cons_self]
    exact ih (fun b hb => h b (List.mem_cons_of_mem a hb))

end Sys2Proof.Machine
end

