-- ==== Sys2Proof/Laws/Access.lean ====
section
/-! SUPPORT. What the readings of the state give after an update of another table: the same, by
definition. -/

namespace Sys2Proof.Machine

open Sys2Proof

variable (s : State)

/-! ### modGroup -/

@[simp] theorem slot_modGroup (g : GroupId) (f : GroupRec → GroupRec) (x : SlotId) :
    slot (modGroup g f s) x = slot s x := rfl
@[simp] theorem lamp_modGroup (g : GroupId) (f : GroupRec → GroupRec) (x : GroupId) :
    lamp (modGroup g f s) x = lamp s x := rfl
@[simp] theorem channel_modGroup (g : GroupId) (f : GroupRec → GroupRec) (x : ChannelId) :
    channel (modGroup g f s) x = channel s x := rfl
@[simp] theorem inputRec_modGroup (g : GroupId) (f : GroupRec → GroupRec) (x : InputId) :
    inputRec (modGroup g f s) x = inputRec s x := rfl
@[simp] theorem tram_modGroup (g : GroupId) (f : GroupRec → GroupRec) (x : EntryId) :
    tram (modGroup g f s) x = tram s x := rfl
@[simp] theorem link_modGroup (g : GroupId) (f : GroupRec → GroupRec) (x : Role) :
    link (modGroup g f s) x = link s x := rfl
@[simp] theorem cfg_modGroup (g : GroupId) (f : GroupRec → GroupRec) :
    cfg (modGroup g f s) = cfg s := rfl
@[simp] theorem kind_modGroup (g : GroupId) (f : GroupRec → GroupRec) (x : GroupId) :
    kind (modGroup g f s) x = kind s x := rfl
@[simp] theorem used_modGroup (g : GroupId) (f : GroupRec → GroupRec) (x : GroupId) :
    used (modGroup g f s) x = used s x := rfl
@[simp] theorem conflicts_modGroup (g : GroupId) (f : GroupRec → GroupRec) (x y : GroupId) :
    conflicts (modGroup g f s) x y = conflicts s x y := rfl
@[simp] theorem loopCfg_modGroup (g : GroupId) (f : GroupRec → GroupRec) (x : ChannelId) :
    loopCfg (modGroup g f s) x = loopCfg s x := rfl
@[simp] theorem inputCfg_modGroup (g : GroupId) (f : GroupRec → GroupRec) (x : InputId) :
    inputCfg (modGroup g f s) x = inputCfg s x := rfl
@[simp] theorem showsPattern_modGroup (g : GroupId) (f : GroupRec → GroupRec) :
    showsPattern (modGroup g f s) = showsPattern s := rfl

/-! ### modSlot -/

@[simp] theorem grp_modSlot (k : SlotId) (f : TransRec → TransRec) (x : GroupId) :
    grp (modSlot k f s) x = grp s x := rfl
@[simp] theorem lamp_modSlot (k : SlotId) (f : TransRec → TransRec) (x : GroupId) :
    lamp (modSlot k f s) x = lamp s x := rfl
@[simp] theorem channel_modSlot (k : SlotId) (f : TransRec → TransRec) (x : ChannelId) :
    channel (modSlot k f s) x = channel s x := rfl
@[simp] theorem inputRec_modSlot (k : SlotId) (f : TransRec → TransRec) (x : InputId) :
    inputRec (modSlot k f s) x = inputRec s x := rfl
@[simp] theorem tram_modSlot (k : SlotId) (f : TransRec → TransRec) (x : EntryId) :
    tram (modSlot k f s) x = tram s x := rfl
@[simp] theorem link_modSlot (k : SlotId) (f : TransRec → TransRec) (x : Role) :
    link (modSlot k f s) x = link s x := rfl
@[simp] theorem cfg_modSlot (k : SlotId) (f : TransRec → TransRec) :
    cfg (modSlot k f s) = cfg s := rfl
@[simp] theorem kind_modSlot (k : SlotId) (f : TransRec → TransRec) (x : GroupId) :
    kind (modSlot k f s) x = kind s x := rfl
@[simp] theorem used_modSlot (k : SlotId) (f : TransRec → TransRec) (x : GroupId) :
    used (modSlot k f s) x = used s x := rfl
@[simp] theorem conflicts_modSlot (k : SlotId) (f : TransRec → TransRec) (x y : GroupId) :
    conflicts (modSlot k f s) x y = conflicts s x y := rfl
@[simp] theorem loopCfg_modSlot (k : SlotId) (f : TransRec → TransRec) (x : ChannelId) :
    loopCfg (modSlot k f s) x = loopCfg s x := rfl
@[simp] theorem inputCfg_modSlot (k : SlotId) (f : TransRec → TransRec) (x : InputId) :
    inputCfg (modSlot k f s) x = inputCfg s x := rfl
@[simp] theorem isGreen_modSlot (k : SlotId) (f : TransRec → TransRec) (x : GroupId) :
    isGreen (modSlot k f s) x = isGreen s x := rfl
@[simp] theorem inProceed_modSlot (k : SlotId) (f : TransRec → TransRec) (x : GroupId) :
    inProceed (modSlot k f s) x = inProceed s x := rfl
@[simp] theorem showsPattern_modSlot (k : SlotId) (f : TransRec → TransRec) :
    showsPattern (modSlot k f s) = showsPattern s := rfl

/-! ### modLamps -/

@[simp] theorem grp_modLamps (g : GroupId) (f : Lamps → Lamps) (x : GroupId) :
    grp (modLamps g f s) x = grp s x := rfl
@[simp] theorem slot_modLamps (g : GroupId) (f : Lamps → Lamps) (x : SlotId) :
    slot (modLamps g f s) x = slot s x := rfl
@[simp] theorem channel_modLamps (g : GroupId) (f : Lamps → Lamps) (x : ChannelId) :
    channel (modLamps g f s) x = channel s x := rfl
@[simp] theorem inputRec_modLamps (g : GroupId) (f : Lamps → Lamps) (x : InputId) :
    inputRec (modLamps g f s) x = inputRec s x := rfl
@[simp] theorem tram_modLamps (g : GroupId) (f : Lamps → Lamps) (x : EntryId) :
    tram (modLamps g f s) x = tram s x := rfl
@[simp] theorem link_modLamps (g : GroupId) (f : Lamps → Lamps) (x : Role) :
    link (modLamps g f s) x = link s x := rfl
@[simp] theorem cfg_modLamps (g : GroupId) (f : Lamps → Lamps) :
    cfg (modLamps g f s) = cfg s := rfl
@[simp] theorem kind_modLamps (g : GroupId) (f : Lamps → Lamps) (x : GroupId) :
    kind (modLamps g f s) x = kind s x := rfl
@[simp] theorem used_modLamps (g : GroupId) (f : Lamps → Lamps) (x : GroupId) :
    used (modLamps g f s) x = used s x := rfl
@[simp] theorem conflicts_modLamps (g : GroupId) (f : Lamps → Lamps) (x y : GroupId) :
    conflicts (modLamps g f s) x y = conflicts s x y := rfl
@[simp] theorem loopCfg_modLamps (g : GroupId) (f : Lamps → Lamps) (x : ChannelId) :
    loopCfg (modLamps g f s) x = loopCfg s x := rfl
@[simp] theorem inputCfg_modLamps (g : GroupId) (f : Lamps → Lamps) (x : InputId) :
    inputCfg (modLamps g f s) x = inputCfg s x := rfl
@[simp] theorem isGreen_modLamps (g : GroupId) (f : Lamps → Lamps) (x : GroupId) :
    isGreen (modLamps g f s) x = isGreen s x := rfl
@[simp] theorem inProceed_modLamps (g : GroupId) (f : Lamps → Lamps) (x : GroupId) :
    inProceed (modLamps g f s) x = inProceed s x := rfl
@[simp] theorem showsPattern_modLamps (g : GroupId) (f : Lamps → Lamps) :
    showsPattern (modLamps g f s) = showsPattern s := rfl

/-! ### modChannel -/

@[simp] theorem grp_modChannel (ch : ChannelId) (f : ChannelRec → ChannelRec) (x : GroupId) :
    grp (modChannel ch f s) x = grp s x := rfl
@[simp] theorem slot_modChannel (ch : ChannelId) (f : ChannelRec → ChannelRec) (x : SlotId) :
    slot (modChannel ch f s) x = slot s x := rfl
@[simp] theorem lamp_modChannel (ch : ChannelId) (f : ChannelRec → ChannelRec) (x : GroupId) :
    lamp (modChannel ch f s) x = lamp s x := rfl
@[simp] theorem inputRec_modChannel (ch : ChannelId) (f : ChannelRec → ChannelRec) (x : InputId) :
    inputRec (modChannel ch f s) x = inputRec s x := rfl
@[simp] theorem tram_modChannel (ch : ChannelId) (f : ChannelRec → ChannelRec) (x : EntryId) :
    tram (modChannel ch f s) x = tram s x := rfl
@[simp] theorem link_modChannel (ch : ChannelId) (f : ChannelRec → ChannelRec) (x : Role) :
    link (modChannel ch f s) x = link s x := rfl
@[simp] theorem cfg_modChannel (ch : ChannelId) (f : ChannelRec → ChannelRec) :
    cfg (modChannel ch f s) = cfg s := rfl
@[simp] theorem kind_modChannel (ch : ChannelId) (f : ChannelRec → ChannelRec) (x : GroupId) :
    kind (modChannel ch f s) x = kind s x := rfl
@[simp] theorem used_modChannel (ch : ChannelId) (f : ChannelRec → ChannelRec) (x : GroupId) :
    used (modChannel ch f s) x = used s x := rfl
@[simp] theorem conflicts_modChannel (ch : ChannelId) (f : ChannelRec → ChannelRec) (x y : GroupId) :
    conflicts (modChannel ch f s) x y = conflicts s x y := rfl
@[simp] theorem loopCfg_modChannel (ch : ChannelId) (f : ChannelRec → ChannelRec) (x : ChannelId) :
    loopCfg (modChannel ch f s) x = loopCfg s x := rfl
@[simp] theorem inputCfg_modChannel (ch : ChannelId) (f : ChannelRec → ChannelRec) (x : InputId) :
    inputCfg (modChannel ch f s) x = inputCfg s x := rfl
@[simp] theorem isGreen_modChannel (ch : ChannelId) (f : ChannelRec → ChannelRec) (x : GroupId) :
    isGreen (modChannel ch f s) x = isGreen s x := rfl
@[simp] theorem inProceed_modChannel (ch : ChannelId) (f : ChannelRec → ChannelRec) (x : GroupId) :
    inProceed (modChannel ch f s) x = inProceed s x := rfl
@[simp] theorem showsPattern_modChannel (ch : ChannelId) (f : ChannelRec → ChannelRec) :
    showsPattern (modChannel ch f s) = showsPattern s := rfl

/-! ### modInput -/

@[simp] theorem grp_modInput (i : InputId) (f : InputRec → InputRec) (x : GroupId) :
    grp (modInput i f s) x = grp s x := rfl
@[simp] theorem slot_modInput (i : InputId) (f : InputRec → InputRec) (x : SlotId) :
    slot (modInput i f s) x = slot s x := rfl
@[simp] theorem lamp_modInput (i : InputId) (f : InputRec → InputRec) (x : GroupId) :
    lamp (modInput i f s) x = lamp s x := rfl
@[simp] theorem channel_modInput (i : InputId) (f : InputRec → InputRec) (x : ChannelId) :
    channel (modInput i f s) x = channel s x := rfl
@[simp] theorem tram_modInput (i : InputId) (f : InputRec → InputRec) (x : EntryId) :
    tram (modInput i f s) x = tram s x := rfl
@[simp] theorem link_modInput (i : InputId) (f : InputRec → InputRec) (x : Role) :
    link (modInput i f s) x = link s x := rfl
@[simp] theorem cfg_modInput (i : InputId) (f : InputRec → InputRec) :
    cfg (modInput i f s) = cfg s := rfl
@[simp] theorem kind_modInput (i : InputId) (f : InputRec → InputRec) (x : GroupId) :
    kind (modInput i f s) x = kind s x := rfl
@[simp] theorem used_modInput (i : InputId) (f : InputRec → InputRec) (x : GroupId) :
    used (modInput i f s) x = used s x := rfl
@[simp] theorem conflicts_modInput (i : InputId) (f : InputRec → InputRec) (x y : GroupId) :
    conflicts (modInput i f s) x y = conflicts s x y := rfl
@[simp] theorem loopCfg_modInput (i : InputId) (f : InputRec → InputRec) (x : ChannelId) :
    loopCfg (modInput i f s) x = loopCfg s x := rfl
@[simp] theorem inputCfg_modInput (i : InputId) (f : InputRec → InputRec) (x : InputId) :
    inputCfg (modInput i f s) x = inputCfg s x := rfl
@[simp] theorem isGreen_modInput (i : InputId) (f : InputRec → InputRec) (x : GroupId) :
    isGreen (modInput i f s) x = isGreen s x := rfl
@[simp] theorem inProceed_modInput (i : InputId) (f : InputRec → InputRec) (x : GroupId) :
    inProceed (modInput i f s) x = inProceed s x := rfl
@[simp] theorem showsPattern_modInput (i : InputId) (f : InputRec → InputRec) :
    showsPattern (modInput i f s) = showsPattern s := rfl

/-! ### modTram -/

@[simp] theorem grp_modTram (k : EntryId) (f : TramRec → TramRec) (x : GroupId) :
    grp (modTram k f s) x = grp s x := rfl
@[simp] theorem slot_modTram (k : EntryId) (f : TramRec → TramRec) (x : SlotId) :
    slot (modTram k f s) x = slot s x := rfl
@[simp] theorem lamp_modTram (k : EntryId) (f : TramRec → TramRec) (x : GroupId) :
    lamp (modTram k f s) x = lamp s x := rfl
@[simp] theorem channel_modTram (k : EntryId) (f : TramRec → TramRec) (x : ChannelId) :
    channel (modTram k f s) x = channel s x := rfl
@[simp] theorem inputRec_modTram (k : EntryId) (f : TramRec → TramRec) (x : InputId) :
    inputRec (modTram k f s) x = inputRec s x := rfl
@[simp] theorem link_modTram (k : EntryId) (f : TramRec → TramRec) (x : Role) :
    link (modTram k f s) x = link s x := rfl
@[simp] theorem cfg_modTram (k : EntryId) (f : TramRec → TramRec) :
    cfg (modTram k f s) = cfg s := rfl
@[simp] theorem kind_modTram (k : EntryId) (f : TramRec → TramRec) (x : GroupId) :
    kind (modTram k f s) x = kind s x := rfl
@[simp] theorem used_modTram (k : EntryId) (f : TramRec → TramRec) (x : GroupId) :
    used (modTram k f s) x = used s x := rfl
@[simp] theorem conflicts_modTram (k : EntryId) (f : TramRec → TramRec) (x y : GroupId) :
    conflicts (modTram k f s) x y = conflicts s x y := rfl
@[simp] theorem loopCfg_modTram (k : EntryId) (f : TramRec → TramRec) (x : ChannelId) :
    loopCfg (modTram k f s) x = loopCfg s x := rfl
@[simp] theorem inputCfg_modTram (k : EntryId) (f : TramRec → TramRec) (x : InputId) :
    inputCfg (modTram k f s) x = inputCfg s x := rfl
@[simp] theorem isGreen_modTram (k : EntryId) (f : TramRec → TramRec) (x : GroupId) :
    isGreen (modTram k f s) x = isGreen s x := rfl
@[simp] theorem inProceed_modTram (k : EntryId) (f : TramRec → TramRec) (x : GroupId) :
    inProceed (modTram k f s) x = inProceed s x := rfl
@[simp] theorem showsPattern_modTram (k : EntryId) (f : TramRec → TramRec) :
    showsPattern (modTram k f s) = showsPattern s := rfl

/-! ### modStats -/

@[simp] theorem grp_modStats (a : ApproachId) (f : TramStats → TramStats) (x : GroupId) :
    grp (modStats a f s) x = grp s x := rfl
@[simp] theorem slot_modStats (a : ApproachId) (f : TramStats → TramStats) (x : SlotId) :
    slot (modStats a f s) x = slot s x := rfl
@[simp] theorem lamp_modStats (a : ApproachId) (f : TramStats → TramStats) (x : GroupId) :
    lamp (modStats a f s) x = lamp s x := rfl
@[simp] theorem channel_modStats (a : ApproachId) (f : TramStats → TramStats) (x : ChannelId) :
    channel (modStats a f s) x = channel s x := rfl
@[simp] theorem inputRec_modStats (a : ApproachId) (f : TramStats → TramStats) (x : InputId) :
    inputRec (modStats a f s) x = inputRec s x := rfl
@[simp] theorem tram_modStats (a : ApproachId) (f : TramStats → TramStats) (x : EntryId) :
    tram (modStats a f s) x = tram s x := rfl
@[simp] theorem link_modStats (a : ApproachId) (f : TramStats → TramStats) (x : Role) :
    link (modStats a f s) x = link s x := rfl
@[simp] theorem cfg_modStats (a : ApproachId) (f : TramStats → TramStats) :
    cfg (modStats a f s) = cfg s := rfl
@[simp] theorem kind_modStats (a : ApproachId) (f : TramStats → TramStats) (x : GroupId) :
    kind (modStats a f s) x = kind s x := rfl
@[simp] theorem used_modStats (a : ApproachId) (f : TramStats → TramStats) (x : GroupId) :
    used (modStats a f s) x = used s x := rfl
@[simp] theorem conflicts_modStats (a : ApproachId) (f : TramStats → TramStats) (x y : GroupId) :
    conflicts (modStats a f s) x y = conflicts s x y := rfl
@[simp] theorem loopCfg_modStats (a : ApproachId) (f : TramStats → TramStats) (x : ChannelId) :
    loopCfg (modStats a f s) x = loopCfg s x := rfl
@[simp] theorem inputCfg_modStats (a : ApproachId) (f : TramStats → TramStats) (x : InputId) :
    inputCfg (modStats a f s) x = inputCfg s x := rfl
@[simp] theorem isGreen_modStats (a : ApproachId) (f : TramStats → TramStats) (x : GroupId) :
    isGreen (modStats a f s) x = isGreen s x := rfl
@[simp] theorem inProceed_modStats (a : ApproachId) (f : TramStats → TramStats) (x : GroupId) :
    inProceed (modStats a f s) x = inProceed s x := rfl
@[simp] theorem showsPattern_modStats (a : ApproachId) (f : TramStats → TramStats) :
    showsPattern (modStats a f s) = showsPattern s := rfl

/-! ### modLink -/

@[simp] theorem grp_modLink (r : Role) (f : LinkRec → LinkRec) (x : GroupId) :
    grp (modLink r f s) x = grp s x := rfl
@[simp] theorem slot_modLink (r : Role) (f : LinkRec → LinkRec) (x : SlotId) :
    slot (modLink r f s) x = slot s x := rfl
@[simp] theorem lamp_modLink (r : Role) (f : LinkRec → LinkRec) (x : GroupId) :
    lamp (modLink r f s) x = lamp s x := rfl
@[simp] theorem channel_modLink (r : Role) (f : LinkRec → LinkRec) (x : ChannelId) :
    channel (modLink r f s) x = channel s x := rfl
@[simp] theorem inputRec_modLink (r : Role) (f : LinkRec → LinkRec) (x : InputId) :
    inputRec (modLink r f s) x = inputRec s x := rfl
@[simp] theorem tram_modLink (r : Role) (f : LinkRec → LinkRec) (x : EntryId) :
    tram (modLink r f s) x = tram s x := rfl
@[simp] theorem cfg_modLink (r : Role) (f : LinkRec → LinkRec) :
    cfg (modLink r f s) = cfg s := rfl
@[simp] theorem kind_modLink (r : Role) (f : LinkRec → LinkRec) (x : GroupId) :
    kind (modLink r f s) x = kind s x := rfl
@[simp] theorem used_modLink (r : Role) (f : LinkRec → LinkRec) (x : GroupId) :
    used (modLink r f s) x = used s x := rfl
@[simp] theorem conflicts_modLink (r : Role) (f : LinkRec → LinkRec) (x y : GroupId) :
    conflicts (modLink r f s) x y = conflicts s x y := rfl
@[simp] theorem loopCfg_modLink (r : Role) (f : LinkRec → LinkRec) (x : ChannelId) :
    loopCfg (modLink r f s) x = loopCfg s x := rfl
@[simp] theorem inputCfg_modLink (r : Role) (f : LinkRec → LinkRec) (x : InputId) :
    inputCfg (modLink r f s) x = inputCfg s x := rfl
@[simp] theorem isGreen_modLink (r : Role) (f : LinkRec → LinkRec) (x : GroupId) :
    isGreen (modLink r f s) x = isGreen s x := rfl
@[simp] theorem inProceed_modLink (r : Role) (f : LinkRec → LinkRec) (x : GroupId) :
    inProceed (modLink r f s) x = inProceed s x := rfl
@[simp] theorem showsPattern_modLink (r : Role) (f : LinkRec → LinkRec) :
    showsPattern (modLink r f s) = showsPattern s := rfl

/-! ### modBeacon -/

@[simp] theorem grp_modBeacon (f : BeaconRec → BeaconRec) (x : GroupId) :
    grp (modBeacon f s) x = grp s x := rfl
@[simp] theorem slot_modBeacon (f : BeaconRec → BeaconRec) (x : SlotId) :
    slot (modBeacon f s) x = slot s x := rfl
@[simp] theorem lamp_modBeacon (f : BeaconRec → BeaconRec) (x : GroupId) :
    lamp (modBeacon f s) x = lamp s x := rfl
@[simp] theorem channel_modBeacon (f : BeaconRec → BeaconRec) (x : ChannelId) :
    channel (modBeacon f s) x = channel s x := rfl
@[simp] theorem inputRec_modBeacon (f : BeaconRec → BeaconRec) (x : InputId) :
    inputRec (modBeacon f s) x = inputRec s x := rfl
@[simp] theorem tram_modBeacon (f : BeaconRec → BeaconRec) (x : EntryId) :
    tram (modBeacon f s) x = tram s x := rfl
@[simp] theorem link_modBeacon (f : BeaconRec → BeaconRec) (x : Role) :
    link (modBeacon f s) x = link s x := rfl
@[simp] theorem cfg_modBeacon (f : BeaconRec → BeaconRec) :
    cfg (modBeacon f s) = cfg s := rfl
@[simp] theorem kind_modBeacon (f : BeaconRec → BeaconRec) (x : GroupId) :
    kind (modBeacon f s) x = kind s x := rfl
@[simp] theorem used_modBeacon (f : BeaconRec → BeaconRec) (x : GroupId) :
    used (modBeacon f s) x = used s x := rfl
@[simp] theorem conflicts_modBeacon (f : BeaconRec → BeaconRec) (x y : GroupId) :
    conflicts (modBeacon f s) x y = conflicts s x y := rfl
@[simp] theorem loopCfg_modBeacon (f : BeaconRec → BeaconRec) (x : ChannelId) :
    loopCfg (modBeacon f s) x = loopCfg s x := rfl
@[simp] theorem inputCfg_modBeacon (f : BeaconRec → BeaconRec) (x : InputId) :
    inputCfg (modBeacon f s) x = inputCfg s x := rfl
@[simp] theorem isGreen_modBeacon (f : BeaconRec → BeaconRec) (x : GroupId) :
    isGreen (modBeacon f s) x = isGreen s x := rfl
@[simp] theorem inProceed_modBeacon (f : BeaconRec → BeaconRec) (x : GroupId) :
    inProceed (modBeacon f s) x = inProceed s x := rfl
@[simp] theorem showsPattern_modBeacon (f : BeaconRec → BeaconRec) :
    showsPattern (modBeacon f s) = showsPattern s := rfl

/-! ### setEngine -/

@[simp] theorem grp_setEngine (e : EngineId) (p : Option (Fin 4)) (x : GroupId) :
    grp (setEngine e p s) x = grp s x := rfl
@[simp] theorem slot_setEngine (e : EngineId) (p : Option (Fin 4)) (x : SlotId) :
    slot (setEngine e p s) x = slot s x := rfl
@[simp] theorem lamp_setEngine (e : EngineId) (p : Option (Fin 4)) (x : GroupId) :
    lamp (setEngine e p s) x = lamp s x := rfl
@[simp] theorem channel_setEngine (e : EngineId) (p : Option (Fin 4)) (x : ChannelId) :
    channel (setEngine e p s) x = channel s x := rfl
@[simp] theorem inputRec_setEngine (e : EngineId) (p : Option (Fin 4)) (x : InputId) :
    inputRec (setEngine e p s) x = inputRec s x := rfl
@[simp] theorem tram_setEngine (e : EngineId) (p : Option (Fin 4)) (x : EntryId) :
    tram (setEngine e p s) x = tram s x := rfl
@[simp] theorem link_setEngine (e : EngineId) (p : Option (Fin 4)) (x : Role) :
    link (setEngine e p s) x = link s x := rfl
@[simp] theorem cfg_setEngine (e : EngineId) (p : Option (Fin 4)) :
    cfg (setEngine e p s) = cfg s := rfl
@[simp] theorem kind_setEngine (e : EngineId) (p : Option (Fin 4)) (x : GroupId) :
    kind (setEngine e p s) x = kind s x := rfl
@[simp] theorem used_setEngine (e : EngineId) (p : Option (Fin 4)) (x : GroupId) :
    used (setEngine e p s) x = used s x := rfl
@[simp] theorem conflicts_setEngine (e : EngineId) (p : Option (Fin 4)) (x y : GroupId) :
    conflicts (setEngine e p s) x y = conflicts s x y := rfl
@[simp] theorem loopCfg_setEngine (e : EngineId) (p : Option (Fin 4)) (x : ChannelId) :
    loopCfg (setEngine e p s) x = loopCfg s x := rfl
@[simp] theorem inputCfg_setEngine (e : EngineId) (p : Option (Fin 4)) (x : InputId) :
    inputCfg (setEngine e p s) x = inputCfg s x := rfl
@[simp] theorem isGreen_setEngine (e : EngineId) (p : Option (Fin 4)) (x : GroupId) :
    isGreen (setEngine e p s) x = isGreen s x := rfl
@[simp] theorem inProceed_setEngine (e : EngineId) (p : Option (Fin 4)) (x : GroupId) :
    inProceed (setEngine e p s) x = inProceed s x := rfl
@[simp] theorem showsPattern_setEngine (e : EngineId) (p : Option (Fin 4)) :
    showsPattern (setEngine e p s) = showsPattern s := rfl

/-! ### emit -/

@[simp] theorem grp_emit (h : Handoff) (x : GroupId) :
    grp (emit h s) x = grp s x := rfl
@[simp] theorem slot_emit (h : Handoff) (x : SlotId) :
    slot (emit h s) x = slot s x := rfl
@[simp] theorem lamp_emit (h : Handoff) (x : GroupId) :
    lamp (emit h s) x = lamp s x := rfl
@[simp] theorem channel_emit (h : Handoff) (x : ChannelId) :
    channel (emit h s) x = channel s x := rfl
@[simp] theorem inputRec_emit (h : Handoff) (x : InputId) :
    inputRec (emit h s) x = inputRec s x := rfl
@[simp] theorem tram_emit (h : Handoff) (x : EntryId) :
    tram (emit h s) x = tram s x := rfl
@[simp] theorem link_emit (h : Handoff) (x : Role) :
    link (emit h s) x = link s x := rfl
@[simp] theorem cfg_emit (h : Handoff) :
    cfg (emit h s) = cfg s := rfl
@[simp] theorem kind_emit (h : Handoff) (x : GroupId) :
    kind (emit h s) x = kind s x := rfl
@[simp] theorem used_emit (h : Handoff) (x : GroupId) :
    used (emit h s) x = used s x := rfl
@[simp] theorem conflicts_emit (h : Handoff) (x y : GroupId) :
    conflicts (emit h s) x y = conflicts s x y := rfl
@[simp] theorem loopCfg_emit (h : Handoff) (x : ChannelId) :
    loopCfg (emit h s) x = loopCfg s x := rfl
@[simp] theorem inputCfg_emit (h : Handoff) (x : InputId) :
    inputCfg (emit h s) x = inputCfg s x := rfl
@[simp] theorem isGreen_emit (h : Handoff) (x : GroupId) :
    isGreen (emit h s) x = isGreen s x := rfl
@[simp] theorem inProceed_emit (h : Handoff) (x : GroupId) :
    inProceed (emit h s) x = inProceed s x := rfl
@[simp] theorem showsPattern_emit (h : Handoff) :
    showsPattern (emit h s) = showsPattern s := rfl

/-! ### emitAll -/

@[simp] theorem grp_emitAll (hs : List Handoff) (x : GroupId) :
    grp (emitAll hs s) x = grp s x := rfl
@[simp] theorem slot_emitAll (hs : List Handoff) (x : SlotId) :
    slot (emitAll hs s) x = slot s x := rfl
@[simp] theorem lamp_emitAll (hs : List Handoff) (x : GroupId) :
    lamp (emitAll hs s) x = lamp s x := rfl
@[simp] theorem channel_emitAll (hs : List Handoff) (x : ChannelId) :
    channel (emitAll hs s) x = channel s x := rfl
@[simp] theorem inputRec_emitAll (hs : List Handoff) (x : InputId) :
    inputRec (emitAll hs s) x = inputRec s x := rfl
@[simp] theorem tram_emitAll (hs : List Handoff) (x : EntryId) :
    tram (emitAll hs s) x = tram s x := rfl
@[simp] theorem link_emitAll (hs : List Handoff) (x : Role) :
    link (emitAll hs s) x = link s x := rfl
@[simp] theorem cfg_emitAll (hs : List Handoff) :
    cfg (emitAll hs s) = cfg s := rfl
@[simp] theorem kind_emitAll (hs : List Handoff) (x : GroupId) :
    kind (emitAll hs s) x = kind s x := rfl
@[simp] theorem used_emitAll (hs : List Handoff) (x : GroupId) :
    used (emitAll hs s) x = used s x := rfl
@[simp] theorem conflicts_emitAll (hs : List Handoff) (x y : GroupId) :
    conflicts (emitAll hs s) x y = conflicts s x y := rfl
@[simp] theorem loopCfg_emitAll (hs : List Handoff) (x : ChannelId) :
    loopCfg (emitAll hs s) x = loopCfg s x := rfl
@[simp] theorem inputCfg_emitAll (hs : List Handoff) (x : InputId) :
    inputCfg (emitAll hs s) x = inputCfg s x := rfl
@[simp] theorem isGreen_emitAll (hs : List Handoff) (x : GroupId) :
    isGreen (emitAll hs s) x = isGreen s x := rfl
@[simp] theorem inProceed_emitAll (hs : List Handoff) (x : GroupId) :
    inProceed (emitAll hs s) x = inProceed s x := rfl
@[simp] theorem showsPattern_emitAll (hs : List Handoff) :
    showsPattern (emitAll hs s) = showsPattern s := rfl

/-! ### handOn -/

@[simp] theorem grp_handOn (f : Neighbour → Option Handoff) (x : GroupId) :
    grp (handOn f s) x = grp s x := rfl
@[simp] theorem slot_handOn (f : Neighbour → Option Handoff) (x : SlotId) :
    slot (handOn f s) x = slot s x := rfl
@[simp] theorem lamp_handOn (f : Neighbour → Option Handoff) (x : GroupId) :
    lamp (handOn f s) x = lamp s x := rfl
@[simp] theorem channel_handOn (f : Neighbour → Option Handoff) (x : ChannelId) :
    channel (handOn f s) x = channel s x := rfl
@[simp] theorem inputRec_handOn (f : Neighbour → Option Handoff) (x : InputId) :
    inputRec (handOn f s) x = inputRec s x := rfl
@[simp] theorem tram_handOn (f : Neighbour → Option Handoff) (x : EntryId) :
    tram (handOn f s) x = tram s x := rfl
@[simp] theorem link_handOn (f : Neighbour → Option Handoff) (x : Role) :
    link (handOn f s) x = link s x := rfl
@[simp] theorem cfg_handOn (f : Neighbour → Option Handoff) :
    cfg (handOn f s) = cfg s := rfl
@[simp] theorem kind_handOn (f : Neighbour → Option Handoff) (x : GroupId) :
    kind (handOn f s) x = kind s x := rfl
@[simp] theorem used_handOn (f : Neighbour → Option Handoff) (x : GroupId) :
    used (handOn f s) x = used s x := rfl
@[simp] theorem conflicts_handOn (f : Neighbour → Option Handoff) (x y : GroupId) :
    conflicts (handOn f s) x y = conflicts s x y := rfl
@[simp] theorem loopCfg_handOn (f : Neighbour → Option Handoff) (x : ChannelId) :
    loopCfg (handOn f s) x = loopCfg s x := rfl
@[simp] theorem inputCfg_handOn (f : Neighbour → Option Handoff) (x : InputId) :
    inputCfg (handOn f s) x = inputCfg s x := rfl
@[simp] theorem isGreen_handOn (f : Neighbour → Option Handoff) (x : GroupId) :
    isGreen (handOn f s) x = isGreen s x := rfl
@[simp] theorem inProceed_handOn (f : Neighbour → Option Handoff) (x : GroupId) :
    inProceed (handOn f s) x = inProceed s x := rfl
@[simp] theorem showsPattern_handOn (f : Neighbour → Option Handoff) :
    showsPattern (handOn f s) = showsPattern s := rfl

end Sys2Proof.Machine
end

