-- ==== Sys2Proof/Laws/Blocks.lean ====
section
/-! SUPPORT. What the signal group table, the release arbiter, the tram priority engine and the demand logic
can do, said once: a property of the state that their primitive updates keep is kept by every operation of
theirs. An invariant of the part, or the frame of a field they never touch, is proved by giving the
primitive cases once. -/

namespace Sys2Proof.Machine

open Sys2Proof

/-- The primitive updates of the four blocks keep a property. -/
structure BlocksKeep (P : State → Prop) : Prop where
  /-- Hand-offs are set off or taken. -/
  work : ∀ s w, P s → P { s with work := w }
  /-- A hand-off takes its order from the free value. -/
  order : ∀ s o, P s → P { s with order := { s.order with neighbours := o } }
  /-- A notice is raised. -/
  raise : ∀ n r s, P s → P (raise n r s)
  /-- Fields of a group record other than its state change. -/
  group : ∀ g f s, (∀ r, (f r).state = r.state) → P s → P (modGroup g f s)
  /-- A group that is not DARK enters a state and takes its lamp commands. -/
  enter : ∀ g st s, (grp s g).state ≠ .dark → P s →
    P (refreshLamps g (modGroup g (fun r => { r with state := st, enteredAt := s.now }) s))
  /-- A transition record keeps its class and does not come to life. -/
  record : ∀ k f s,
    (∀ r, slot s k = some r → (f r).cls = r.cls ∧ (isLive (f r) = true → isLive r = true)) →
    P s → P (modSlot k f s)
  /-- A record finishes. -/
  finish : ∀ k r st cause s, (st = .done ∨ st = .cancelled) → slot s k = some r → P s →
    P { s with
        slots := put s.slots k (some { r with state := st, finishedAt := some s.now, endCause := some cause })
        finishOrder := s.finishOrder.filter (· != k) ++ [k]
        acceptOrder := s.acceptOrder.filter (· != k) }
  /-- A TRAM record is written. -/
  post : ∀ k origin te re call s, P s → P (writeRecordAt k .tram origin te re call s)
  /-- A tram record keeps its number and approach. -/
  tram : ∀ k f s, (∀ r, (f r).number = r.number ∧ (f r).approach = r.approach) → P s → P (modTram k f s)
  /-- A tram record is removed. -/
  gone : ∀ k s, P s → P { s with trams := put s.trams k none }
  /-- A statistic of an approach changes. -/
  stats : ∀ a f s, P s → P (modStats a f s)

namespace BlocksKeep

variable {P : State → Prop} (H : BlocksKeep P) {s : State}

include H

/-! ### Hand-offs and notices -/

theorem emit (h : Handoff) (hs : P s) : P (Machine.emit h s) := H.work s _ hs

theorem emitAll (hs' : List Handoff) (hs : P s) : P (Machine.emitAll hs' s) := H.work s _ hs

theorem handOn (f : Neighbour → Option Handoff) (hs : P s) : P (Machine.handOn f s) :=
  H.emitAll _ (H.order s _ hs)

theorem raiseFor (n : Notice) (rs : List Role) (hs : P s) : P (Machine.raiseFor n rs s) :=
  forEach_keeps P rs _ (fun r _ t ht => H.raise n r t ht) s hs

theorem raiseAll (n : Notice) (hs : P s) : P (Machine.raiseAll n s) := H.raiseFor n allRoles hs

/-! ### Signal group table -/

theorem enterState (g : GroupId) (st : GState) (hd : (grp s g).state ≠ .dark) (hs : P s) :
    P (Machine.enterState g st s) := by
  unfold Machine.enterState
  split
  · exact hs
  · exact H.handOn _ (H.enter g st s hd hs)

theorem enterClear (g : GroupId) (hd : (grp s g).state ≠ .dark) (hs : P s) :
    P (Machine.enterClear g s) :=
  H.enterState g .clear (by simpa using hd) (H.group g _ s (fun _ => rfl) hs)

theorem takeTerminate (g : GroupId) (hs : P s) : P (Machine.takeTerminate g s) := by
  unfold Machine.takeTerminate
  split
  · next h => exact H.enterClear g (by simp [h.1]) hs
  · exact hs

theorem withdrawClaim (id : TransId) (g : GroupId) (hs : P s) : P (Machine.withdrawClaim id g s) := by
  unfold Machine.withdrawClaim
  split
  · exact hs
  · split
    · have h1 : P (modGroup g
          (fun r => { r with claim := none, pendingTerm := withdrawTerm id r.pendingTerm }) s) :=
        H.group g _ s (fun _ => rfl) hs
      dsimp only
      split
      · next h => exact H.enterState g .red (by simp [h]) (H.group g _ _ (fun _ => rfl) h1)
      · exact h1
    · exact hs

theorem setHoldUntil (g : GroupId) (h : Option Time) (hs : P s) : P (Machine.setHoldUntil g h s) := by
  unfold Machine.setHoldUntil
  split
  · exact H.takeTerminate g (H.group g _ s (fun _ => rfl) hs)
  · exact hs

/-! ### Release arbiter -/

theorem finishRecord (k : SlotId) (st : TState) (cause : EndCause) (hst : st = .done ∨ st = .cancelled)
    (hs : P s) : P (Machine.finishRecord k st cause s) := by
  unfold Machine.finishRecord
  split
  · exact hs
  · next r hr =>
    have h1 := H.finish k r st cause s hst hr hs
    refine H.emitAll _ ?_
    split
    · exact forEach_keeps P _ _ (fun g _ t ht => H.withdrawClaim r.id g ht) _ h1
    · exact h1

theorem noticeOrigin (r : TransRec) (hs : P s) : P (Machine.noticeOrigin r s) := by
  unfold Machine.noticeOrigin
  split
  · exact H.raise _ _ _ hs
  · exact hs

theorem completeIfDone (k : SlotId) (hs : P s) : P (Machine.completeIfDone k s) := by
  unfold Machine.completeIfDone
  split
  · exact hs
  · split
    · exact H.noticeOrigin _ (H.finishRecord k .done .completed (.inl rfl) hs)
    · exact hs

theorem handCancelled (r : TransRec) (cause : EndCause) (hs : P s) : P (Machine.handCancelled r cause s) := by
  unfold Machine.handCancelled
  split
  · exact hs
  · exact H.emit _ hs
  · exact hs
  · exact H.noticeOrigin r hs

theorem cancelRecord (cause : EndCause) (k : SlotId) (hs : P s) : P (Machine.cancelRecord cause k s) := by
  unfold Machine.cancelRecord
  split
  · exact hs
  · split
    · exact H.handCancelled _ cause (H.finishRecord k .cancelled cause (.inr rfl) hs)
    · exact hs

theorem cancelAll (cause : EndCause) (hs : P s) : P (Machine.cancelAll cause s) :=
  forEach_keeps P _ _ (fun k _ _ ht => H.cancelRecord cause k ht) s hs

theorem dropRelease (k : SlotId) (g : GroupId) (hs : P s) : P (Machine.dropRelease k g s) := by
  unfold Machine.dropRelease
  split
  · exact hs
  · next r hr =>
    have h1 : P (Machine.withdrawClaim r.id g (modSlot k (dropItem g) s)) :=
      H.withdrawClaim r.id g (H.record k _ s (fun _ _ => ⟨rfl, id⟩) hs)
    dsimp only
    split
    · exact H.cancelRecord .redLost k h1
    · exact H.completeIfDone k (H.noticeOrigin r h1)

theorem takeLostMarking (i : GroupId) (hs : P s) : P (Machine.takeLostMarking i s) := by
  refine forEach_keeps P _ _ (fun j _ t ht => ?_) s hs
  split
  · exact ht
  · split
    · exact ht
    · split
      · exact H.dropRelease _ j ht
      · exact ht

theorem dropLostReleases (k : SlotId) (hs : P s) : P (Machine.dropLostReleases k s) := by
  refine forEach_keeps P _ _ (fun j _ t ht => ?_) s hs
  split
  · exact H.dropRelease k j ht
  · exact ht

theorem settleItem (k : SlotId) (g : GroupId) (hs : P s) : P (Machine.settleItem k g s) := by
  unfold Machine.settleItem
  split
  · exact hs
  · next r hr =>
    split
    · exact hs
    · next it hit =>
      have h1 : P (modGroup g (fun q => { q with claim := some { id := r.id, kind := it.kind } }) s) :=
        H.group g _ s (fun _ => rfl) hs
      have hset : ∀ o t, P t → P (modSlot k (setOutcome g o) t) :=
        fun o t ht => H.record k _ t (fun _ _ => ⟨rfl, id⟩) ht
      dsimp only
      split
      · split
        · exact H.group g _ _ (fun _ => rfl) h1
        · exact hset _ _ h1
      · split
        · exact hset _ _ h1
        · split
          · next hr' => exact H.enterState g .redWait (by simp [hr']) h1
          · exact h1

theorem takePlaced (id : TransId) (hs : P s) : P (Machine.takePlaced id s) := by
  refine forEach_keeps P _ _ (fun g _ t ht => ?_) s hs
  split
  · exact H.takeTerminate g ht
  · exact ht

theorem activate (k : SlotId) (hq : ∀ r, slot s k = some r → r.state = .queued) (hs : P s) :
    P (Machine.activate k s) := by
  unfold Machine.activate
  split
  · exact hs
  · next r hr =>
    have h1 : P (modSlot k (fun q => { q with state := .active }) s) :=
      H.record k _ s (fun q hq' => ⟨rfl, fun _ => by simp [isLive, hq q hq']⟩) hs
    exact H.completeIfDone k (H.takePlaced r.id (H.dropLostReleases k
      (forEach_keeps P _ _ (fun g _ _ ht => H.settleItem k g ht) _ h1)))

theorem activationPass (ks : List SlotId) : ∀ (sup : List TransRec) (s : State), P s →
    P (Machine.activationPass ks sup s) := by
  induction ks with
  | nil => exact fun _ _ hs => hs
  | cons k rest ih =>
    intro sup s hs
    unfold Machine.activationPass
    split
    · exact ih _ _ hs
    · next r hr =>
      split
      · next hq =>
        split
        · exact ih _ _ (H.activate k (fun r' hr' => by rw [hr] at hr'; cases hr'; exact hq) hs)
        · exact ih _ _ hs
      · exact ih _ _ hs

theorem examineScheduling (hs : P s) : P (Machine.examineScheduling s) := by
  refine forEach_keeps P _ _ (fun j _ t ht => ?_) s hs
  unfold Machine.scheduleGroup
  split
  · exact H.group j _ t (fun _ => rfl) ht
  · exact ht

theorem examineSchedule (hs : P s) : P (Machine.examineSchedule s) := by
  unfold Machine.examineSchedule
  split
  · exact H.examineScheduling hs
  · exact hs

theorem examineArbiter (hs : P s) : P (Machine.examineArbiter s) := by
  unfold Machine.examineArbiter
  split
  · exact H.examineScheduling (H.activationPass _ _ _ hs)
  · exact hs

theorem markReached (g : GroupId) (kd : ItemKind) (hs : P s) : P (Machine.markReached g kd s) := by
  unfold Machine.markReached
  split
  · exact hs
  · split
    · split
      · exact hs
      · dsimp only
        split
        · exact H.completeIfDone _ (H.record _ _ s (fun _ _ => ⟨rfl, id⟩) hs)
        · exact hs
    · exact hs

theorem arbiterEntry (g : GroupId) (st : GState) (hs : P s) : P (Machine.arbiterEntry g st s) := by
  unfold Machine.arbiterEntry
  dsimp only
  split
  · exact H.examineArbiter (H.markReached g .release hs)
  · exact H.examineArbiter (H.markReached g .terminate hs)
  · exact H.examineArbiter hs

theorem cancelTramCall (id : TransId) (hs : P s) : P (Machine.cancelTramCall id s) := by
  unfold Machine.cancelTramCall
  split
  · exact hs
  · exact H.cancelRecord .tramEngine _ hs

theorem updateTramCall (id : TransId) (call : TramCall) (hs : P s) :
    P (Machine.updateTramCall id call s) := by
  unfold Machine.updateTramCall
  split
  · exact hs
  · exact H.emit _ (H.record _ _ s (fun _ _ => ⟨rfl, fun h => h⟩) hs)

theorem retestUnused (k : SlotId) (hs : P s) : P (Machine.retestUnused k s) := by
  unfold Machine.retestUnused
  split
  · exact hs
  · next r hr =>
    split
    · have h1 : P (forEach (allGroups.filter fun g => named r g && !used s g)
          (fun g s => Machine.withdrawClaim r.id g (modSlot k (dropItem g) s)) s) :=
        forEach_keeps P _ _
          (fun g _ t ht => H.withdrawClaim r.id g (H.record k (dropItem g) t (fun _ _ => ⟨rfl, id⟩) ht)) s hs
      dsimp only
      split
      · exact H.cancelRecord .config k h1
      · exact H.completeIfDone k h1
    · exact hs

theorem retestConflicts (k : SlotId) (hs : P s) : P (Machine.retestConflicts k s) := by
  unfold Machine.retestConflicts
  split
  · exact hs
  · split
    · exact H.cancelRecord .config k hs
    · exact hs

theorem retestActive (before : List SlotId) (k : SlotId) (hs : P s) : P (Machine.retestActive before k s) := by
  unfold Machine.retestActive
  split
  · exact hs
  · split
    · exact H.cancelRecord .config k hs
    · exact hs

theorem retestActivePass (ks : List SlotId) : ∀ (before : List SlotId) (s : State), P s →
    P (Machine.retestActivePass ks before s) := by
  induction ks with
  | nil => exact fun _ _ hs => hs
  | cons k rest ih => exact fun before s hs => ih _ _ (H.retestActive before k hs)

theorem retestAll (hs : P s) : P (Machine.retestAll s) := by
  refine H.emit _ (H.retestActivePass _ _ _ ?_)
  refine forEach_keeps P _ _ (fun k _ _ ht => H.retestConflicts k ht) _ ?_
  exact forEach_keeps P _ _ (fun k _ _ ht => H.retestUnused k ht) s hs

/-! ### Tram priority engine -/

theorem recomputeHold (g : GroupId) (hs : P s) : P (Machine.recomputeHold g s) := H.setHoldUntil g _ hs

theorem takeHold (k : EntryId) (r : TramRec) (h : Time) (capped : Bool) (hs : P s) :
    P (Machine.takeHold k r h capped s) := by
  unfold Machine.takeHold
  generalize (if after h s.now = true then TramState.holding else TramState.overdue) = st
  have h1 : P (modTram k
      (fun r => { r with holdEnd := some h, capped := capped, state := st, awaitsSlot := false }) s) :=
    H.tram k _ s (fun _ => ⟨rfl, rfl⟩) hs
  dsimp only
  split
  · exact H.stats _ _ _ h1
  · exact h1

theorem computeHold (k : EntryId) (r : TramRec) (hs : P s) : P (Machine.computeHold k r s) := by
  unfold Machine.computeHold
  dsimp only
  split
  · exact H.stats _ _ _ (H.takeHold k r _ _ hs)
  · exact H.takeHold k r _ _ hs

theorem postCall (k : EntryId) (r : TramRec) (hs : P s) : P (Machine.postCall k r s) := by
  unfold Machine.postCall
  split
  · exact H.tram k _ s (fun _ => ⟨rfl, rfl⟩) hs
  · exact H.stats _ _ _ (H.tram k _ _ (fun _ => ⟨rfl, rfl⟩) (H.post _ _ _ _ _ s hs))

theorem cancelCall (k : EntryId) (r : TramRec) (hs : P s) : P (Machine.cancelCall k r s) := by
  unfold Machine.cancelCall
  split
  · exact hs
  · exact H.tram k _ _ (fun _ => ⟨rfl, rfl⟩) (H.cancelTramCall _ hs)

theorem setTramState (k : EntryId) (st : TramState) (hs : P s) : P (Machine.setTramState k st s) :=
  H.tram k _ s (fun _ => ⟨rfl, rfl⟩) hs

theorem evaluate (k : EntryId) (anew : Bool) (hs : P s) : P (Machine.evaluate k anew s) := by
  unfold Machine.evaluate
  split
  · exact hs
  · next r hr =>
    refine H.recomputeHold _ ?_
    split
    · exact H.setTramState k _ (H.cancelCall k r hs)
    · split
      · split
        · exact H.takeHold k r _ _ hs
        · exact H.takeHold k r _ _ hs
        · exact H.computeHold k r hs
      · split
        · exact H.setTramState k _ hs
        · split
          · exact H.setTramState k _ hs
          · split
            · exact H.postCall k r (H.setTramState k _ hs)
            · exact H.setTramState k _ hs

theorem evaluateWhere (p : TramRec → Bool) (anew : Bool) (hs : P s) :
    P (Machine.evaluateWhere p anew s) := H.emitAll _ hs

theorem takeSlotFree (hs : P s) : P (Machine.takeSlotFree s) := by
  unfold Machine.takeSlotFree
  split
  · exact hs
  · split
    · exact H.postCall _ _ hs
    · exact hs

theorem dropAtGreen (g : GroupId) (k : EntryId) (hs : P s) : P (Machine.dropAtGreen g k s) := by
  unfold Machine.dropAtGreen
  split
  · exact hs
  · split
    · split
      · exact hs
      · refine H.tram k _ _ (fun _ => ⟨rfl, rfl⟩) ?_
        split
        · exact H.cancelTramCall _ hs
        · exact hs
    · exact hs

theorem dropHold (g : GroupId) (k : EntryId) (hs : P s) : P (Machine.dropHold g k s) := by
  unfold Machine.dropHold
  split
  · exact hs
  · split
    · exact H.tram k _ s (fun _ => ⟨rfl, rfl⟩) hs
    · exact hs

theorem tramEntry (g : GroupId) (st : GState) (hs : P s) : P (Machine.tramEntry g st s) := by
  unfold Machine.tramEntry
  split
  · exact H.evaluateWhere _ _ (forEach_keeps P _ _ (fun k _ _ ht => H.dropAtGreen g k ht) s hs)
  · exact H.evaluateWhere _ _ (forEach_keeps P _ _ (fun k _ _ ht => H.dropHold g k ht) s hs)
  · exact hs

theorem tramCancelled (id : TransId) (hs : P s) : P (Machine.tramCancelled id s) := by
  unfold Machine.tramCancelled
  split
  · exact hs
  · exact H.evaluate _ _ (H.tram _ _ s (fun _ => ⟨rfl, rfl⟩) hs)

theorem changeGroup (k : EntryId) (r : TramRec) (g : GroupId) (hs : P s) :
    P (Machine.changeGroup k r g s) :=
  H.recomputeHold _ (H.tram k _ _ (fun _ => ⟨rfl, rfl⟩) (H.cancelCall k r hs))

theorem updateTram (k : EntryId) (r : TramRec) (c : CheckIn) (g : GroupId) (hs : P s) :
    P (Machine.updateTram k r c g s) := by
  unfold Machine.updateTram
  have h1 : P (modTram k (fun q =>
      { q with
        line := c.line, route := c.route, source := c.source, checkInAt := s.now,
        lateness := c.lateness, level := tramLevel (cfg s) c.line c.lateness,
        arrival := predictedArrival s c.distance c.speed }) s) := H.tram k _ s (fun _ => ⟨rfl, rfl⟩) hs
  dsimp only
  split
  · refine H.evaluate k false ?_
    split
    · refine H.recomputeHold g (H.computeHold k _ ?_)
      split
      · exact H.updateTramCall _ _ h1
      · exact h1
    · split
      · exact H.updateTramCall _ _ h1
      · exact h1
  · exact H.evaluate k false (H.changeGroup k _ g h1)

theorem removeTram (k : EntryId) (r : TramRec) (hs : P s) : P (Machine.removeTram k r s) := by
  unfold Machine.removeTram
  have h1 := H.gone k _ (H.cancelCall k r hs)
  dsimp only
  split
  · exact H.recomputeHold _ h1
  · exact h1

theorem checkOut (k : EntryId) (r : TramRec) (hs : P s) : P (Machine.checkOut k r s) :=
  H.removeTram k r (H.stats _ _ s hs)

theorem loseTram (k : EntryId) (r : TramRec) (hs : P s) : P (Machine.loseTram k r s) :=
  H.raiseFor _ _ (H.removeTram k r (H.stats _ _ s hs))

theorem applyTram (old : Image) (k : EntryId) (hs : P s) : P (Machine.applyTram old k s) := by
  unfold Machine.applyTram
  split
  · exact hs
  · next r hr =>
    split
    · exact H.removeTram k r hs
    · next g hg =>
      have h1 : P (modTram k (fun q => { q with level := tramLevel (cfg s) r.line r.lateness }) s) :=
        H.tram k _ s (fun _ => ⟨rfl, rfl⟩) hs
      split
      · exact H.loseTram k r hs
      · dsimp only
        split
        · exact h1
        · exact H.changeGroup k _ g h1

theorem applyTrams (old : Image) (hs : P s) : P (Machine.applyTrams old s) :=
  H.emit _ (forEach_keeps P _ _ (fun k _ _ ht => H.applyTram old k ht) s hs)

/-! ### Demand logic -/

theorem takeClearEntry (g : GroupId) (hs : P s) : P (Machine.takeClearEntry g s) := by
  unfold Machine.takeClearEntry
  split
  · split
    · exact H.group g _ s (fun _ => rfl) hs
    · exact hs
  · exact hs

theorem updateGap (g : GroupId) (hs : P s) : P (Machine.updateGap g s) := by
  unfold Machine.updateGap
  split
  · split
    · exact H.group g _ s (fun _ => rfl) hs
    · split
      · exact H.group g _ s (fun _ => rfl) hs
      · exact hs
  · exact hs

end BlocksKeep

end Sys2Proof.Machine
end

