-- ==== Sys2Proof/Laws/Cascade.lean ====
section
/-! SUPPORT. Settling hand-offs: with none there is nothing to settle; what every block keeps, settling
keeps; and in a quiet state the hand-offs find nothing to do. -/

namespace Sys2Proof.Machine

open Sys2Proof

/-! ### Settling -/

/-- With no hand-off set off, settling is no change. -/
theorem settle_of_no_work (n : Nat) (s : State) (h : s.work = []) : settle n s = s := by
  cases n with
  | zero => rfl
  | succ n => simp [settle, h]

theorem settled_of_no_work (s : State) (h : s.work = []) : settled s = s := settle_of_no_work _ s h

/-- The first hand-off is taken; what it sets off comes before the rest. -/
theorem settle_cons (n : Nat) (s : State) (h : Handoff) (rest : List Handoff) (hw : s.work = h :: rest) :
    settle (n + 1) s =
      settle n
        { handle h { s with work := [] } with work := (handle h { s with work := [] }).work ++ rest } := by
  simp [settle, hw]

/-- What every hand-off and the bookkeeping of `work` keep, settling keeps. -/
theorem settle_keeps (P : State → Prop) (hw : ∀ s w, P s → P { s with work := w })
    (hh : ∀ h s, P s → P (handle h s)) (n : Nat) : ∀ s, P s → P (settle n s) := by
  induction n with
  | zero => exact fun s hs => hs
  | succ n ih =>
    intro s hs
    unfold settle
    split
    · exact hs
    · exact ih _ (hw _ _ (hh _ _ (hw _ _ hs)))

theorem settled_keeps (P : State → Prop) (hw : ∀ s w, P s → P { s with work := w })
    (hh : ∀ h s, P s → P (handle h s)) (s : State) (hs : P s) : P (settled s) :=
  settle_keeps P hw hh _ s hs

/-- A property that the four blocks keep is kept by every hand-off once it is kept by the three that the
configuration manager and the junction mode controller take. -/
theorem BlocksKeep.handle {P : State → Prop} (H : BlocksKeep P)
    (hcommit : ∀ s, P s → P (examineCommit s)) (hclear : ∀ s, P s → P (examineClearing s))
    (hlost : ∀ s, P s → P (examineLost s)) (h : Handoff) (s : State) (hs : P s) :
    P (Machine.handle h s) := by
  cases h with
  | arbiterEntry g st => exact H.arbiterEntry g st hs
  | tramEntry g st => exact H.tramEntry g st hs
  | configExamine => exact hcommit s hs
  | clearingExamine => exact hclear s hs
  | clearDemand g => exact H.takeClearEntry g hs
  | arbiterExamine => exact H.examineArbiter hs
  | scheduleExamine => exact H.examineSchedule hs
  | arbiterLost g => exact H.takeLostMarking g hs
  | lostExamine => exact hlost s hs
  | slotFree => exact H.takeSlotFree hs
  | tramCancelled id => exact H.tramCancelled id hs
  | tramEvaluate k anew => exact H.evaluate k anew hs
  | tramEvaluateAll => exact H.evaluateWhere _ _ hs
  | tramEvaluateGroup g => exact H.evaluateWhere _ _ hs

/-- The same for a whole command's hand-offs. -/
theorem BlocksKeep.settled {P : State → Prop} (H : BlocksKeep P)
    (hcommit : ∀ s, P s → P (examineCommit s)) (hclear : ∀ s, P s → P (examineClearing s))
    (hlost : ∀ s, P s → P (examineLost s)) (s : State) (hs : P s) : P (Machine.settled s) :=
  settled_keeps P H.work (H.handle hcommit hclear hlost) s hs

/-! ### Quiet states -/

/-- Nothing is live, no tram is listed and no commit waits: `Quiet` without the part about `work`. -/
structure Still (s : State) : Prop where
  records : ∀ k r, slot s k = some r → isLive r = false
  trams : ∀ k, tram s k = none
  commit : s.commit ≠ .waitingApply

theorem Quiet.still {s : State} (h : Quiet s) : Still s := ⟨h.records, h.trams, h.commit⟩

/-- Stillness is about the tables and the commit state alone. -/
theorem Still.of_eq {s t : State} (h : Still s) (h1 : t.slots = s.slots) (h2 : t.trams = s.trams)
    (h3 : t.commit = s.commit) : Still t :=
  ⟨fun k r hk => h.records k r (by rw [slot_congr h1] at hk; exact hk),
    fun k => by rw [tram_congr h2]; exact h.trams k, h3 ▸ h.commit⟩

theorem Still.no_live {s : State} (h : Still s) (k : SlotId) : (slot s k).any isLive = false := by
  cases hk : slot s k with
  | none => rfl
  | some r => simpa using h.records k r hk

theorem Still.queueOrder {s : State} (h : Still s) : Machine.queueOrder s = [] := by
  have : liveInOrder s = [] := by
    unfold liveInOrder
    rw [List.filter_eq_nil_iff]
    intro k _
    rw [h.no_live k]
    simp
  simp [Machine.queueOrder, this]

theorem Still.activeSlotOf {s : State} (h : Still s) (id : TransId) : Machine.activeSlotOf s id = none := by
  unfold Machine.activeSlotOf
  rw [List.find?_eq_none]
  intro k _
  cases hk : slot s k with
  | none => simp
  | some r =>
    have := h.records k r hk
    simp only [Option.any_some, Bool.and_eq_true, not_and]
    intro hr
    simp [isLive] at this
    simp [this] at hr

theorem Still.liveSlotOf {s : State} (h : Still s) (id : TransId) : Machine.liveSlotOf s id = none := by
  unfold Machine.liveSlotOf
  rw [List.find?_eq_none]
  intro k _
  cases hk : slot s k with
  | none => simp
  | some r => simp [h.records k r hk]

theorem Still.liveRecs {s : State} (h : Still s) : Machine.liveRecs s = [] := by
  unfold Machine.liveRecs
  rw [List.filterMap_eq_nil_iff]
  intro k _
  cases hk : slot s k with
  | none => rfl
  | some r => simp [Option.filter, h.records k r hk]

/-- The RA finds nothing to schedule. -/
theorem Still.examineScheduling {s : State} (h : Still s) : Machine.examineScheduling s = s := by
  refine forEach_id _ _ _ fun j _ => ?_
  have : maySchedule s j = false := by
    unfold maySchedule
    cases hc : (grp s j).claim with
    | none => simp
    | some c => simp [h.activeSlotOf]
  show Machine.scheduleGroup j s = s
  simp [Machine.scheduleGroup, this]

theorem Still.examineSchedule {s : State} (h : Still s) : Machine.examineSchedule s = s := by
  unfold Machine.examineSchedule
  split
  · exact h.examineScheduling
  · rfl

/-- The RA finds nothing to activate and nothing to schedule. -/
theorem Still.examineArbiter {s : State} (h : Still s) : Machine.examineArbiter s = s := by
  unfold Machine.examineArbiter
  split
  · rw [h.queueOrder]
    exact h.examineScheduling
  · rfl

theorem Still.markReached {s : State} (h : Still s) (g : GroupId) (kd : ItemKind) :
    Machine.markReached g kd s = s := by
  unfold Machine.markReached
  split
  · rfl
  · split
    · rw [h.activeSlotOf]
    · rfl

theorem Still.arbiterEntry {s : State} (h : Still s) (g : GroupId) (st : GState) :
    Machine.arbiterEntry g st s = s := by
  unfold Machine.arbiterEntry
  cases st <;> simp only [h.markReached, h.examineArbiter]

theorem Still.takeLostMarking {s : State} (h : Still s) (g : GroupId) :
    Machine.takeLostMarking g s = s := by
  refine forEach_id _ _ _ fun j _ => ?_
  split
  · rfl
  · rw [h.activeSlotOf]

theorem Still.tramOrder {s : State} (h : Still s) (p : TramRec → Bool) : Machine.tramOrder p s = [] := by
  have : (allEntries.filter fun k => (tram s k).any p) = [] := by
    rw [List.filter_eq_nil_iff]
    intro k _
    simp [h.trams k]
  simp [Machine.tramOrder, this]

theorem Still.evaluateWhere {s : State} (h : Still s) (p : TramRec → Bool) (anew : Bool) :
    Machine.evaluateWhere p anew s = s := by
  simp [Machine.evaluateWhere, h.tramOrder, Machine.emitAll]

theorem Still.takeSlotFree {s : State} (h : Still s) : Machine.takeSlotFree s = s := by
  simp [Machine.takeSlotFree, h.tramOrder]

theorem Still.tramEntry {s : State} (h : Still s) (g : GroupId) (st : GState) :
    Machine.tramEntry g st s = s := by
  have h1 : forEach allEntries (Machine.dropAtGreen g) s = s :=
    forEach_id _ _ _ fun k _ => by simp [Machine.dropAtGreen, h.trams k]
  have h2 : forEach allEntries (Machine.dropHold g) s = s :=
    forEach_id _ _ _ fun k _ => by simp [Machine.dropHold, h.trams k]
  unfold Machine.tramEntry
  split
  · rw [h1]; exact h.evaluateWhere _ _
  · rw [h2]; exact h.evaluateWhere _ _
  · rfl

theorem Still.tramCancelled {s : State} (h : Still s) (id : TransId) : Machine.tramCancelled id s = s := by
  have : (allEntries.find? fun k => (tram s k).any fun r => r.transition == some id) = none := by
    rw [List.find?_eq_none]
    intro k _
    simp [h.trams k]
  simp [Machine.tramCancelled, this]

theorem Still.evaluate {s : State} (h : Still s) (k : EntryId) (anew : Bool) :
    Machine.evaluate k anew s = s := by
  simp [Machine.evaluate, h.trams k]

theorem Still.examineCommit {s : State} (h : Still s) : Machine.examineCommit s = s := by
  simp [Machine.examineCommit, h.commit]

/-- A hand-off that finds nothing to do in a still state: any but a CLEAR entry at the demand logic, and
the JMC's count of lost reds or its watch on CLEARING where the mode makes it act. -/
def idle (s : State) : Handoff → Prop
  | .clearDemand _ => False
  | .clearingExamine => s.mode = .clearing → clearingDone s = false
  | .lostExamine => s.mode ≠ .normal ∨ lostCount s < 2
  | _ => True

theorem Still.handle {s : State} (h : Still s) (x : Handoff) (hx : idle s x) : Machine.handle x s = s := by
  cases x with
  | arbiterEntry g st => exact h.arbiterEntry g st
  | tramEntry g st => exact h.tramEntry g st
  | configExamine => exact h.examineCommit
  | clearingExamine =>
    simp only [idle] at hx
    simp only [Machine.handle, Machine.examineClearing]
    rw [if_neg]
    rintro ⟨h1, h2⟩
    rw [hx h1] at h2
    exact absurd h2 (by simp)
  | clearDemand g => exact absurd hx (by simp [idle])
  | arbiterExamine => exact h.examineArbiter
  | scheduleExamine => exact h.examineSchedule
  | arbiterLost g => exact h.takeLostMarking g
  | lostExamine =>
    simp only [idle] at hx
    simp only [Machine.handle, Machine.examineLost]
    rw [if_neg]
    rintro ⟨h1, h2⟩
    rcases hx with hx | hx
    · exact hx h1
    · omega
  | slotFree => exact h.takeSlotFree
  | tramCancelled id => exact h.tramCancelled id
  | tramEvaluate k anew => exact h.evaluate k anew
  | tramEvaluateAll => exact h.evaluateWhere _ _
  | tramEvaluateGroup g => exact h.evaluateWhere _ _

/-- Hand-offs that find nothing to do are taken without effect. -/
theorem Still.settle_idle (n : Nat) : ∀ (s : State), Still s → s.work.length ≤ n →
    (∀ x ∈ s.work, idle s x) → settle n s = { s with work := [] } := by
  induction n with
  | zero =>
    intro s _ hl _
    have : s.work = [] := List.eq_nil_of_length_eq_zero (by omega)
    simp [settle, ← this]
  | succ n ih =>
    intro s hs hl hi
    cases hw : s.work with
    | nil => rw [settle_of_no_work _ _ hw, ← hw]
    | cons x rest =>
      have hi' : ∀ y ∈ x :: rest, idle s y := hw ▸ hi
      have hl' : (x :: rest).length ≤ n + 1 := hw ▸ hl
      have hs' : Still { s with work := [] } := hs.of_eq rfl rfl rfl
      have hx : idle { s with work := [] } x := by
        have := hi' x List.mem_cons_self
        cases x <;> exact this
      rw [settle_cons n s x rest hw, hs'.handle x hx]
      have := ih { s with work := rest } (hs.of_eq rfl rfl rfl)
        (by simpa using hl')
        (fun y hy => by
          have := hi' y (List.mem_cons_of_mem x hy)
          cases y <;> exact this)
      simpa using this

/-- A command in a still state whose hand-offs find nothing to do ends as it stands. -/
theorem Still.settled_idle {s : State} (h : Still s) (hl : s.work.length ≤ settleFuel)
    (hi : ∀ x ∈ s.work, idle s x) : settled s = { s with work := [] } :=
  Still.settle_idle settleFuel s h hl hi

end Sys2Proof.Machine
end

