-- ==== Sys2Proof/Laws/Link.lean ====
section
/-! SUPPORT. What a reply does to the link, how a request comes to it, and the group lists of requests. -/

namespace Sys2Proof.Machine

open Sys2Proof

/-! ### Replies -/

/-- Two changes of one role's part of the link are one. -/
theorem modLink_modLink (r : Role) (f g : LinkRec → LinkRec) (s : State) :
    modLink r f (modLink r g s) = modLink r (fun l => f (g l)) s := by
  simp [modLink, look, put]

/-- A reply over a slot of a role that is seen changes that role's part of the link and nothing else. -/
theorem answer_eq (r : Role) (reply : Reply) (s : State) (hs : (link s r).seen = true) :
    answer r reply s = modLink r (repliedLink reply) s := by
  have heq : ∀ f g : LinkRec → LinkRec, f (link s r) = g (link s r) → modLink r f s = modLink r g s := by
    intro f g h
    have h' : f (look s.links (roleIndex r)) = g (look s.links (roleIndex r)) := h
    simp only [modLink, h']
  unfold answer discardReply countUnread
  cases hl : (link s r).slot with
  | empty =>
    simp only [hl]
    exact heq _ _ (by simp [repliedLink, hl, hs])
  | pending =>
    simp only [hl]
    exact heq _ _ (by simp [repliedLink, hl, hs])
  | ready rep p =>
    simp only [countError, link_modLink, if_true, hl]
    cases p <;> simp only [Bool.false_eq_true, if_true, if_false, dropNotice, modLink_modLink] <;>
      exact heq _ _ (by simp [repliedLink, hl, hs])

/-- A role seen twice is a role seen. -/
theorem repliedLink_setSeen (reply : Reply) (l : LinkRec) :
    repliedLink reply { l with seen := true } = repliedLink reply l := by
  unfold repliedLink
  cases l.slot with
  | empty => rfl
  | pending => rfl
  | ready rep p => cases p <;> rfl

/-- The supervision timer after a reply (R68). -/
theorem superviseRestart_supervision (role : Role) (code : ReplyCode) (s : State) :
    (superviseRestart role code s).supervision =
      if role = .plan ∧ isRefusal code = false ∧ s.mode = .normal then some s.now else s.supervision := by
  unfold superviseRestart
  split <;> rfl

/-- A reply restarts nothing but the supervision timer (R68). -/
theorem superviseRestart_eq (role : Role) (code : ReplyCode) (s : State) :
    superviseRestart role code s =
      { s with
        links := (superviseRestart role code s).links
        supervision := (superviseRestart role code s).supervision } := by
  unfold superviseRestart
  split <;> rfl

/-- A request that its owner answers: the state the owner left, with its reply taken (R68, R152, R154). -/
theorem takeRequest_replied (role : Role) (params : List Byte) (owner : State → State × Reply)
    (reply : Reply) (s u : State) (h : Answerable role params s)
    (ho : owner (setSeen role s) = (setSeen role u, reply)) (hw : u.work = []) :
    Replied role reply u (takeRequest role true params owner s) := by
  have hlen : ¬ 40 < params.length := by have := h.length; omega
  have hslot : (link (setSeen role s) role).slot ≠ .pending := by
    simp only [setSeen, link_modLink, if_true]
    exact h.slot
  have hans : answer role reply (setSeen role u) = modLink role (repliedLink reply) u := by
    rw [answer_eq _ _ _ (by simp [setSeen])]
    simp only [setSeen, modLink_modLink, repliedLink_setSeen]
  have hwork : (superviseRestart role reply.code (modLink role (repliedLink reply) u)).work = [] := by
    unfold superviseRestart
    split <;> exact hw
  have e : takeRequest role true params owner s =
      superviseRestart role reply.code (modLink role (repliedLink reply) u) := by
    simp only [takeRequest, if_neg hlen, if_neg hslot, if_true, finishRequest, ho, hans]
    exact settled_of_no_work _ hwork
  have hlink : ∀ r, link (superviseRestart role reply.code (modLink role (repliedLink reply) u)) r =
      link (modLink role (repliedLink reply) u) r := by
    intro r
    unfold superviseRestart
    split <;> rfl
  rw [e]
  refine ⟨?_, ?_, ?_, ?_⟩
  · rw [hlink]; simp
  · intro r hr
    rw [hlink]
    simp [Ne.symm hr]
  · exact superviseRestart_supervision role reply.code (modLink role (repliedLink reply) u)
  · exact superviseRestart_eq role reply.code (modLink role (repliedLink reply) u)

/-- A role without the right to a request is answered REFUSED_ROLE (R157). -/
theorem takeRequest_forbidden (role : Role) (params : List Byte) (owner : State → State × Reply) (s : State)
    (h : Answerable role params s) :
    Replied role (plain .refusedRole) s (takeRequest role false params owner s) := by
  have e : takeRequest role false params owner s =
      takeRequest role true params (fun s => (s, plain .refusedRole)) s := by
    simp [takeRequest]
  rw [e]
  exact takeRequest_replied role params _ _ s s h rfl h.work

/-- A PENDING slot drops the request with a busy drop (R154). -/
theorem takeRequest_pending (role : Role) (granted : Bool) (params : List Byte)
    (owner : State → State × Reply) (s : State) (hlen : params.length ≤ 40)
    (h : (link s role).slot = .pending) :
    takeRequest role granted params owner s =
      modLink role
        (fun l => { l with seen := true, counts := { l.counts with busyDrops := satInc l.counts.busyDrops } })
        s := by
  have h1 : ¬ 40 < params.length := by omega
  have h2 : (link (setSeen role s) role).slot = .pending := by simp [setSeen, h]
  simp only [takeRequest, if_neg h1, if_pos h2]
  simp only [busyDrop, countError, setSeen, modLink_modLink]

/-! ### Lists of groups -/

/-- A group's number names the group (R164). -/
theorem groupOfNat_groupByte (g : GroupId) : groupOfNat (groupByte g).toNat = some g := by
  revert g
  decide

/-- The numbers of distinct groups name those groups (R42, R85, R114, R146). -/
theorem namedGroups_groupByte (gs : List GroupId) (h : gs.Nodup) :
    namedGroups (gs.map groupByte) = some gs := by
  induction gs with
  | nil => rfl
  | cons g rest ih =>
    rw [List.nodup_cons] at h
    simp [namedGroups, groupOfNat_groupByte, ih h.2, h.1]

end Sys2Proof.Machine
end

