-- ==== Sys2Proof/WellFormed.lean ====
section
/-! DEFINITION. Which commands the outside can send: the limits the spec puts on their operands. -/

namespace Sys2Proof

open Machine

/-- The parameters of a request: n is 0 to 40 (R152). -/
def paramsOk (params : List Byte) : Bool := decide (params.length ≤ 40)

/-- A frame that opens for writing: an address byte with direction 0 (R151, R152). -/
def opensForWriting : List Byte → Bool
  | [] => false
  | b :: _ => b.getLsbD 0 == false

/-- The command is well-formed. -/
def wellFormed : Instr → Bool
  | .powerOnReset _ => true
  | .autostart => true
  | .junctionTimeAdvance => true
  | .flashPhaseChange => true
  | .stampDrop _ _ => true
  | .minimumRedExpires _ => true
  | .nowReachesS _ => true
  | .nowReachesT _ => true
  | .minimumGreenExpires _ => true
  | .nowReachesHoldUntil _ => true
  | .clearTimeExpires _ => true
  | .startFlashExpires => true
  | .startRedExpires => true
  | .supervisionExpires => true
  | .lampSenseSample _ => true
  | .unwantedProceed _ => true
  | .redLost _ => true
  | .lampOut _ which => which != .a
  | .stuckOn _ which => which != .c
  | .clearLockoutCheckPasses => true
  | .noOsc _ => true
  | .lowFreq _ => true
  | .measurementComplete _ count => decide (count ≤ 204800)
  | .trackingMoment => true
  | .presenceLimitExpires _ => true
  | .inputSample _ => true
  | .debouncedStateChange _ => true
  | .gapValueSaturates _ => true
  | .framingError => true
  | .byteComplete => true
  | .gapTimerExpires => true
  | .lineBreak => true
  | .brokenWaitComplete => true
  | .holdTimerExpires _ => true
  | .lostTimerExpires _ => true
  | .requestFrameDrop bytes _ => opensForWriting bytes
  | .linkClockTimeout _ _ => true
  | .replyRead _ _ => true
  | .requestCodeUnknown _ code => !knownCode code
  | .readJunction _ params => paramsOk params
  | .readGroups _ params => paramsOk params
  | .readTransitions _ params => paramsOk params
  | .readLoops _ params => paramsOk params
  | .readTrams _ params => paramsOk params
  | .readCounts _ params => paramsOk params
  | .noticePoll _ params => paramsOk params
  | .keepalive _ params => paramsOk params
  | .demand _ params => paramsOk params
  | .priorityInhibit _ params => paramsOk params
  | .transition _ params => paramsOk params
  | .cancelTransition _ params => paramsOk params
  | .mode _ params => paramsOk params
  | .groupInhibit _ params => paramsOk params
  | .tramCheckIn _ params => paramsOk params
  | .tramCheckOut _ params => paramsOk params
  | .tramCancel _ params => paramsOk params
  | .writeConfig _ params => paramsOk params
  | .commitConfig _ params => paramsOk params
  | .storeWriteEnd _ => true
  | .discardStaging _ params => paramsOk params
  | .readConfig _ params => paramsOk params
  | .clearLockout _ params => paramsOk params
  | .clearLampFaults _ params => paramsOk params
  | .clearCounts _ params => paramsOk params
  | .restart _ params => paramsOk params
  | .beaconLineSample _ => true

end Sys2Proof
end

