-- ==== Sys2Proof/Laws/PerInstr.lean ====
section
/-! SUPPORT. Statements about every command, made for each constructor: a well-formed request fits the link
frame, 44 bytes with address, code, length and check byte (R152). -/

namespace Sys2Proof.Laws.RequestFits

open Sys2Proof Sys2Proof.Machine

/-- A well-formed request fits its frame: no more than 40 parameter bytes (R152). -/
def Statement (i : Instr) : Prop :=
  wellFormed i = true → ∀ role params, requestOf i = some (role, params) → params.length ≤ 40

/-- Every request is well-formed when its parameters fit. -/
theorem of_params (i : Instr) (role : Role) (params : List Byte) (hr : requestOf i = some (role, params))
    (hw : wellFormed i = paramsOk params) : Statement i := by
  intro h r p hrp
  rw [hr] at hrp
  injection hrp with hrp
  injection hrp with h1 h2
  rw [hw] at h
  simpa [paramsOk, h2] using h

/-- A command that is no request. -/
theorem of_event (i : Instr) (hr : requestOf i = none) : Statement i := by
  intro _ r p hrp
  rw [hr] at hrp
  cases hrp

theorem powerOnReset (pins : ResetPins) : Statement (.powerOnReset pins) := of_event _ rfl
theorem autostart : Statement .autostart := of_event _ rfl
theorem junctionTimeAdvance : Statement .junctionTimeAdvance := of_event _ rfl
theorem flashPhaseChange : Statement .flashPhaseChange := of_event _ rfl
theorem stampDrop (g : GroupId) (stamp : Stamp) : Statement (.stampDrop g stamp) := of_event _ rfl
theorem minimumRedExpires (g : GroupId) : Statement (.minimumRedExpires g) := of_event _ rfl
theorem nowReachesS (g : GroupId) : Statement (.nowReachesS g) := of_event _ rfl
theorem nowReachesT (g : GroupId) : Statement (.nowReachesT g) := of_event _ rfl
theorem minimumGreenExpires (g : GroupId) : Statement (.minimumGreenExpires g) := of_event _ rfl
theorem nowReachesHoldUntil (g : GroupId) : Statement (.nowReachesHoldUntil g) := of_event _ rfl
theorem clearTimeExpires (g : GroupId) : Statement (.clearTimeExpires g) := of_event _ rfl
theorem startFlashExpires : Statement .startFlashExpires := of_event _ rfl
theorem startRedExpires : Statement .startRedExpires := of_event _ rfl
theorem supervisionExpires : Statement .supervisionExpires := of_event _ rfl
theorem lampSenseSample (sense : BitVec 72) : Statement (.lampSenseSample sense) := of_event _ rfl
theorem unwantedProceed (g : GroupId) : Statement (.unwantedProceed g) := of_event _ rfl
theorem redLost (g : GroupId) : Statement (.redLost g) := of_event _ rfl
theorem lampOut (g : GroupId) (circuit : Circuit) : Statement (.lampOut g circuit) := of_event _ rfl
theorem stuckOn (g : GroupId) (circuit : Circuit) : Statement (.stuckOn g circuit) := of_event _ rfl
theorem clearLockoutCheckPasses : Statement .clearLockoutCheckPasses := of_event _ rfl
theorem noOsc (engine : EngineId) : Statement (.noOsc engine) := of_event _ rfl
theorem lowFreq (engine : EngineId) : Statement (.lowFreq engine) := of_event _ rfl
theorem measurementComplete (engine : EngineId) (count : Nat) :
    Statement (.measurementComplete engine count) := of_event _ rfl
theorem trackingMoment : Statement .trackingMoment := of_event _ rfl
theorem presenceLimitExpires (channel : ChannelId) :
    Statement (.presenceLimitExpires channel) := of_event _ rfl
theorem inputSample (pins : BitVec 16) : Statement (.inputSample pins) := of_event _ rfl
theorem debouncedStateChange (input : InputId) : Statement (.debouncedStateChange input) := of_event _ rfl
theorem gapValueSaturates (g : GroupId) : Statement (.gapValueSaturates g) := of_event _ rfl
theorem framingError : Statement .framingError := of_event _ rfl
theorem byteComplete : Statement .byteComplete := of_event _ rfl
theorem gapTimerExpires : Statement .gapTimerExpires := of_event _ rfl
theorem lineBreak : Statement .lineBreak := of_event _ rfl
theorem brokenWaitComplete : Statement .brokenWaitComplete := of_event _ rfl
theorem holdTimerExpires (entry : EntryId) : Statement (.holdTimerExpires entry) := of_event _ rfl
theorem lostTimerExpires (entry : EntryId) : Statement (.lostTimerExpires entry) := of_event _ rfl
theorem requestFrameDrop (bytes : List Byte) (close : FrameClose) :
    Statement (.requestFrameDrop bytes close) := of_event _ rfl
theorem linkClockTimeout (role : Role) (frame : TimedFrame) :
    Statement (.linkClockTimeout role frame) := of_event _ rfl
theorem replyRead (role : Role) (acknowledged : Nat) :
    Statement (.replyRead role acknowledged) := of_event _ rfl
theorem requestCodeUnknown (role : Role) (code : Byte) :
    Statement (.requestCodeUnknown role code) := of_event _ rfl
theorem readJunction (role : Role) (params : List Byte) :
    Statement (.readJunction role params) := of_params _ _ _ rfl rfl
theorem readGroups (role : Role) (params : List Byte) :
    Statement (.readGroups role params) := of_params _ _ _ rfl rfl
theorem readTransitions (role : Role) (params : List Byte) :
    Statement (.readTransitions role params) := of_params _ _ _ rfl rfl
theorem readLoops (role : Role) (params : List Byte) :
    Statement (.readLoops role params) := of_params _ _ _ rfl rfl
theorem readTrams (role : Role) (params : List Byte) :
    Statement (.readTrams role params) := of_params _ _ _ rfl rfl
theorem readCounts (role : Role) (params : List Byte) :
    Statement (.readCounts role params) := of_params _ _ _ rfl rfl
theorem noticePoll (role : Role) (params : List Byte) :
    Statement (.noticePoll role params) := of_params _ _ _ rfl rfl
theorem keepalive (role : Role) (params : List Byte) :
    Statement (.keepalive role params) := of_params _ _ _ rfl rfl
theorem demand (role : Role) (params : List Byte) : Statement (.demand role params) := of_params _ _ _ rfl rfl
theorem priorityInhibit (role : Role) (params : List Byte) :
    Statement (.priorityInhibit role params) := of_params _ _ _ rfl rfl
theorem transition (role : Role) (params : List Byte) :
    Statement (.transition role params) := of_params _ _ _ rfl rfl
theorem cancelTransition (role : Role) (params : List Byte) :
    Statement (.cancelTransition role params) := of_params _ _ _ rfl rfl
theorem mode (role : Role) (params : List Byte) : Statement (.mode role params) := of_params _ _ _ rfl rfl
theorem groupInhibit (role : Role) (params : List Byte) :
    Statement (.groupInhibit role params) := of_params _ _ _ rfl rfl
theorem tramCheckIn (role : Role) (params : List Byte) :
    Statement (.tramCheckIn role params) := of_params _ _ _ rfl rfl
theorem tramCheckOut (role : Role) (params : List Byte) :
    Statement (.tramCheckOut role params) := of_params _ _ _ rfl rfl
theorem tramCancel (role : Role) (params : List Byte) :
    Statement (.tramCancel role params) := of_params _ _ _ rfl rfl
theorem writeConfig (role : Role) (params : List Byte) :
    Statement (.writeConfig role params) := of_params _ _ _ rfl rfl
theorem commitConfig (role : Role) (params : List Byte) :
    Statement (.commitConfig role params) := of_params _ _ _ rfl rfl
theorem storeWriteEnd (held : Option Store) : Statement (.storeWriteEnd held) := of_event _ rfl
theorem discardStaging (role : Role) (params : List Byte) :
    Statement (.discardStaging role params) := of_params _ _ _ rfl rfl
theorem readConfig (role : Role) (params : List Byte) :
    Statement (.readConfig role params) := of_params _ _ _ rfl rfl
theorem clearLockout (role : Role) (params : List Byte) :
    Statement (.clearLockout role params) := of_params _ _ _ rfl rfl
theorem clearLampFaults (role : Role) (params : List Byte) :
    Statement (.clearLampFaults role params) := of_params _ _ _ rfl rfl
theorem clearCounts (role : Role) (params : List Byte) :
    Statement (.clearCounts role params) := of_params _ _ _ rfl rfl
theorem restart (role : Role) (params : List Byte) :
    Statement (.restart role params) := of_params _ _ _ rfl rfl
theorem beaconLineSample (level : Bool) : Statement (.beaconLineSample level) := of_event _ rfl

end Sys2Proof.Laws.RequestFits
end

