-- ==== Sys2Proof/Laws/Steady.lean ====
section
/-! SUPPORT. States at rest with live transitions: what the release arbiter's examinations and a state entry do there,
and the role of an address byte. -/

namespace Sys2Proof.Machine

open Sys2Proof

/-! ### Examinations that find nothing -/

/-- With no QUEUED record among the slots gone through, nothing is activated (R44). -/
theorem activationPass_of_no_queued (ks : List SlotId) (superiors : List TransRec) (s : State)
    (h : ∀ k r, slot s k = some r → r.state ≠ .queued) : activationPass ks superiors s = s := by
  induction ks with
  | nil => rfl
  | cons k rest ih =>
    unfold activationPass
    split
    · exact ih
    · next r hr => rw [if_neg (h k r hr)]; exact ih

/-- With no group that R48 lets be scheduled, nothing is scheduled. -/
theorem examineScheduling_of_none (s : State) (h : ∀ j, maySchedule s j = false) : examineScheduling s = s :=
  forEach_id _ _ _ fun j _ => by
    show scheduleGroup j s = s
    simp [scheduleGroup, h j]

/-- At rest the arbiter's examination changes nothing (R44, R48). -/
theorem Steady.examineArbiter {s : State} (h : Steady s) : Machine.examineArbiter s = s := by
  unfold Machine.examineArbiter
  split
  · rw [activationPass_of_no_queued _ _ _ h.queued]
    exact examineScheduling_of_none _ h.scheduling
  · rfl

/-! ### The record that claims a group -/

/-- The ACTIVE slot of the record's id is the record's own (R36). -/
theorem activeSlotOf_of_carries {k : SlotId} {r : TransRec} {g : GroupId} {kd : ItemKind} {s : State}
    (h : Carries k r g kd s) : activeSlotOf s r.id = some k := by
  unfold activeSlotOf
  cases hf : allSlots.find? fun j => (slot s j).any fun q => q.state == .active && q.id == r.id with
  | none =>
    have := List.find?_eq_none.1 hf k (List.mem_finRange k)
    simp [h.slot, h.active] at this
  | some j =>
    have hj := List.find?_some hf
    simp only [Option.any_eq_true, Bool.and_eq_true, beq_iff_eq] at hj
    obtain ⟨q, hq, _, hid⟩ := hj
    rw [h.alone j q hq hid]

/-- The record that claims a group has its item REACHED there, and may be complete (R9, R34, R51). -/
theorem markReached_of_carries {k : SlotId} {r : TransRec} {g : GroupId} {kd : ItemKind} {s : State}
    (h : Carries k r g kd s) :
    markReached g kd s = completeIfDone k (modSlot k (setOutcome g .reached) s) := by
  simp [markReached, h.claim, activeSlotOf_of_carries h, h.slot, h.item]

/-- A record with a WAITING item is not complete (R51). -/
theorem completeIfDone_of_waiting {k : SlotId} {r : TransRec} {s : State} (hs : slot s k = some r)
    (hw : hasWaiting r = true) : completeIfDone k s = s := by
  simp [completeIfDone, hs, hw]

/-! ### Addresses -/

/-- The role of a role's own request address (R151). -/
theorem requestRole_addressByte (straps : Straps) (r : Role) :
    requestRole straps (addressByte straps r false) = some r := by
  obtain ⟨addr, smode, astart⟩ := straps
  simp only [requestRole, addressByte]
  revert addr
  cases r <;> simp only [roleIndex] <;> decide

end Sys2Proof.Machine
end

