-- ==== Sys2Proof/Tests/Slice0.lean ====
section
/-! SUPPORT. Tests: ill-formed commands are refused by `wellFormed`; figures of the spec's tables and worked
examples; and, for every statement with hypotheses, states that meet them, clause by clause. -/

namespace Sys2Proof.Tests

set_option Elab.async false

open Sys2Proof Sys2Proof.Machine

/-! ### States for the tests -/

/-- A site with a VEH group G1, a VEH group G2 and a TRAM group G5: conflicts G1-G2 and G2-G5, loops L1 (DEMAND
of G1), L2 (EXTEND of G1) and L5 (TRAM, A1), input I1 (DEMAND of G2), beacons B2 (PRE) and B3 (STOP) of A1. -/
def site : Image where
  junction := #v[100, 50, 60, 5, 5, 9600, 25, 30, 300, 60]
  groups :=
    put (put (put defaultImage.groups 0 ⟨1, 70, 30, 20, 10, 0⟩) 1 ⟨1, 50, 30, 0, 10, 0⟩) 4
      ⟨3, 40, 30, 10, 10, 200⟩
  matrix :=
    put (put (put (put defaultImage.matrix (matrixIndex 0 1) 50) (matrixIndex 1 0) 60) (matrixIndex 1 4) 70)
      (matrixIndex 4 1) 60
  loops :=
    put (put (put defaultImage.loops 0 ⟨1, 1, 256, 20, 3000⟩) 1 ⟨2, 1, 256, 20, 3000⟩) 4 ⟨4, 1, 256, 20, 0⟩
  inputs := put defaultImage.inputs 0 ⟨1, 2, 50⟩
  beacons := put (put defaultImage.beacons 2 ⟨0, 1⟩) 3 ⟨1, 1⟩
  routes := put defaultImage.routes 1 5
  lines := put defaultImage.lines 11 2

/-- The site in NORMAL at junction time 100,000, every used group red since 1,000 ds, nothing pending. -/
def base : State :=
  { State.reset with
    now := 100000#32
    active := some site
    staging := site
    mode := .normal
    supervision := some 99990#32
    groups := tabulate fun g =>
      { groupAfterReset site g with
        state := if usedIn site g then .red else .dark
        enteredAt := 99000#32
        gap := .held }
    channels := tabulate (channelAfterReset site)
    engines := Vector.replicate 4 (some 0) }

/-- The site with one group in another state since a time. -/
def having (g : GroupId) (st : GState) (since : Time) (s : State) : State :=
  modGroup g (fun r => { r with state := st, enteredAt := since }) s

/-- The site in another mode. -/
def within (m : Mode) (s : State) : State := { s with mode := m }

/-- No transition and no tram is there, no hand-off is left, and no commit waits. -/
theorem quiet_of (s : State) (h1 : s.work = []) (h2 : s.slots = Vector.replicate 8 none)
    (h3 : s.trams = Vector.replicate 8 none) (h4 : s.commit ≠ .waitingApply) : Quiet s where
  work := h1
  records := by
    intro k r h
    have : look (Vector.replicate 8 (none : Option TransRec)) k = some r := h2 ▸ h
    simp [look] at this
  trams := by
    intro k
    simp [tram, h3, look]
  commit := h4

/-- An empty table keeps the finish order's law. -/
theorem finishLaw_of (s : State) (h1 : s.finishOrder = []) (h2 : s.slots = Vector.replicate 8 none) :
    FinishLaw s := by
  intro k
  simp [h1, slot, h2, look]

/-- An empty list keeps the tram list's law. -/
theorem tramListLaw_of (s : State) (h : s.trams = Vector.replicate 8 none) : TramListLaw s := by
  intro j k x y hj
  simp [tram, h, look] at hj

theorem test_base_is_quiet : Quiet base := quiet_of _ rfl rfl rfl (by decide)

/-- No record fails its check, so none is the first to fail. -/
theorem firstFailure_eq_none {n : Nat} {check : Fin n → Option CheckCode} (h : ∀ i, check i = none) :
    firstFailure n check = none := by
  simp [firstFailure, h]

theorem igIn_site (i j : GroupId) :
    igIn site i j =
      (if matrixIndex 4 1 = matrixIndex i j then 60#8
        else if matrixIndex 1 4 = matrixIndex i j then 70#8
        else if matrixIndex 1 0 = matrixIndex i j then 60#8
        else if matrixIndex 0 1 = matrixIndex i j then 50#8 else 255#8).toNat := by
  simp only [igIn, site, look_put, defaultImage, look_replicate]
  rfl

theorem usedIn_site (i : GroupId) : usedIn site i = (i == 0 || i == 1 || i == 4) := by
  revert i
  decide +kernel

theorem checkMatrix_site (i j : GroupId) : checkEntry site i j = none := by
  simp only [checkEntry, conflictIn, igIn_site, usedIn_site]
  revert i j
  decide +kernel

theorem test_site_is_valid : validate site = none := by
  have h0 : firstFailure 10 (checkJunction site) = none := by decide +kernel
  have h1 : firstFailure 24 (checkGroup site) = none := by decide +kernel
  have h2 : firstFailure 576 (checkMatrix site) = none := firstFailure_eq_none fun _ => checkMatrix_site _ _
  have h3 : firstFailure 16 (checkLoop site) = none := by decide +kernel
  have h4 : firstFailure 16 (checkInput site) = none := by decide +kernel
  have h5 : firstFailure 16 (checkBeacon site) = none := by decide +kernel
  have h6 : firstFailure 12 (checkRoute site) = none := by decide +kernel
  have h7 : firstFailure 256 (checkLine site) = none := firstFailure_eq_none fun i => by
    simp only [checkLine, site, look_put, defaultImage, look_replicate]
    split <;> rfl
  simp [validate, h0, h1, h2, h3, h4, h5, h6, h7]

/-! ### Well-formed commands -/

theorem test_lamp_out_of_circuit_a_is_ill_formed : wellFormed (.lampOut 3 .a) = false := by decide
theorem test_stuck_on_of_circuit_c_is_ill_formed : wellFormed (.stuckOn 3 .c) = false := by decide
theorem test_count_past_the_longest_is_ill_formed :
    wellFormed (.measurementComplete 0 204801) = false := by decide
theorem test_frame_opened_for_reading_is_ill_formed :
    wellFormed (.requestFrameDrop [0x81#8, 0x01#8, 0x00#8, 0x00#8] .stop) = false := by decide
theorem test_empty_frame_is_ill_formed : wellFormed (.requestFrameDrop [] .start) = false := by decide
theorem test_known_code_is_ill_formed : wellFormed (.requestCodeUnknown .plan 0x12#8) = false := by decide
theorem test_long_parameters_are_ill_formed :
    wellFormed (.writeConfig .service (List.replicate 41 0#8)) = false := by decide
theorem test_fitting_parameters_are_well_formed :
    wellFormed (.writeConfig .service (List.replicate 40 0#8)) = true := by decide
theorem test_no_row_gives_bits : decodeTableWord 8 0x12 = none := by decide

/-! ### Figures of the spec's tables and worked examples -/

/-- The valid count ranges of the three N (R93). -/
theorem test_count_ranges :
    [256, 128, 64].map (fun n => (countMin n, countMax n)) =
      [(34134, 204800), (17067, 102400), (8534, 51200)] := by decide

/-- The off-thresholds of the table of R96. -/
theorem test_off_thresholds :
    [1#16, 3#16, 4#16, 20#16, 500#16].map (fun t => offThresholdOf ⟨1, 1, 256, t, 0⟩) =
      [0, 2, 3, 15, 375] := by decide

/-- The matrix index of IG[3][8] is (3 - 1) × 24 + (8 - 1) (R20). -/
theorem test_matrix_index : (matrixIndex 2 7).val = 55 := by decide

/-- A timer of 5 ds started at 4,294,967,294 expires at 3, past the wrap (R2). -/
theorem test_timer_across_the_wrap :
    expired 3#32 4294967294#32 5 = true ∧ expired 2#32 4294967294#32 5 = false := by decide

/-- Saturating counters stay at 65,535 (00_scope.md, Counters). -/
theorem test_saturating_counter : satInc 65535#16 = 65535#16 ∧ satInc 65534#16 = 65535#16 := by decide

/-- A lateness below the threshold leaves level 2 of line 11; line 12 has level 0 and is not raised (R131). -/
theorem test_levels :
    tramLevel site 11#8 (some 59) = 2 ∧ tramLevel site 11#8 (some 60) = 2 ∧
      tramLevel site 12#8 (some 100) = 0 := by decide +kernel

/-- 400 m at 36 km/h take 400 ds; 2,500 m count as 2,000; speeds are held to 5 to 80 km/h (R132). -/
theorem test_travel_times :
    travelTime site 400 36 = 400 ∧ travelTime site 2500 36 = 2000 ∧ travelTime site 100 2 = 720 ∧
      travelTime site 100 100 = 45 ∧ travelTime site 100 0 = 144 := by decide +kernel

/-- Junction time wraps to 0 (R1). -/
theorem test_time_wraps :
    (match exec .junctionTimeAdvance { State.reset with now := 4294967295#32 } with
      | .next t => t.now
      | _ => 7#32) = 0#32 := by decide +kernel

/-- RESTART with a parameter is refused and restarts nothing (R173). -/
theorem test_restart_with_parameters :
    (match exec (.restart .service [1#8]) base with
      | .next t => ((link t .service).slot, t.now)
      | _ => (.empty, 0#32)) = (.ready (plain .refusedParam) false, 100000#32) := by decide +kernel

/-- A matrix that is not symmetric in its conflicts fails the SYMMETRY check (R25). -/
theorem test_asymmetric_matrix :
    checkEntry { site with matrix := put site.matrix (matrixIndex 0 4) 90 } 0 4 = some .mxSymmetry := by
  decide +kernel

/-- An intergreen below the losing group's clear time fails the CLEARANCE check (R25). -/
theorem test_short_intergreen :
    checkEntry { site with matrix := put site.matrix (matrixIndex 0 1) 29 } 0 1 = some .mxClearance := by
  decide +kernel

/-- MODE with an unknown mode is refused with REFUSED_PARAM, in LOCKOUT too (R60). -/
theorem test_unknown_mode_in_lockout :
    (match exec (.mode .plan [2#8]) (within .lockout base) with
      | .next t => (link t .plan).slot
      | _ => .empty) = .ready (plain .refusedParam) false := by decide +kernel

/-- A second release that conflicts with an accepted one is refused with REFUSED_CONFLICT (R37 check 5). -/
theorem test_uncovered_conflict :
    (match exec (.transition .plan [0#8, 2#8]) (having 0 .green 99000#32 base) with
      | .next t => (link t .plan).slot
      | _ => .empty) = .ready (plain .refusedConflict) false := by decide +kernel

/-- An accepted TRANSITION of a red group is scheduled at once, T = now + prepare (R28, R45, R48). -/
theorem test_transition_is_scheduled :
    (match exec (.transition .plan [0#8, 1#8]) base with
      | .next t => ((grp t 0).state, (grp t 0).schedule)
      | _ => (.dark, none)) = (.redWait, some { s := 100000#32, t := 100020#32 }) := by decide +kernel

/-! ### States that meet the hypotheses of the statements, clause by clause -/

/-- A hold-until, a green start and the other stamps, all of an age of 70,000 ds, on G1. -/
def stamped : State :=
  modGroup 0
    (fun r =>
      { r with
        greenEnd := some 30000#32, redEntry := some 30000#32, holdUntil := some 30000#32,
        greenStart := some 30000#32, gap := .running 99001#32 })
    base

/-- G1 with a schedule. -/
def scheduled (g : GroupId) (st : GState) (sch : Schedule) : State :=
  modGroup g (fun r => { r with schedule := some sch }) (having g st 99990#32 base)

/-- G1 green since a time. -/
def green (st : GState) (since : Time) (term : Option PendingTerm) (hold : Option Time) : State :=
  modGroup 0 (fun r => { r with greenStart := some since, pendingTerm := term, holdUntil := hold })
    (having 0 st since base)

/-- A mismatch time on one circuit of G1. -/
def mismatched (which : Circuit) (on off : Nat) : State :=
  modLamps 0
    (fun l => modCircuit l which fun r =>
      { r with onMismatch := { time := on, handed := false }, offMismatch := { time := off, handed := false } })
    base

/-- L1 in a state, with a baseline of 60,000 counts. -/
def looped (st : ChState) (bad good : Nat) : State :=
  modChannel 0
    (fun r =>
      { r with
        state := st, baseline := some 60000, lastCount := some 60000, badRun := bad, goodRun := good,
        occupiedSince := some 97000#32 })
    base

/-- The beacon receiver in a state. -/
def received (f : BeaconRec → BeaconRec) : State := { base with beacon := f base.beacon }

/-- The byte assembler in a state. -/
def assembling (a : ByteAssembler) : State := received fun b => { b with assembler := a }

/-- A STATUS telegram of B2 but for its check byte. -/
def telegram : List Byte := [0xC3#8, 2#8, 4#8, 0#8, 7#8, 11#8, 2#8, 0#8, 0#8, 0#8, 255#8]

/-- The same of beacon 16. -/
def strangeTelegram : List Byte := [0xC3#8, 16#8, 4#8, 0#8, 7#8, 11#8, 2#8, 0#8, 0#8, 0#8, 255#8]

/-- The receiver with eleven bytes in hand and a twelfth complete. -/
def complete (bytes : List Byte) (last : Byte) : State :=
  received fun b =>
    { b with receiver := .assembling, telegram := bytes, assembler := .receiving 153 3 last (some true) }

/-- Tram 7 of line 11 on A1, in entry 0. -/
def tramOf (st : TramState) (hold : Option Time) (arrival : Time) : TramRec :=
  { number := 7#16, approach := 0, line := 11#8, route := .ahead, group := 4, source := .tramnet,
    checkInAt := 99000#32, arrival := arrival, level := 2, lateness := none, capped := false, calls := 1,
    transition := none, holdEnd := hold, state := st, awaitsSlot := false }

/-- The site with that tram. -/
def withTram (r : TramRec) : State := { base with trams := put base.trams 0 (some r) }

/-- A PLAN transition that releases G1, in a state. -/
def record (cls : TClass) (origin : Origin) (st : TState) : TransRec :=
  { id := 5#8, cls := cls, origin := origin, items := newItems [] [0], hadRelease := true, tram := none,
    acceptedAt := 99990#32, state := st, finishedAt := none, endCause := none }

/-- The site with that record in slot 0, its claim on G1 in RED_WAIT. -/
def withRecord (r : TransRec) : State :=
  modGroup 0 (fun g => { g with claim := some { id := r.id, kind := .release } })
    (having 0 .redWait 99990#32 { base with slots := put base.slots 0 (some r), acceptOrder := [0] })

/-- A table full of live records. -/
def fullTable : State :=
  { base with
    slots := Vector.replicate 8 (some (record .plan (.role .plan) .queued))
    acceptOrder := allSlots }

/-- A full table of live records keeps the finish order's law, and has no room. -/
theorem fullTable_law : FinishLaw fullTable := by
  intro k
  constructor
  · intro h
    cases h
  · rintro ⟨r, hr, hl⟩
    have hk : slot fullTable k = some (record .plan (.role .plan) .queued) := by
      simp [slot, fullTable, look]
    rw [hk] at hr
    injection hr with hr
    rw [← hr] at hl
    exact absurd hl (by decide)

/-- A role's slot and notices. -/
def slotted (r : Role) (sl : ReplySlot) (s : State) : State :=
  modLink r (fun l => { l with slot := sl, seen := true }) s

/-- A role with one notice. -/
def noticed (r : Role) (n : Notice) (s : State) : State :=
  modLink r (fun l => { l with seen := true, notices := put l.notices (noticeIndex n) true }) s

/-- START in its flash phase, 100 ds old. -/
def starting : State :=
  { base with mode := .start, startPhase := some (.flashPhase, 99900#32), supervision := none }

/-- START in its red phase, 50 ds old. -/
def reddening : State :=
  { base with mode := .start, startPhase := some (.redPhase, 99950#32), supervision := none }

/-- DARK with the autostart due. -/
def autostarting : State := { base with mode := .dark, autostartDue := true, supervision := none }

/-- NORMAL with the supervision timer 60 ds old. -/
def silent : State := { base with supervision := some 99940#32 }

/-- G1's red lost for the confirm time, and a group marked already. -/
def marked (g : GroupId) : State := modGroup g (fun r => { r with redLost := true }) (mismatched .a 10 0)

/-- L1 FREE at a tracking moment. -/
def tracking : State := { looped .free 0 0 with trackedAt := 99980#32 }

/-- G5 green since 100 ds. -/
def tramGreen : State :=
  modGroup 4 (fun r => { r with greenStart := some 99900#32 }) (having 4 .green 99900#32 base)

/-- The tram held on G5 until now, past its lost time. -/
def held : TramRec := tramOf .holding (some 100000#32) 99700#32

/-- The site with that tram in entry 0. -/
def heldTram : State := withTram held

/-- The items of PLAN's record 5: what it terminates and what it releases. -/
def carried (terminate release : List GroupId) : TransRec :=
  { record .plan (.role .plan) .active with items := newItems terminate release }

/-- A state with that record ACTIVE in slot 0, and its claims. -/
def carrying (terminate release : List GroupId) (s : State) : State :=
  { s with
    slots := put s.slots 0 (some (carried terminate release))
    acceptOrder := [0]
    groups := tabulate fun g =>
      if g ∈ release then { grp s g with claim := some { id := 5#8, kind := .release } }
      else if g ∈ terminate then { grp s g with claim := some { id := 5#8, kind := .terminate } }
      else grp s g }

/-- The site with no prepare time of G1. -/
def quick (s : State) : State :=
  { s with active := some { site with groups := put site.groups 0 ⟨1, 70, 30, 0, 10, 0⟩ } }

/-- G5 in RED_WAIT with a schedule to come. -/
def tramWaits (s : State) : State :=
  modGroup 4 (fun r => { r with schedule := some ⟨100010#32, 100020#32⟩ }) (having 4 .redWait 99990#32 s)

/-- The tram held on G5 until now, its calls spent. -/
def spent : TramRec := { held with calls := 2 }

/-- Two trams that wait for a transition slot, the second of the higher level. -/
def waiting (s : State) : State :=
  let r : TramRec := { tramOf .calling none 100300#32 with calls := 0, awaitsSlot := true }
  { s with trams := put (put s.trams 0 (some { r with level := 1 })) 1 (some { r with number := 8#16 }) }

/-- At a slot-free event the first waiting tram takes a slot, and the other waits for the next event (R136). -/
theorem test_slot_free_posts_the_first :
    ((tram (takeSlotFree (waiting base)) 1).map fun r => (r.calls, r.awaitsSlot)) = some (1, false) ∧
      tram (takeSlotFree (waiting base)) 0 = tram (waiting base) 0 ∧
      (slot (takeSlotFree (waiting base)) 1).isNone = true := by
  decide

/-- A waiting tram whose group is in PREPARE is posted too (R136). -/
theorem test_slot_free_posts_in_prepare :
    ((tram (takeSlotFree (waiting (having 4 .prepare 99990#32 base))) 1).map fun r => r.calls) = some 1 := by
  decide

/-- G5 held green for that tram; the record that terminates G5 and releases G2 waits for it. -/
def heldUp : State :=
  carrying [4] [1]
    { having 1 .redWait 99990#32
        (modGroup 4
          (fun r =>
            { r with pendingTerm := some (.transition .plan 5#8), holdUntil := some 100000#32 }) tramGreen) with
      trams := put base.trams 0 (some spent) }

theorem steady_of (s : State) (h1 : s.work = []) (h2 : ∀ k, (slot s k).all (fun r => r.state != .queued) = true)
    (h3 : ∀ j, maySchedule s j = false) (h4 : s.commit ≠ .waitingApply) : Steady s where
  work := h1
  queued := by
    intro k r h
    simpa [h] using h2 k
  scheduling := h3
  commit := h4

theorem carries_of {k : SlotId} {r : TransRec} {g : GroupId} {kd : ItemKind} {s : State}
    (h1 : slot s k = some r) (h2 : r.state = .active) (h3 : ∀ j, j ≠ k → slot s j = none)
    (h4 : (grp s g).claim = some { id := r.id, kind := kd })
    (h5 : itemOf r g = some { kind := kd, outcome := .waiting }) : Carries k r g kd s where
  slot := h1
  active := h2
  alone := by
    intro j q hj _
    refine Decidable.byContradiction fun hne => ?_
    rw [h3 j hne] at hj
    cases hj
  claim := h4
  item := h5

theorem othersWait_iff (r : TransRec) (g : GroupId) :
    OthersWait r g ↔ ∃ h, h ≠ g ∧ (itemOf r h).any (fun it => it.outcome == .waiting) = true := by
  simp only [OthersWait, Option.any_eq_true, beq_iff_eq]
  exact ⟨fun ⟨h, it, a, b, c⟩ => ⟨h, a, it, b, c⟩, fun ⟨h, a, it, b, c⟩ => ⟨h, it, a, b, c⟩⟩

theorem freeBut_of {g j : GroupId} {s : State}
    (h1 : ∀ i, i ≠ g → conflicts s i j = true → inProceed s i = false)
    (h2 : ∀ i, conflicts s i j = true → (grp s i).redLost = false) (h3 : (grp s j).inhibited = false) :
    FreeBut g j s := ⟨h1, h2, h3⟩

theorem witness_StepTakesTheFrontCommand :
    base.pending = [] := by
  decide +kernel

theorem witness_ResetsLeaveEveryGroupFresh :
    (link base .service).slot ≠ .pending := by
  decide +kernel

theorem witness_RestartKeepsStrapsAndLockout :
    (link base .service).slot ≠ .pending ∧
      Answerable .service [1#8] base := by
  repeat' first
    | apply And.intro
    | with_reducible apply Answerable.mk
    | decide +kernel

theorem witness_JunctionTimeAdvances :
    age 100000#32 34465#32 ≤ 65535 ∧
      65535 < age 100000#32 34464#32 := by
  repeat' first
    | apply And.intro
    | decide +kernel

theorem witness_FlashPhaseChanges :
    expired base.now base.flash.since base.flash.duration = true := by
  decide +kernel

theorem witness_OldStampsAndGapsAreDropped :
    stamped.work = [] ∧
      expired stamped.now 30000#32 65535 = true ∧
      (grp stamped 0).greenEnd = some 30000#32 ∧
      (grp stamped 0).redEntry = some 30000#32 ∧
      (grp stamped 0).holdUntil = some 30000#32 ∧
      (grp stamped 0).pendingTerm = none ∧
      (grp stamped 0).greenStart = some 30000#32 ∧
      (grp stamped 0).state ≠ .greenMin ∧
      (grp stamped 0).state ≠ .green ∧
      (grp (having 0 .green 99000#32 base) 0).state = .green ∧
      (grp stamped 0).gap = .running 99001#32 ∧
      expired stamped.now 99001#32 999 = true ∧
      expired stamped.now 99002#32 999 = false := by
  repeat' first
    | apply And.intro
    | decide +kernel

theorem witness_MinimumRedEndsInRedOrRedWait :
    used (having 0 .redMin 99990#32 base) 0 = true ∧
      (grp (having 0 .redMin 99990#32 base) 0).state = .redMin ∧
      Quiet (having 0 .redMin 99990#32 base) ∧
      Running 0 (having 0 .redMin 99990#32 base) ∧
      expired 100000#32 99990#32 (minRedIn site 0) = true ∧
      (within .start (having 0 .redMin 99990#32 base)).mode = .start := by
  repeat' first
    | apply And.intro
    | with_reducible apply Answerable.mk
    | refine quiet_of _ ?_ ?_ ?_ ?_
    | apply finishLaw_of
    | apply tramListLaw_of
    | exact Or.inl rfl
    | decide +kernel

theorem witness_MinimumRedEndsInRedOrRedWait_claimed :
    (Steady (carrying [] [0] (having 0 .redMin 99990#32 base)) ∧
        Carries 0 (carried [] [0]) 0 .release (carrying [] [0] (having 0 .redMin 99990#32 base)) ∧
        (grp (carrying [] [0] (having 0 .redMin 99990#32 base)) 0).schedule = none ∧
        FreeBut 0 0 (carrying [] [0] (having 0 .redMin 99990#32 base))) ∧
      Steady (carrying [] [0] (having 1 .green 99000#32 (having 0 .redMin 99990#32 base))) ∧
        Carries 0 (carried [] [0]) 0 .release
          (carrying [] [0] (having 1 .green 99000#32 (having 0 .redMin 99990#32 base))) ∧
        ¬ FreeBut 0 0 (carrying [] [0] (having 1 .green 99000#32 (having 0 .redMin 99990#32 base))) := by
  refine ⟨⟨steady_of _ ?_ ?_ ?_ ?_, carries_of ?_ ?_ ?_ ?_ ?_, ?_, freeBut_of ?_ ?_ ?_⟩,
    steady_of _ ?_ ?_ ?_ ?_, carries_of ?_ ?_ ?_ ?_ ?_, fun h => ?_⟩
  all_goals first
    | decide +kernel
    | exact absurd (h.proceed 1 (by decide) (by decide +kernel)) (by decide +kernel)

/-- G1 of PLAN's record scheduled for now, in RED_WAIT. -/
def atS (release : List GroupId) : State :=
  carrying [] release (tramWaits (scheduled 0 .redWait ⟨100000#32, 100020#32⟩))

theorem witness_ScheduledGroupBeginsAtS :
    (Steady (atS [0, 4]) ∧ used (atS [0, 4]) 0 = true ∧ (grp (atS [0, 4]) 0).state = .redWait ∧
        (grp (atS [0, 4]) 0).schedule = some ⟨100000#32, 100020#32⟩ ∧
        atOrAfter (atS [0, 4]).now 100000#32 = true ∧ prepareIn (cfg (atS [0, 4])) 0 ≠ 0) ∧
      (Steady (quick (atS [0, 4])) ∧ used (quick (atS [0, 4])) 0 = true ∧
        prepareIn (cfg (quick (atS [0, 4]))) 0 = 0 ∧
        Carries 0 (carried [] [0, 4]) 0 .release (quick (atS [0, 4])) ∧
        (∀ e, tram (quick (atS [0, 4])) e = none) ∧ OthersWait (carried [] [0, 4]) 0) ∧
      Steady (quick (atS [0])) ∧ Carries 0 (carried [] [0]) 0 .release (quick (atS [0])) ∧
        ¬ OthersWait (carried [] [0]) 0 ∧
        ∀ h, h ≠ 0 → named (carried [] [0]) h = true → (grp (quick (atS [0])) h).state ≠ .redWait := by
  refine ⟨⟨steady_of _ ?_ ?_ ?_ ?_, ?_, ?_, ?_, ?_, ?_⟩,
    ⟨steady_of _ ?_ ?_ ?_ ?_, ?_, ?_, carries_of ?_ ?_ ?_ ?_ ?_, ?_, (othersWait_iff _ _).2 ?_⟩,
    steady_of _ ?_ ?_ ?_ ?_, carries_of ?_ ?_ ?_ ?_ ?_, fun h => absurd ((othersWait_iff _ _).1 h) ?_, ?_⟩
  all_goals decide +kernel

/-- G1 of PLAN's record in PREPARE, its green time come. -/
def atT (release : List GroupId) : State :=
  carrying [] release (tramWaits (scheduled 0 .prepare ⟨99980#32, 100000#32⟩))

theorem witness_PreparedGroupTurnsGreenAtT :
    (Quiet (scheduled 0 .prepare ⟨99980#32, 100000#32⟩) ∧
        used (scheduled 0 .prepare ⟨99980#32, 100000#32⟩) 0 = true ∧
        (grp (scheduled 0 .prepare ⟨99980#32, 100000#32⟩) 0).state = .prepare ∧
        (grp (scheduled 0 .prepare ⟨99980#32, 100000#32⟩) 0).schedule = some ⟨99980#32, 100000#32⟩ ∧
        atOrAfter 100000#32 100000#32 = true) ∧
      ((grp (atT [0, 4]) 0).schedule = some ⟨99980#32, 100000#32⟩ ∧ Steady (atT [0, 4]) ∧
        Carries 0 (carried [] [0, 4]) 0 .release (atT [0, 4]) ∧ (∀ e, tram (atT [0, 4]) e = none) ∧
        OthersWait (carried [] [0, 4]) 0) ∧
      Steady (atT [0]) ∧ Carries 0 (carried [] [0]) 0 .release (atT [0]) ∧ ¬ OthersWait (carried [] [0]) 0 ∧
        ∀ h, h ≠ 0 → named (carried [] [0]) h = true → (grp (atT [0]) h).state ≠ .redWait := by
  refine ⟨⟨quiet_of _ ?_ ?_ ?_ ?_, ?_, ?_, ?_, ?_⟩,
    ⟨?_, steady_of _ ?_ ?_ ?_ ?_, carries_of ?_ ?_ ?_ ?_ ?_, ?_, (othersWait_iff _ _).2 ?_⟩,
    steady_of _ ?_ ?_ ?_ ?_, carries_of ?_ ?_ ?_ ?_ ?_, fun h => absurd ((othersWait_iff _ _).1 h) ?_, ?_⟩
  all_goals decide +kernel

theorem witness_MinimumGreenEndsInGreenOrClear :
    used (green .greenMin 99930#32 none none) 0 = true ∧
      (grp (green .greenMin 99930#32 none none) 0).state = .greenMin ∧
      (grp (green .greenMin 99930#32 none none) 0).greenStart = some 99930#32 ∧
      Quiet (green .greenMin 99930#32 none none) ∧
      expired 100000#32 99930#32 (minGreenIn site 0) = true ∧
      terminateAllowed 100000#32 (grp (green .greenMin 99930#32 none none) 0) = false ∧
      used (green .greenMin 99930#32 (some .junction) none) 0 = true ∧
      (grp (green .greenMin 99930#32 (some .junction) none) 0).state = .greenMin ∧
      (grp (green .greenMin 99930#32 (some .junction) none) 0).greenStart = some 99930#32 ∧
      Quiet (green .greenMin 99930#32 (some .junction) none) ∧
      terminateAllowed 100000#32 (grp (green .greenMin 99930#32 (some .junction) none) 0) = true ∧
      used (green .greenMin 99931#32 none none) 0 = true ∧
      (grp (green .greenMin 99931#32 none none) 0).state = .greenMin ∧
      (grp (green .greenMin 99931#32 none none) 0).greenStart = some 99931#32 ∧
      expired 100000#32 99931#32 (minGreenIn site 0) = false := by
  repeat' first
    | apply And.intro
    | refine quiet_of _ ?_ ?_ ?_ ?_
    | decide +kernel

theorem witness_ReachedHoldLetsTheTerminateThrough :
    (used heldUp 4 = true ∧ (grp heldUp 4).state = .green ∧ (grp heldUp 4).holdUntil = some 100000#32 ∧
        atOrAfter heldUp.now 100000#32 = true ∧ (grp heldUp 4).pendingTerm = some (.transition .plan 5#8)) ∧
      (heldUp.work = [] ∧ heldUp.mode = .normal ∧ heldUp.commit ≠ .waitingApply ∧ kind heldUp 4 = .tram) ∧
      (Steady heldUp ∧ Carries 0 (carried [4] [1]) 4 .terminate heldUp ∧ OthersWait (carried [4] [1]) 4) ∧
      (tram heldUp 0 = some spent ∧ spent.group = 4 ∧ spent.state = .holding ∧ spent.transition = none ∧
        2 ≤ spent.calls ∧ ∀ e, e ≠ 0 → tram heldUp e = none) ∧
      (AwaitsSchedule 1 heldUp ∧ FreeBut 4 1 heldUp ∧ (grp heldUp 0).state ≠ .redWait) ∧
      used (green .green 99000#32 none (some 100000#32)) 0 = true ∧
      (grp (green .green 99000#32 none (some 100000#32)) 0).state = .green ∧
      (grp (green .green 99000#32 none (some 100000#32)) 0).holdUntil = some 100000#32 ∧
      (grp (green .green 99000#32 none (some 100000#32)) 0).pendingTerm = none := by
  refine ⟨?_, ?_, ⟨steady_of _ ?_ ?_ ?_ ?_, carries_of ?_ ?_ ?_ ?_ ?_, (othersWait_iff _ _).2 ?_⟩, ?_,
    ⟨⟨?_, ?_, 0, carried [4] [1], ?_, ?_, ?_⟩, freeBut_of ?_ ?_ ?_, ?_⟩, ?_⟩
  all_goals decide +kernel

theorem witness_ClearTimeEndsInRedMin :
    Quiet (having 0 .clear 99970#32 base) ∧
      Running 0 (having 0 .clear 99970#32 base) ∧
      used (having 0 .clear 99970#32 base) 0 = true ∧
      (grp (having 0 .clear 99970#32 base) 0).state = .clear ∧
      expired 100000#32 99970#32 (clearTimeIn site 0) = true := by
  repeat' first
    | apply And.intro
    | with_reducible apply Answerable.mk
    | refine quiet_of _ ?_ ?_ ?_ ?_
    | apply finishLaw_of
    | apply tramListLaw_of
    | exact Or.inl rfl
    | decide +kernel

/-- A CLEARING whose last group is G1 in CLEAR. -/
def lastClear : State :=
  { having 0 .clear 99970#32 base with mode := .clearing, clearTarget := some .flash, supervision := none }

theorem witness_LastRedEntryEndsClearing :
    Quiet lastClear ∧
      lastClear.mode = .clearing ∧
      lastClear.clearTarget = some .flash ∧
      used lastClear 0 = true ∧
      (grp lastClear 0).state = .clear ∧
      expired lastClear.now (grp lastClear 0).enteredAt (clearTimeIn (cfg lastClear) 0) = true ∧
      (∀ h, h ≠ 0 → used lastClear h = true → (grp lastClear h).state = .red ∨ (grp lastClear h).state = .redMin) := by
  repeat' first
    | apply And.intro
    | refine quiet_of _ ?_ ?_ ?_ ?_
    | decide +kernel

theorem witness_AutostartEntersStart :
    autostarting.autostartDue = true ∧
      autostarting.work = [] ∧
      autostarting.commit ≠ .waitingApply ∧
      autostarting.active.isSome = true ∧
      autostarting.mode = .dark ∧
      ({ base with autostartDue := true, active := none } : State).active = none ∧
      ({ base with autostartDue := true } : State).mode ≠ .dark ∧
      ({ base with autostartDue := true } : State).mode ≠ .flash := by
  repeat' first
    | apply And.intro
    | decide +kernel

theorem witness_StartFlashEndsInRedPhase :
    starting.work = [] ∧
      starting.commit ≠ .waitingApply ∧
      starting.mode = .start ∧
      starting.startPhase = some (.flashPhase, 99900#32) ∧
      expired 100000#32 99900#32 (figure site .startFlash) = true := by
  repeat' first
    | apply And.intro
    | decide +kernel

theorem witness_StartRedEndsInNormal :
    Quiet reddening ∧
      reddening.mode = .start ∧
      reddening.startPhase = some (.redPhase, 99950#32) ∧
      expired 100000#32 99950#32 (figure site .startRed) = true ∧
      lostCount reddening < 2 := by
  repeat' first
    | apply And.intro
    | refine quiet_of _ ?_ ?_ ?_ ?_
    | decide +kernel

theorem witness_SilentPlanFallsToFlash :
    Quiet silent ∧
      silent.mode = .normal ∧
      silent.supervision = some 99940#32 ∧
      expired 100000#32 99940#32 (figure site .supervision) = true ∧
      (∀ g, used silent g = true → (grp silent g).state = .red ∨ (grp silent g).state = .redMin) := by
  repeat' first
    | apply And.intro
    | refine quiet_of _ ?_ ?_ ?_ ?_
    | decide +kernel

theorem witness_UnwantedProceedBringsLockout :
    offConfirmed (mismatched .c 0 2) 0 .c = true ∧
      (mismatched .c 0 2).mode ≠ .lockout ∧
      offConfirmed (within .lockout (mismatched .c 0 2)) 0 .c = true ∧
      (within .lockout (mismatched .c 0 2)).mode = .lockout ∧
      (within .lockout (mismatched .c 0 2)).work = [] := by
  repeat' first
    | apply And.intro
    | decide +kernel

/-- A CLEAR_LOCKOUT check that has taken a number of samples. -/
def checking (n : Nat) : State :=
  { within .lockout base with lockoutCheck := some { beganAt := 99990#32, samples := n }, supervision := none }

theorem witness_PassedCheckEntersFlash :
    (checking 10).work = [] ∧
      (checking 10).commit ≠ .waitingApply ∧
      (checking 10).mode = .lockout ∧
      (checking 10).lockoutCheck = some { beganAt := 99990#32, samples := 10 } := by
  repeat' first
    | apply And.intro
    | decide +kernel

theorem witness_SampleUpdatesMismatchTimes :
    base.lockoutCheck = none := by
  decide +kernel

theorem witness_LockoutCheckWatchesTenSamples :
    (checking 9).lockoutCheck = some { beganAt := 99990#32, samples := 9 } ∧
      (∃ g, senseBit 4#72 g .c = true) ∧
      (∀ g, senseBit 0#72 g .c = false) := by
  repeat' first
    | apply And.intro
    | decide +kernel

theorem witness_LostRedIsMarked :
    Quiet (mismatched .a 10 0) ∧
      onConfirmed (mismatched .a 10 0) 0 .a = true ∧
      (∀ h, (grp (mismatched .a 10 0) h).redLost = false) ∧
      Quiet (marked 0) ∧
      onConfirmed (marked 0) 0 .a = true ∧
      (grp (marked 0) 0).redLost = true ∧
      Quiet (marked 1) ∧
      onConfirmed (marked 1) 0 .a = true ∧
      (grp (marked 1) 0).redLost = false ∧
      (marked 1).mode = .normal ∧
      used (marked 1) 0 = true ∧
      (1 : GroupId) ≠ 0 ∧
      used (marked 1) 1 = true ∧
      (grp (marked 1) 1).redLost = true ∧
      (∀ i, used (marked 1) i = true → (grp (marked 1) i).state = .red ∨ (grp (marked 1) i).state = .redMin) := by
  repeat' first
    | apply And.intro
    | refine quiet_of _ ?_ ?_ ?_ ?_
    | decide +kernel

theorem witness_LampFaultsAreLatched :
    onConfirmed (mismatched .b 10 0) 0 .b = true ∧
      offConfirmed (mismatched .a 0 10) 0 .a = true := by
  repeat' first
    | apply And.intro
    | decide +kernel

theorem witness_BadMeasurementsBringFault :
    base.work = [] ∧
      look base.engines 0 = some 0 ∧
      (channel base (engineChannel 0 0)).state ≠ .disabled ∧
      34133 < (16000000 * periodsOf (loopCfg base (engineChannel 0 0)) + 119999) / 120000 := by
  repeat' first
    | apply And.intro
    | decide +kernel

theorem witness_GoodMeasurementIsJudged :
    look State.reset.engines 0 = none ∧
      look base.engines 0 = some 0 ∧
      (∀ j, tram base j = none) ∧
      ((16000000 * (loopCfg base 0).periods.toNat + 119999) / 120000 ≤ 34134 ∧
        34134 ≤ 16000000 * (loopCfg base 0).periods.toNat / 20000) ∧
      (channel (looped .settling 2 0) 0).state = .settling ∧
      (channel (looped .free 0 0) 0).state = .free ∧
      (channel (looped .free 0 0) 0).baseline = some 60000 ∧
      ((16000000 * (loopCfg base 0).periods.toNat + 119999) / 120000 ≤ 59880 ∧
        59880 ≤ 16000000 * (loopCfg base 0).periods.toNat / 20000) ∧
      ((loopCfg base 0).onThreshold.toNat : Int) ≤ shiftAgainst 60000 59880 ∧
      shiftAgainst 60000 59881 < ((loopCfg base 0).onThreshold.toNat : Int) ∧
      (channel (looped .occupied 0 0) 0).state = .occupied ∧
      shiftAgainst 60000 59911 < 15 ∧
      (15 : Int) ≤ shiftAgainst 60000 59910 ∧
      (channel (looped .fault 3 6) 0).state = .fault ∧
      (channel (looped .fault 3 6) 0).goodRun < 7 ∧
      7 ≤ (channel (looped .fault 3 7) 0).goodRun := by
  repeat' first
    | apply And.intro
    | decide +kernel

/-- L1 and L2 of G1 in FAULT, with the permanent demand. -/
def failed (other : ChState) : State :=
  modGroup 0
    (fun r => { r with demand := some ⟨.failedDetector 0, 90000#32, true⟩ })
    (modChannel 1 (fun r => { r with state := other }) (looped .fault 3 7))

theorem witness_OccupationsReachTheDemandLogic_entry :
    ∃ t, exec (.measurementComplete 0 59880) (looped .free 0 0) = .next t ∧
      loopFeeds (loopCfg (looped .free 0 0) (engineChannel 0 0)) = some 0 ∧
      (channel (looped .free 0 0) (engineChannel 0 0)).state = .free ∧
      (channel t (engineChannel 0 0)).state = .occupied :=
  ⟨_, rfl, by decide +kernel, by decide +kernel, by decide +kernel⟩

theorem witness_OccupationsReachTheDemandLogic_recovery :
    ∃ t, exec (.measurementComplete 0 60000) (failed .fault) = .next t ∧
      (channel (failed .fault) (engineChannel 0 0)).state = .fault ∧
      (channel t (engineChannel 0 0)).state = .free ∧ (channel t 1).state = .fault ∧
      loopFeeds (loopCfg (failed .fault) 1) = some 0 :=
  ⟨_, rfl, by decide +kernel, by decide +kernel, by decide +kernel, by decide +kernel⟩

theorem witness_OccupationsReachTheDemandLogic_last_recovery :
    ∃ t, exec (.measurementComplete 0 60000) (failed .free) = .next t ∧
      (channel t (engineChannel 0 0)).state = .free ∧
      ∀ o, loopFeeds (loopCfg (failed .free) o) = some 0 → (channel t o).state ≠ .fault :=
  ⟨_, rfl, by decide +kernel, by decide +kernel⟩

/-- I1 with a run of five samples at logic 0, or of a number. -/
def sampled (n : Nat) : State := modInput 0 (fun r => { r with raw := false, run := n }) base

theorem witness_OccupationsReachTheDemandLogic_input :
    (sampled 5).work = [] ∧
      inputFeeds (inputCfg (sampled 5) 0) = some 1 ∧
      (inputRec (sampled 5) 0).active = false ∧
      0 < (inputRec (sampled 5) 0).run ∧
      debounceSamples (inputCfg (sampled 5) 0) ≤ (inputRec (sampled 5) 0).run := by
  repeat' first
    | apply And.intro
    | decide +kernel

theorem witness_TrackingMovesFreeBaselines :
    expired tracking.now tracking.trackedAt 20 = true ∧
      (channel tracking 0).state = .free ∧
      (channel tracking 0).baseline = some 60000 ∧
      (channel tracking 0).lastCount = some 60000 ∧
      (channel tracking 1).state ≠ .free := by
  repeat' first
    | apply And.intro
    | decide +kernel

/-- L5, whose presence limit is 0, OCCUPIED. -/
def unlimited : State := modChannel 4 (fun r => { r with state := .occupied, occupiedSince := some 97000#32 }) base

theorem witness_PresenceLimitFreesTheChannel :
    (looped .occupied 0 0).work = [] ∧
      (channel (looped .occupied 0 0) 0).state = .occupied ∧
      (channel (looped .occupied 0 0) 0).occupiedSince = some 97000#32 ∧
      (loopCfg (looped .occupied 0 0) 0).presence.toNat ≠ 0 ∧
      expired 100000#32 97000#32 (loopCfg (looped .occupied 0 0) 0).presence.toNat = true ∧
      (channel unlimited 4).state = .occupied ∧
      (channel unlimited 4).occupiedSince = some 97000#32 ∧
      (loopCfg unlimited 4).presence.toNat = 0 := by
  repeat' first
    | apply And.intro
    | decide +kernel

theorem witness_InputsAreDebounced :
    (sampled 5).work = [] ∧
      (∀ j, tram (sampled 5) j = none) ∧
      0 < (inputRec (sampled 5) 0).run ∧
      debounceSamples (inputCfg (sampled 5) 0) ≤ (inputRec (sampled 5) 0).run ∧
      (inputRec (sampled 4) 0).run < debounceSamples (inputCfg (sampled 4) 0) := by
  repeat' first
    | apply And.intro
    | decide +kernel

theorem witness_LineSamplesAssembleBytes :
    (received fun b => { b with receiver := .broken }).beacon.receiver = .broken ∧
      base.beacon.receiver ≠ .broken ∧
      base.beacon.assembler = .waitingHigh ∧
      (assembling .waitingEdge).beacon.assembler = .waitingEdge ∧
      (assembling (.receiving 153 2 0#8 (some true))).beacon.assembler = .receiving 153 2 0#8 (some true) ∧
      (assembling (.receiving 5 1 0#8 none)).beacon.assembler = .receiving 5 1 0#8 none ∧
      (assembling (.receiving 6 1 0#8 none)).beacon.assembler = .receiving 6 1 0#8 none ∧
      (assembling (.receiving 7 1 0#8 none)).beacon.assembler = .receiving 7 1 0#8 none ∧
      (assembling (.receiving 8 1 0#8 none)).beacon.assembler = .receiving 8 1 0#8 none ∧
      (assembling (.receiving 24 1 0#8 none)).beacon.assembler = .receiving 24 1 0#8 none ∧
      (assembling (.receiving 136 1 0#8 none)).beacon.assembler = .receiving 136 1 0#8 none ∧
      (assembling (.receiving 152 1 0#8 none)).beacon.assembler = .receiving 152 1 0#8 none ∧
      ((6 + 1) % 16 = 7 ∧ (7 + 1) % 16 = 8 ∧ (8 + 1) % 16 = 9 ∧ (8 + 1) / 16 = 0) ∧
      ((24 + 1) % 16 = 9 ∧ 1 ≤ (24 + 1) / 16 ∧ (24 + 1) / 16 ≤ 8) ∧
      ((136 + 1) % 16 = 9 ∧ (136 + 1) / 16 = 8) ∧
      ((152 + 1) % 16 = 9 ∧ 9 ≤ (152 + 1) / 16) ∧
      ((5 + 1) % 16 ≠ 7 ∧ (5 + 1) % 16 ≠ 8 ∧ (5 + 1) % 16 ≠ 9) := by
  repeat' first
    | apply And.intro
    | decide +kernel

theorem witness_LineFaultsDropTelegrams :
    (assembling (.receiving 153 0 0#8 (some false))).beacon.assembler = .receiving 153 0 0#8 (some false) ∧
      (received fun b => { b with receiver := .assembling, sinceByte := 480 }).beacon.receiver = .assembling ∧
      480 ≤ (received fun b => { b with receiver := .assembling, sinceByte := 480 }).beacon.sinceByte ∧
      (received fun b => { b with lowFor := some 320 }).beacon.receiver ≠ .broken ∧
      (received fun b => { b with lowFor := some 320 }).beacon.lowFor = some 320 ∧
      (received fun b => { b with receiver := .broken, highFor := some 160 }).beacon.receiver = .broken ∧
      (received fun b => { b with receiver := .broken, highFor := some 160 }).beacon.highFor = some 160 := by
  repeat' first
    | apply And.intro
    | decide +kernel

theorem witness_CompletedBytesBuildTelegrams :
    (assembling (.receiving 153 3 5#8 (some true))).beacon.assembler = .receiving 153 3 5#8 (some true) ∧
      (assembling (.receiving 153 3 5#8 (some true))).beacon.receiver = .idle ∧
      (5#8 : Byte) ≠ 0xC3#8 ∧
      (assembling (.receiving 153 3 0xC3#8 (some true))).beacon.assembler = .receiving 153 3 0xC3#8 (some true) ∧
      (complete [0xC3#8] 5#8).beacon.receiver = .assembling ∧
      (complete [0xC3#8] 5#8).beacon.telegram.length < 11 ∧
      (complete telegram 0#8).beacon.telegram.length = 11 ∧
      (0#8 : Byte) ≠ crc8 telegram ∧
      strangeTelegram = 0xC3#8 :: 16#8 :: [4#8, 0#8, 7#8, 11#8, 2#8, 0#8, 0#8, 0#8, 255#8] ∧
      16 ≤ (16#8 : Byte).toNat ∧
      telegram = 0xC3#8 :: BitVec.ofNat 8 (2 : BeaconId).val :: 4#8 :: [0#8, 7#8, 11#8, 2#8, 0#8, 0#8, 0#8, 255#8] ∧
      (complete telegram (crc8 telegram)).beacon.assembler = .receiving 153 3 (crc8 telegram) (some true) ∧
      beaconFn (look (cfg base).beacons 2) ≠ .off ∧
      (look (cfg base).beacons 2).approach.toNat = (0 : ApproachId).val + 1 := by
  repeat' first
    | apply And.intro
    | decide +kernel

/-- The fields of a telegram of tram 7 of line 11. -/
def fields (kd : Byte) (way : Byte) : List Byte := [kd, 0#8, 7#8, 11#8, way, 1#8, 0#8, 36#8, 255#8]

/-- A junction in FLASH with a whole telegram of a beacon at the receiver, and trams in its list. -/
def telling (bcn : Byte) (kd way : Byte) (trams : Vector (Option TramRec) 8) : State :=
  let bytes := 0xC3#8 :: bcn :: fields kd way
  { within .flash (complete bytes (crc8 bytes)) with trams := trams }

/-- A list full of trams of another number. -/
def fullList : Vector (Option TramRec) 8 := Vector.replicate 8 (some { held with number := 9#16 })

theorem telling_pre (kd way : Byte) (trams : Vector (Option TramRec) 8) :
    Telegram 2 .pre 0 (fields kd way) (telling 2#8 kd way trams) :=
  ⟨rfl, rfl, ⟨_, rfl⟩, rfl, ⟨_, _, rfl⟩, rfl, fun _ => rfl⟩

theorem telling_stop (kd way : Byte) (trams : Vector (Option TramRec) 8) :
    Telegram 3 .stop 0 (fields kd way) (telling 3#8 kd way trams) :=
  ⟨rfl, rfl, ⟨_, rfl⟩, rfl, ⟨_, _, rfl⟩, rfl, fun _ => rfl⟩

theorem unlisted_of {number : BitVec 16} {a : ApproachId} {s : State}
    (h : ∀ k, (tram s k).all (fun r => r.number != number) = true) : Unlisted number a s := by
  intro k r hr hm
  simpa [hr, hm.1] using h k

/-- One tram in entry 0 keeps the tram list's law. -/
theorem tramListLaw_single (s : State) (h : ∀ j, j ≠ 0 → tram s j = none) : TramListLaw s := by
  intro j k x y hj hk _ _
  by_cases h1 : j = 0
  · by_cases h2 : k = 0
    · rw [h1, h2]
    · rw [h k h2] at hk; cases hk
  · rw [h j h1] at hj; cases hj

theorem witness_CompletedBytesBuildTelegrams_handed :
    (Telegram 2 .pre 0 (fields 5#8 2#8) (telling 2#8 5#8 2#8 base.trams) ∧ 4 < (5#8 : Byte).toNat) ∧
      (Telegram 2 .pre 0 (fields 1#8 (routeByte .left)) (telling 2#8 1#8 (routeByte .left) base.trams) ∧
        routeGroupIn (cfg (telling 2#8 1#8 (routeByte .left) base.trams)) 0 .left = none) ∧
      (routeGroupIn (cfg (telling 2#8 1#8 (routeByte .ahead) fullList)) 0 .ahead = some 4 ∧
        Unlisted 7#16 0 (telling 2#8 1#8 (routeByte .ahead) fullList) ∧
        ∀ k, tram (telling 2#8 1#8 (routeByte .ahead) fullList) k ≠ none) ∧
      (Unlisted 7#16 0 (telling 2#8 1#8 (routeByte .ahead) base.trams) ∧
        LowestEmpty 0 (telling 2#8 1#8 (routeByte .ahead) base.trams) ∧
        (telling 2#8 1#8 (routeByte .ahead) base.trams).mode ≠ .normal ∧
        (grp (telling 2#8 1#8 (routeByte .ahead) base.trams) 4).pendingTerm = none) ∧
      (Telegram 3 .stop 0 (fields 2#8 0#8) (telling 3#8 2#8 0#8 base.trams) ∧
        Unlisted 7#16 0 (telling 3#8 2#8 0#8 base.trams)) ∧
      TramListLaw (telling 3#8 3#8 0#8 heldTram.trams) ∧
        tram (telling 3#8 3#8 0#8 heldTram.trams) 0 = some held ∧ held.number = word16 0#8 7#8 ∧
        held.approach = 0 ∧ held.transition = none ∧
        (grp (telling 3#8 3#8 0#8 heldTram.trams) held.group).pendingTerm = none := by
  refine ⟨⟨telling_pre _ _ _, ?_⟩, ⟨telling_pre _ _ _, ?_⟩, ⟨?_, unlisted_of ?_, ?_⟩,
    ⟨unlisted_of ?_, ⟨?_, ?_⟩, ?_, ?_⟩, ⟨telling_stop _ _ _, unlisted_of ?_⟩, tramListLaw_single _ ?_, ?_⟩
  all_goals decide +kernel

theorem witness_TramTimersExpire :
    heldTram.work = [] ∧
      tram heldTram 0 = some held ∧
      (grp heldTram 4).pendingTerm = none ∧
      atOrAfter 100000#32 100000#32 = true ∧
      held.transition = none ∧
      expired 100000#32 99700#32 (figure site .lostMargin) = true := by
  repeat' first
    | apply And.intro
    | decide +kernel

theorem witness_TramCheckInMakesARecord :
    Answerable .tramnet [0#8, 7#8, approachByte 0, 11#8, routeByte .left, 1#8, 0#8, 36#8, 255#8] base ∧
      (word16 0#8 7#8).toNat ≤ 9999 ∧
      (∀ k, tram base k = none) ∧
      routeGroupIn (cfg base) 0 .left = none ∧
      Answerable .tramnet [0#8, 7#8, approachByte 0, 11#8, routeByte .ahead, 1#8, 0#8, 36#8, 255#8] base ∧
      routeGroupIn (cfg base) 0 .ahead = some 4 ∧
      (grp base 4).pendingTerm = none ∧
      (within .flash base).mode ≠ .normal ∧
      base.mode = .normal ∧
      baseLevelIn (cfg base) 11#8 ≠ 0 ∧
      isGreen tramGreen 4 = true ∧
      (grp tramGreen 4).greenStart = some 99900#32 ∧
      (grp tramGreen 4).inhibited = false ∧
      (grp tramGreen 4).priorityInhibited = false := by
  repeat' first
    | apply And.intro
    | with_reducible apply Answerable.mk
    | decide +kernel

/-- The tram OBSERVED in entry 0, in FLASH. -/
def observedTram : State := within .flash (withTram (tramOf .observed none 100100#32))

theorem witness_TramCheckInMakesARecord_listed :
    (Unlisted 7#16 0 { base with trams := fullList } ∧ (∀ k, tram { base with trams := fullList } k ≠ none) ∧
        Answerable .tramnet [0#8, 7#8, approachByte 0, 11#8, routeByte .ahead, 1#8, 0#8, 36#8, 255#8]
          { base with trams := fullList }) ∧
      (Unlisted 8#16 0 observedTram ∧ LowestEmpty 1 observedTram ∧ observedTram.mode ≠ .normal ∧
        Answerable .tramnet [0#8, 8#8, approachByte 0, 11#8, routeByte .ahead, 1#8, 0#8, 36#8, 255#8]
          observedTram) ∧
      (TramListLaw observedTram ∧ tram observedTram 0 = some (tramOf .observed none 100100#32) ∧
        (grp observedTram 4).pendingTerm = none) ∧
      (isGreen base 4 = false ∧ (∀ k r, slot base k = some r → isLive r = false) ∧ FinishLaw base) ∧
      (∀ i, (grp base i).claim = none) ∧ (∀ i, (grp base i).state ≠ .prepare) ∧
      ∀ i, (grp base i).redLost = false := by
  refine ⟨⟨unlisted_of ?_, ?_, ⟨?_, ?_, ?_⟩⟩, ⟨unlisted_of ?_, ⟨?_, ?_⟩, ?_, ⟨?_, ?_, ?_⟩⟩,
    ⟨tramListLaw_single _ ?_, ?_, ?_⟩, ⟨?_, test_base_is_quiet.records, finishLaw_of _ rfl rfl⟩, ?_, ?_, ?_⟩
  all_goals decide +kernel

theorem witness_CheckOutAndCancelRemoveTheRecord_none :
    Answerable .tramnet [0#8, 7#8, approachByte 0] base ∧
      TramListLaw base ∧
      (∀ k, tram base k = none) := by
  repeat' first
    | apply And.intro
    | with_reducible apply Answerable.mk
    | apply tramListLaw_of
    | decide +kernel

theorem witness_CheckOutAndCancelRemoveTheRecord :
    TramListLaw heldTram ∧ Answerable .tramnet [0#8, 7#8, approachByte 0] heldTram ∧
      tram heldTram 0 = some held ∧
      held.number = word16 0#8 7#8 ∧
      (grp heldTram 4).pendingTerm = none := by
  refine ⟨tramListLaw_single _ (by decide +kernel), ⟨by decide +kernel, by decide +kernel, by decide +kernel⟩,
    by decide +kernel, by decide, by decide +kernel⟩

/-- The frame of READ_GROUPS of G1 from CENTRAL at strap address 0: address 41H, code 02H (R151, R164). -/
theorem test_frame_of_read_groups :
    (commandOfFrame base.straps [0x82#8, 0x02#8, 1#8, 1#8, crc8 [0x82#8, 0x02#8, 1#8, 1#8]] .stop,
        commandOfFrame base.straps [0x82#8, 0x02#8, 1#8, 1#8] .stop) =
      (.readGroups .central [1#8], .requestFrameDrop [0x82#8, 0x02#8, 1#8, 1#8] .stop) := by decide +kernel

theorem witness_BadFramesAreCounted :
    ([0x12#8] : List Byte).length < 2 ∧
      requestOf (.readGroups .central [1#8]) = some (.central, [1#8]) ∧
      (∀ role ∈ allRoles, [0#8] ≠ requestFrame base.straps role 2#8 []) ∧
      40 < (41#8 : Byte).toNat ∧
      ([0#8] : List Byte).length ≤ (1#8 : Byte).toNat ∧
      (1#8 : Byte).toNat = ([9#8] : List Byte).length ∧
      (∀ role ∈ allRoles, (0#8 : Byte) ≠ addressByte base.straps role false) := by
  repeat' first
    | apply And.intro
    | decide +kernel

theorem witness_ReadingAReplyEmptiesTheSlot :
    (link base .plan).slot = .empty ∧
      (link (slotted .service .pending base) .service).slot = .pending ∧
      (link (slotted .plan (.ready (plain .done) true) base) .plan).slot = .ready (plain .done) true := by
  repeat' first
    | apply And.intro
    | decide +kernel

theorem witness_RequestsNeedAFreeSlotAndARight :
    requestOf (.keepalive .central []) = some (.central, []) ∧
      (link (slotted .central .pending base) .central).slot = .pending ∧ Answerable .central [] base ∧
      ¬ mayRequest (.keepalive .central []) .central ∧ knownCode 0x13#8 = false ∧ knownCode 0x12#8 = true := by
  refine ⟨rfl, by decide +kernel, ⟨by decide, by decide +kernel, by decide +kernel⟩, ?_, by decide, by decide⟩
  intro h
  cases h

theorem witness_ReadsAnswerWhatFits :
    Answerable .plan [] base ∧
      Answerable .plan [1#8, 1#8] base ∧
      (1#8 : Byte) = groupByte 0 ∧
      (7#8 : Byte) = byte (7 : SlotId).val ∧
      (8#8 : Byte).toNat ≤ 8 ∧ 8 < (9#8 : Byte).toNat ∧ Answerable .plan [7#8, 9#8] base ∧
      (1 ≤ (32#8 : Byte).toNat ∧ (32#8 : Byte).toNat ≤ 32) ∧
      (countersOf base 4#8).isSome = true := by
  repeat' first
    | apply And.intro
    | with_reducible apply Answerable.mk
    | decide +kernel

theorem witness_NoticePollTakesTheHighestKind :
    Answerable .plan [] (noticed .plan .tram base) ∧
      hasNotice (noticed .plan .tram base) .plan .tram = true ∧
      (∀ m ∈ allNotices, hasNotice (noticed .plan .tram base) .plan m = true →
        (noticeIndex .tram).val ≤ (noticeIndex m).val) ∧
      (∀ r ∈ allRoles, ∀ m ∈ allNotices, hasNotice (noticed .plan .tram base) r m = true → r = .plan ∧ m = .tram) ∧
      (∀ n ∈ allNotices, hasNotice base .plan n = false) ∧
      (link (slotted .service .pending base) .service).slot = .pending := by
  repeat' first
    | apply And.intro
    | with_reducible apply Answerable.mk
    | decide +kernel

theorem witness_KeepaliveRestartsSupervision :
    Answerable .plan [] base ∧
      Answerable .plan [1#8] base := by
  repeat' first
    | apply And.intro
    | with_reducible apply Answerable.mk
    | decide +kernel

theorem witness_DemandPlacesAndClears :
    Answerable .plan [] base ∧
      Answerable .plan [1#8, 3#8] base ∧
      used base 2 = false ∧
      Answerable .plan (1#8 :: ([0, 1] : List GroupId).map groupByte) base ∧
      ([0, 1] : List GroupId).Nodup ∧
      (∀ g ∈ ([0, 1] : List GroupId), used base g = true) ∧
      (grp base 0).demand = none ∧
      (grp (failed .fault) 0).demand = some ⟨.failedDetector 0, 90000#32, true⟩ := by
  repeat' first
    | apply And.intro
    | with_reducible apply Answerable.mk
    | decide +kernel

theorem witness_ListRefused : ListRefused (used base) 2#8 [1#8] ∧ ListRefused (used base) 1#8 [] ∧
    ListRefused (used base) 1#8 [25#8] ∧ ListRefused (used base) 1#8 [1#8, 1#8] ∧
    ListRefused (used base) 0#8 [3#8] := by
  refine ⟨.inl (by decide), .inr (.inl rfl), .inr (.inr (.inl (by decide))),
    .inr (.inr (.inr (.inl (by decide)))), .inr (.inr (.inr (.inr ⟨2, by decide, by decide +kernel⟩)))⟩

theorem witness_InhibitsWriteTheirFlags :
    Quiet base ∧
      Answerable .central (1#8 :: ([0] : List GroupId).map groupByte) base ∧
      (∀ g ∈ ([0] : List GroupId), used base g = true) ∧
      Answerable .plan (1#8 :: ([4] : List GroupId).map groupByte) base ∧
      (∀ g ∈ ([4] : List GroupId), kind base g = .tram) ∧
      Answerable .central [1#8, 3#8] base ∧
      Answerable .plan [1#8, 1#8] base := by
  repeat' first
    | apply And.intro
    | with_reducible apply Answerable.mk
    | refine quiet_of _ ?_ ?_ ?_ ?_
    | decide +kernel

theorem witness_TransitionChecksInOrder :
    (Answerable .plan [] base ∧ Answerable .plan [2#8, 1#8] base ∧ Answerable .plan [0#8, 1#8] (within .flash base)) ∧
      ((conflicts base 0 1 = true ∧ Answerable .plan [0#8, 1#8, 2#8] base) ∧
        (grp (modGroup 0 (fun r => { r with inhibited := true }) base) 0).inhibited = true ∧
        ¬ Covered (having 1 .green 99000#32 base) [] [0]) ∧
      Covered fullTable [] [4] ∧ FinishLaw fullTable ∧ ¬ RoomFor fullTable ∧
      Answerable .plan [0#8, 5#8] fullTable := by
  refine ⟨⟨⟨by decide, by decide +kernel, by decide +kernel⟩, ⟨by decide, by decide +kernel, by decide +kernel⟩,
    ⟨by decide, by decide +kernel, by decide +kernel⟩⟩, ⟨⟨by decide +kernel, ⟨by decide, by decide +kernel,
    by decide +kernel⟩⟩, by decide +kernel, ?_⟩, ?_, fullTable_law, ?_, ⟨by decide, by decide +kernel,
    by decide +kernel⟩⟩
  · unfold Covered
    decide +kernel
  · unfold Covered
    decide +kernel
  · intro h
    exact absurd h.1 (by decide +kernel)

theorem witness_PassedTransitionIsAccepted :
    (Answerable .plan [1#8, 2#8, 1#8] base ∧ FinishLaw base ∧ (∀ k, tram base k = none)) ∧
      (∀ g, (grp base g).redLost = false) ∧ (∀ g ∈ ([1] ++ [0] : List GroupId), used base g = true) ∧
      (∀ i ∈ ([0] : List GroupId), ∀ j ∈ ([0] : List GroupId), conflicts base i j = false) ∧
      Covered base [1] [0] ∧ RoomFor base := by
  refine ⟨⟨⟨by decide, by decide +kernel, by decide +kernel⟩, finishLaw_of _ rfl rfl, by decide +kernel⟩,
    by decide +kernel, by decide +kernel, by decide +kernel, ?_, ⟨by decide +kernel, 0, ?_⟩⟩
  · unfold Covered
    decide +kernel
  · exact test_base_is_quiet.records 0

theorem witness_AcceptedReleaseIsScheduled :
    (Quiet base ∧ FinishLaw base ∧ Answerable .plan [0#8, groupByte 0] base ∧ used base 0 = true) ∧
      ((grp base 0).state = .red ∧ (grp base 0).schedule = none ∧ (grp base 0).inhibited = false ∧
        conflicts base 0 0 = false) ∧
      (∀ h, (grp base h).claim = none ∧ (grp base h).pendingTerm = none) ∧
      (∀ i, conflicts base i 0 = true → inProceed base i = false ∧ (grp base i).redLost = false) ∧
      (∀ i, (grp base i).greenEnd = none) ∧ (grp base 0).redEntry = none := by
  refine ⟨⟨test_base_is_quiet, finishLaw_of _ rfl rfl, ⟨by decide, by decide +kernel, by decide +kernel⟩,
    by decide +kernel⟩, by decide +kernel, by decide +kernel, by decide +kernel, by decide +kernel,
    by decide +kernel⟩

theorem witness_CancelEndsALiveTransition :
    Answerable .plan [5#8] base ∧
      (∀ k, slot base k = none) ∧
      Answerable .central [5#8] (withRecord (record .central (.role .plan) .queued)) ∧
      Answerable .plan [5#8] (withRecord (record .central (.role .central) .queued)) ∧
      Answerable .plan [5#8] (withRecord (record .plan (.role .plan) .active)) ∧
      slot (withRecord (record .plan (.role .plan) .active)) 0 = some (record .plan (.role .plan) .active) ∧
      isLive (record .plan (.role .plan) .active) = true ∧
      (∀ j, j ≠ 0 → slot (withRecord (record .plan (.role .plan) .active)) j = none) ∧
      (withRecord (record .plan (.role .plan) .active)).mode ≠ .clearing ∧
      (withRecord (record .plan (.role .plan) .active)).commit ≠ .waitingApply ∧
      (∀ j, tram (withRecord (record .plan (.role .plan) .active)) j = none) ∧
      named (record .plan (.role .plan) .active) 0 = true ∧
      (grp (withRecord (record .plan (.role .plan) .active)) 0).claim = some ⟨5#8, .release⟩ ∧
      (grp (withRecord (record .plan (.role .plan) .active)) 0).state = .redWait := by
  repeat' first
    | apply And.intro
    | with_reducible apply Answerable.mk
    | decide +kernel

theorem witness_ModeFollowsItsTable :
    Answerable .plan [3#8] base ∧
      (within .dark base).mode = .dark ∧
      (within .dark base).active.isSome = true ∧
      ({ within .dark base with active := none } : State).active = none ∧
      (within .dark base).commit ≠ .waitingApply ∧
      (1#8 : Byte) = targetByte .flash ∧
      Quiet base ∧
      (∀ g, used base g = true → (grp base g).state = .red ∨ (grp base g).state = .redMin) ∧
      (used (having 0 .green 99000#32 base) 0 = true ∧ (grp (having 0 .green 99000#32 base) 0).state = .green) ∧
      (within .clearing base).mode = .clearing ∧
      (within .lockout base).mode = .lockout ∧
      (within .start base).mode = .start := by
  repeat' first
    | apply And.intro
    | with_reducible apply Answerable.mk
    | refine quiet_of _ ?_ ?_ ?_ ?_
    | decide +kernel

theorem witness_StagingIsWrittenAndRead :
    Answerable .service [6#8, 0#8, 11#8, 5#8] base ∧
      sectionOfCode 6#8 = some .routes ∧
      sectionOfCode 8#8 = none ∧
      ([5#8] : List Byte).length % recordBytes .routes = 0 ∧
      (word16 0#8 11#8).toNat + ([5#8] : List Byte).length / recordBytes .routes ≤ sectionSize .routes ∧
      sectionSize .routes < (word16 0#8 12#8).toNat + ([5#8] : List Byte).length / recordBytes .routes ∧
      Answerable .service [] base ∧
      Answerable .service [0#8, 6#8, 0#8, 11#8, 1#8] base ∧
      (word16 0#8 11#8).toNat < sectionSize .routes ∧
      base.active = some site ∧
      State.reset.active = none := by
  refine ⟨?_, by decide, by decide, by decide, by decide, by decide, ?_, ?_, by decide, rfl, rfl⟩
  all_goals
    refine .mk ?_ ?_ ?_
    all_goals decide +kernel

theorem witness_CommitValidatesAppliesAndStores :
    Answerable .service [] base ∧
      validate { site with junction := put site.junction 1 29 } = some (.jnRange, 1) ∧
      validate base.staging = none ∧
      (within .dark base).mode = .dark ∧
      base.mode ≠ .dark ∧
      base.mode ≠ .flash ∧
      base.mode ≠ .lockout ∧
      (used (having 0 .green 99000#32 base) 0 = true ∧ (grp (having 0 .green 99000#32 base) 0).state = .green) ∧
      ({ base with commit := .storing } : State).commit = .storing ∧
      base.active = some site ∧
      base.commit ≠ .storing := by
  refine ⟨?_, ?_, test_site_is_valid, ?_, ?_, ?_, ?_, ?_, ?_, rfl, ?_⟩
  all_goals
    repeat' first
      | apply And.intro
      | with_reducible apply Answerable.mk
      | decide +kernel

theorem witness_ServiceClearsLockoutAndFaults :
    Answerable .service [] (within .lockout base) ∧
      base.mode ≠ .lockout ∧
      Answerable .service [25#8] base ∧
      (∃ b ∈ ([25#8] : List Byte), b.toNat = 0 ∨ 24 < b.toNat) ∧
      Quiet base ∧
      Answerable .service (([0, 4] : List GroupId).map groupByte) base ∧
      ([0, 4] : List GroupId).Nodup := by
  repeat' first
    | apply And.intro
    | with_reducible apply Answerable.mk
    | refine quiet_of _ ?_ ?_ ?_ ?_
    | decide +kernel

theorem witness_ClearCountsZeroesTheCounters :
    Answerable .service [] base := by
  repeat' first
    | with_reducible apply Answerable.mk
    | decide +kernel

/-- A circuit of the site's group under the command of the table (R74). -/
def lampOf (g : GroupId) (which : Circuit) : LampRec where
  cmd := lampCommand (kindIn site g) (if usedIn site g then .red else .dark) false which
  sense := false
  changedAt := 99000#32
  onMismatch := { time := 0, handed := false }
  offMismatch := { time := 0, handed := false }

/-- The site with its lamps lit by the table, and an advance of junction time waiting. -/
def lit : State :=
  { base with
    pending := [.junctionTimeAdvance]
    lamps := tabulate fun g => { a := lampOf g .a, b := lampOf g .b, c := lampOf g .c } }

theorem lit_state (g : GroupId) : (grp lit g).state = if usedIn site g then .red else .dark := by
  simp [lit, base, grp]

theorem test_lit_steps : ∃ t, step lit = .next t := ⟨_, rfl⟩

theorem witness_StepsKeepTheModeAndConfigLaws : ModeLaw lit ∧ ConfigLaw lit ∧ ∃ t, step lit = .next t := by
  refine ⟨fun _ => rfl, ⟨?_, ?_, ?_, ?_, ?_⟩, test_lit_steps⟩
  · intro img h
    cases h
    exact test_site_is_valid
  · intro h
    cases h
  · intro h
    exact absurd rfl h
  · intro h
    cases h
  · intro h
    cases h

theorem witness_StepsKeepTheLampLaw : LampLaw lit ∧ ∃ t, step lit = .next t := by
  refine ⟨?_, test_lit_steps⟩
  intro g which
  rw [lit_state]
  cases which <;> simp [lit, lamp, circuit, lampOf] <;> rfl

theorem witness_StepsKeepUnusedGroupsDark : UnusedLaw lit ∧ ∃ t, step lit = .next t := by
  refine ⟨?_, test_lit_steps⟩
  intro g h
  rw [lit_state, if_neg]
  rw [show used lit g = usedIn site g from rfl] at h
  simp [h]

/-- The site keeps the laws of the tables. -/
theorem test_lit_tables : TableLaws lit where
  finish := finishLaw_of _ rfl rfl
  cards := by unfold TableLaw; decide +kernel
  trams := tramListLaw_of _ rfl
  notices := by
    intro r n hn
    have h : hasNotice lit r n = false := by
      cases r <;> cases n <;> decide +kernel
    rw [h] at hn
    cases hn
  channels := by
    have h : ∀ ch, (channel lit ch).lastShift = none ∧ (channel lit ch).state ≠ .free ∧
        (channel lit ch).state ≠ .occupied := by decide +kernel
    intro ch
    obtain ⟨h1, h2, h3⟩ := h ch
    refine ⟨fun x hx => ?_, fun hx => ?_⟩
    · rw [h1] at hx
      cases hx
    · rcases hx with hx | hx
      · exact absurd hx h2
      · exact absurd hx h3

theorem witness_StepsKeepTheTableLaws : TableLaws lit ∧ ∃ t, step lit = .next t :=
  ⟨test_lit_tables, test_lit_steps⟩

/-- A command runs on. -/
def isNext : Host.Outcome State Fault Refusal → Bool
  | .next _ => true
  | _ => false

theorem witness_LockoutStaysUntilCleared :
    (within .lockout base).mode = .lockout ∧
      ∃ t, exec (.keepalive .plan []) (within .lockout base) = .next t := by
  refine ⟨rfl, ?_⟩
  have h : (isNext (exec (.keepalive .plan []) (within .lockout base))) = true := by decide +kernel
  cases e : exec (.keepalive .plan []) (within .lockout base) with
  | next t => exact ⟨t, rfl⟩
  | fault _ => rw [e] at h; cases h
  | refused _ => rw [e] at h; cases h

/-- G1 scheduled in RED_WAIT for PLAN's record, with its NOW_REACHES_S waiting. -/
def moving : State := { atS [0, 4] with pending := [.nowReachesS 0] }

/-- The only record is PLAN's. -/
theorem moving_slots : ∀ k r, slot moving k = some r → k = 0 ∧ r = carried [] [0, 4] := by
  have h0 : slot moving 0 = some (carried [] [0, 4]) := by decide +kernel
  have h : ∀ j, j ≠ 0 → slot moving j = none := by decide +kernel
  intro k r hr
  by_cases hk : k = 0
  · rw [hk, h0] at hr
    cases hr
    exact ⟨hk, rfl⟩
  · rw [h k hk] at hr
    cases hr

theorem moving_releases : ∀ i j, inSet .release (carried [] [0, 4]) i = true →
    inSet .release (carried [] [0, 4]) j = true → conflicts moving i j = false := by decide +kernel

/-- The site with a scheduled group keeps the release laws. -/
theorem moving_laws : ReleaseLaws moving where
  apart := by
    have h : ∀ i, inProceed moving i = false := by decide +kernel
    intro i j _ hp
    rw [h i] at hp
    exact absurd hp.1 (by decide)
  waits := by
    have h : ∀ g, (grp moving g).state = .redWait → (grp moving g).claim = some { id := 5#8, kind := .release } := by
      decide +kernel
    intro g hg _
    exact ⟨⟨_, h g hg, rfl⟩, fun i _ => (by decide +kernel : ∀ i, inProceed moving i = false) i⟩
  schedules := by
    have h : ∀ g, (grp moving g).schedule.isSome = true → (grp moving g).state = .redWait := by decide +kernel
    exact fun g hg => .inl (h g hg)
  resting := fun h => absurd rfl h
  claims := by
    have h : ∀ g, (grp moving g).claim = none ∨
        ((grp moving g).claim = some { id := 5#8, kind := .release } ∧
          inSet .release (carried [] [0, 4]) g = true) := by decide +kernel
    intro g c hc
    rcases h g with hn | ⟨hs, hi⟩
    · rw [hn] at hc
      cases hc
    · rw [hs] at hc
      cases hc
      exact ⟨0, carried [] [0, 4], by decide +kernel, rfl, rfl, hi⟩
  ids := by
    intro j k q r hj hk _
    rw [(moving_slots j q hj).1, (moving_slots k r hk).1]
  accepted := by
    intro k r hk _
    rw [(moving_slots k r hk).1]
    decide +kernel
  releases := by
    intro k r hk _
    rw [(moving_slots k r hk).2]
    exact moving_releases
  active := by
    intro j k q r hj hk _ _
    rw [(moving_slots j q hj).2, (moving_slots k r hk).2]
    exact moving_releases

theorem witness_ConflictingGroupsNeverProceedTogether :
    ConfigLaw moving ∧ UnusedLaw moving ∧ FinishLaw moving ∧ ReleaseLaws moving ∧ ∃ t, step moving = .next t := by
  refine ⟨⟨?_, ?_, ?_, ?_, ?_⟩, ?_, ?_, moving_laws, ⟨_, rfl⟩⟩
  · intro img h
    cases h
    exact test_site_is_valid
  · intro h
    cases h
  · intro h
    exact absurd rfl h
  · intro h
    cases h
  · intro h
    cases h
  · have h : ∀ g, used moving g = true ∨ (grp moving g).state = .dark := by decide +kernel
    intro g hu
    rcases h g with hg | hg
    · rw [hu] at hg
      cases hg
    · exact hg
  · intro k
    constructor
    · intro h
      cases h
    · rintro ⟨r, hr, hl⟩
      rw [(moving_slots k r hr).2] at hl
      exact absurd hl (by decide)

end Sys2Proof.Tests
end

section
/-! SUPPORT. Readings that depend on the active image alone, entries to a group state field by field, a pass of writes
over several groups, and what a request keeps. -/

namespace Sys2Proof.Machine

open Sys2Proof

/-! ### Readings of the active image -/

theorem kind_congr {s t : State} (h : t.active = s.active) (g : GroupId) : kind t g = kind s g := by
  simp [kind, cfg_congr h]

theorem used_congr {s t : State} (h : t.active = s.active) (g : GroupId) : used t g = used s g := by
  simp [used, cfg_congr h]

theorem conflicts_congr {s t : State} (h : t.active = s.active) (i j : GroupId) :
    conflicts t i j = conflicts s i j := by
  simp [conflicts, cfg_congr h]

/-- Every group is gone through in a pass over all of them. -/
@[simp] theorem mem_allGroups (g : GroupId) : g ∈ allGroups := List.mem_finRange g

theorem nodup_allGroups : allGroups.Nodup := List.nodup_finRange 24

/-! ### A pass over groups -/

/-- In a pass whose operations write one group each, a group stands as its own operation left it, taken in a state
that agrees with the first on that group and on what every operation keeps. -/
theorem grp_forEach {I : State → Prop} {f : GroupId → State → State} (hI : ∀ g s, I s → I (f g s))
    (hother : ∀ g h s, g ≠ h → grp (f g s) h = grp s h) (g : GroupId) (l : List GroupId) (hl : l.Nodup) :
    ∀ s, I s → (g ∉ l → grp (forEach l f s) g = grp s g) ∧
      (g ∈ l → ∃ u, I u ∧ grp u g = grp s g ∧ grp (forEach l f s) g = grp (f g u) g) := by
  induction l with
  | nil => exact fun s _ => ⟨fun _ => rfl, fun h => absurd h List.not_mem_nil⟩
  | cons a l ih =>
    intro s hs
    obtain ⟨ha, hl'⟩ := List.nodup_cons.1 hl
    obtain ⟨hout, hin⟩ := ih hl' (f a s) (hI a s hs)
    rw [forEach_cons]
    refine ⟨fun hg => ?_, fun hg => ?_⟩
    · rw [hout (fun h => hg (List.mem_cons_of_mem a h)), hother a g s (fun h => hg (h ▸ List.mem_cons_self))]
    · rcases List.mem_cons.1 hg with rfl | hg
      · exact ⟨s, hs, rfl, hout ha⟩
      · obtain ⟨u, hu, hug, hfu⟩ := hin hg
        exact ⟨u, hu, hug.trans (hother a g s fun h => ha (h ▸ hg)), hfu⟩

/-- The same for a pass over all groups. -/
theorem grp_forEach_allGroups {I : State → Prop} {f : GroupId → State → State} (hI : ∀ g s, I s → I (f g s))
    (hother : ∀ g h s, g ≠ h → grp (f g s) h = grp s h) (g : GroupId) (s : State) (hs : I s) :
    ∃ u, I u ∧ grp u g = grp s g ∧ grp (forEach allGroups f s) g = grp (f g u) g :=
  (grp_forEach hI hother g allGroups nodup_allGroups s hs).2 (mem_allGroups g)

/-! ### A state entry, field by field (R9) -/

section
variable (g : GroupId) (st : GState) (s : State)

/-- A state entry writes groups, lamps, hand-offs and the free order, and nothing else. -/
theorem enterState_frame :
    enterState g st s =
      { s with
        groups := (enterState g st s).groups, lamps := (enterState g st s).lamps,
        work := (enterState g st s).work, order := (enterState g st s).order } := by
  unfold enterState
  split <;> rfl

/-- An entry to another state than the group is in (R9). -/
theorem enterState_of_ne (h : (grp s g).state ≠ st) :
    enterState g st s =
      handEntry g st (refreshLamps g (modGroup g (fun r => { r with state := st, enteredAt := s.now }) s)) :=
  if_neg h

/-- The record of a group that enters a state; re-entry is no entry (R9). -/
def enteredRecord (now : Time) (st : GState) (r : GroupRec) : GroupRec :=
  if r.state = st then r else { r with state := st, enteredAt := now }

@[simp] theorem enteredRecord_state (now : Time) (st : GState) (r : GroupRec) :
    (enteredRecord now st r).state = st := by
  unfold enteredRecord
  split
  · assumption
  · rfl

@[simp] theorem grp_enterState (h : GroupId) :
    grp (enterState g st s) h = if g = h then enteredRecord s.now st (grp s g) else grp s h := by
  unfold enterState enteredRecord
  split
  · split
    · next hg => rw [hg]
    · rfl
  · simp [handEntry, refreshLamps]

@[simp] theorem enterState_now : (enterState g st s).now = s.now := by rw [enterState_frame]
@[simp] theorem enterState_flash : (enterState g st s).flash = s.flash := by rw [enterState_frame]
@[simp] theorem enterState_slots : (enterState g st s).slots = s.slots := by rw [enterState_frame]
@[simp] theorem enterState_mode : (enterState g st s).mode = s.mode := by rw [enterState_frame]
@[simp] theorem enterState_trams : (enterState g st s).trams = s.trams := by rw [enterState_frame]
@[simp] theorem enterState_links : (enterState g st s).links = s.links := by rw [enterState_frame]
@[simp] theorem enterState_active : (enterState g st s).active = s.active := by rw [enterState_frame]
@[simp] theorem enterState_commit : (enterState g st s).commit = s.commit := by rw [enterState_frame]
@[simp] theorem enterState_startPhase : (enterState g st s).startPhase = s.startPhase := by
  rw [enterState_frame]

@[simp] theorem used_enterState (h : GroupId) : used (enterState g st s) h = used s h :=
  used_congr (by simp) h

@[simp] theorem kind_enterState (h : GroupId) : kind (enterState g st s) h = kind s h :=
  kind_congr (by simp) h

end

/-! ### Lamp commands (R75) -/

/-- Giving every circuit its command writes lamps alone. -/
theorem refreshAllLamps_frame (s : State) :
    refreshAllLamps s = { s with lamps := (refreshAllLamps s).lamps } :=
  forEach_keeps (fun t => t = { s with lamps := t.lamps }) _ _
    (fun g _ t ht => by rw [ht]; rfl) s rfl

/-! ### Notices (R159) -/

/-- Raising a kind writes the links alone. -/
theorem raise_frame (n : Notice) (r : Role) (s : State) :
    raise n r s = { s with links := (raise n r s).links } := by
  unfold raise
  split <;> rfl

theorem raiseFor_frame (n : Notice) (rs : List Role) (s : State) :
    raiseFor n rs s = { s with links := (raiseFor n rs s).links } :=
  forEach_keeps (fun t => t = { s with links := t.links }) _ _
    (fun r _ t ht => by rw [raise_frame, ht]) s rfl

theorem raiseAll_frame (n : Notice) (s : State) :
    raiseAll n s = { s with links := (raiseAll n s).links } := raiseFor_frame n allRoles s

/-- A change of mode writes the mode, its time, the links and the lamps (R72, R75). -/
theorem enterMode_frame (m : Mode) (s : State) :
    enterMode m s =
      { s with
        mode := m, modeEnteredAt := s.now, links := (enterMode m s).links, lamps := (enterMode m s).lamps } := by
  unfold enterMode
  rw [refreshAllLamps_frame, raiseAll_frame]

/-! ### Requests (R154) -/

/-- What changes of the link and of the supervision timer keep, a reply keeps. -/
theorem answer_keeps {P : State → Prop} (hlink : ∀ r f s, P s → P (modLink r f s)) (r : Role) (reply : Reply)
    (s : State) (hs : P s) : P (answer r reply s) := by
  have hcount : ∀ s, P s → P (countUnread r s) := by
    intro s hs
    unfold countUnread
    split
    · exact hlink _ _ s hs
    · exact hs
  have hdiscard : ∀ s, P s → P (discardReply r s) := by
    intro s hs
    unfold discardReply
    split
    · refine hlink _ _ _ ?_
      split
      · exact hlink _ _ s hs
      · exact hs
    · exact hs
  exact hlink _ _ _ (hdiscard _ (hcount _ hs))

/-- What the link's own updates, the supervision timer, settling and a request's owner keep, the request keeps. -/
theorem takeRequest_keeps {P : State → Prop} (hlink : ∀ r f s, P s → P (modLink r f s))
    (hsupervision : ∀ s v, P s → P { s with supervision := v }) (hsettled : ∀ s, P s → P (settled s))
    {owner : State → State × Reply} (howner : ∀ s, P s → P (owner s).1) (role : Role) (granted : Bool)
    (params : List Byte) (s : State) (hs : P s) : P (takeRequest role granted params owner s) := by
  have hcount : ∀ f s, P s → P (countError role f s) := fun f s hs => hlink role _ s hs
  have hfinish : ∀ x : State × Reply, P x.1 → P (finishRequest role x) := by
    intro x hx
    refine hsettled _ ?_
    unfold superviseRestart
    split
    · exact hsupervision _ _ (answer_keeps hlink role x.2 x.1 hx)
    · exact answer_keeps hlink role x.2 x.1 hx
  have hseen : P (setSeen role s) := hlink _ _ s hs
  unfold takeRequest
  dsimp only
  split
  · exact hcount _ s hs
  · split
    · exact hcount _ _ hseen
    · refine hfinish _ ?_
      split
      · exact howner _ hseen
      · exact hseen

/-- A read answers with the state as it is (R158). -/
theorem noParams_keeps {P : State → Prop} {owner : State → State × Reply} (howner : ∀ s, P s → P (owner s).1)
    (params : List Byte) (s : State) (hs : P s) : P (noParams params owner s).1 := by
  unfold noParams
  split
  · exact howner s hs
  · exact hs

theorem readJunctionOwner_fst (params : List Byte) (s : State) : (readJunctionOwner params s).1 = s := by
  unfold readJunctionOwner noParams
  split <;> rfl

theorem readGroupsOwner_fst (params : List Byte) (s : State) : (readGroupsOwner params s).1 = s := by
  unfold readGroupsOwner
  repeat' split
  all_goals rfl

theorem readTransitionsOwner_fst (params : List Byte) (s : State) : (readTransitionsOwner params s).1 = s := by
  unfold readTransitionsOwner
  repeat' split
  all_goals rfl

theorem readLoopsOwner_fst (params : List Byte) (s : State) : (readLoopsOwner params s).1 = s := by
  unfold readLoopsOwner
  split <;> rfl

theorem readTramsOwner_fst (params : List Byte) (s : State) : (readTramsOwner params s).1 = s := by
  unfold readTramsOwner
  repeat' split
  all_goals rfl

theorem readCountsOwner_fst (params : List Byte) (s : State) : (readCountsOwner params s).1 = s := by
  unfold readCountsOwner
  repeat' split
  all_goals rfl

theorem readConfigOwner_fst (params : List Byte) (s : State) : (readConfigOwner params s).1 = s := by
  unfold readConfigOwner
  repeat' split
  all_goals rfl

end Sys2Proof.Machine
end

section
/-! PROOF. Every step keeps an UNUSED group DARK (R3, R18): the blocks, the junction mode controller, the
configuration apply, and then each command. -/

namespace Sys2Proof.Machine

open Sys2Proof

namespace UnusedLaw

variable {s t : State}

/-- The law reads the groups and the active image alone. -/
theorem of_eq (h : UnusedLaw s) (hg : t.groups = s.groups) (ha : t.active = s.active) : UnusedLaw t := by
  intro g hu
  rw [grp_congr hg]
  exact h g (by rw [← used_congr ha]; exact hu)

/-- The law lets a group change its state when it is a used group, or to DARK. -/
theorem of_states (h : UnusedLaw s) (ha : t.active = s.active)
    (hg : ∀ g, (grp t g).state = (grp s g).state ∨ used s g = true ∨ (grp t g).state = .dark) : UnusedLaw t := by
  intro g hu
  rw [used_congr ha] at hu
  rcases hg g with hg | hg | hg
  · exact hg.trans (h g hu)
  · rw [hu] at hg
    cases hg
  · exact hg

/-- A group that is not DARK is a used group. -/
theorem used_of_ne_dark (h : UnusedLaw s) {g : GroupId} (hg : (grp s g).state ≠ .dark) : used s g = true := by
  cases hu : used s g with
  | true => rfl
  | false => exact absurd (h g hu) hg

/-! ### Signal group table -/

theorem modGroup (h : UnusedLaw s) (g : GroupId) {f : GroupRec → GroupRec} (hf : ∀ r, (f r).state = r.state) :
    UnusedLaw (Machine.modGroup g f s) := by
  refine h.of_states rfl fun i => .inl ?_
  rw [grp_modGroup]
  split
  · next hi => rw [hf, hi]
  · rfl

/-- A used group may enter any state, and any group DARK. -/
theorem enterState (h : UnusedLaw s) (g : GroupId) (st : GState) (hg : used s g = true ∨ st = .dark) :
    UnusedLaw (Machine.enterState g st s) := by
  refine h.of_states (enterState_active g st s) fun i => ?_
  rw [grp_enterState]
  split
  · next hi =>
    rcases hg with hg | hg
    · exact .inr (.inl (hi ▸ hg))
    · exact .inr (.inr (by simp [hg]))
  · exact .inl rfl

theorem enterClear (h : UnusedLaw s) (g : GroupId) (hu : used s g = true) :
    UnusedLaw (Machine.enterClear g s) := by
  refine UnusedLaw.enterState (h.modGroup g ?_) g .clear (.inl hu)
  exact fun _ => rfl

theorem enterRedMin (h : UnusedLaw s) (g : GroupId) (hu : used s g = true) :
    UnusedLaw (Machine.enterRedMin g s) := by
  refine UnusedLaw.enterState (h.modGroup g ?_) g .redMin (.inl hu)
  exact fun _ => rfl

theorem enterGreenMin (h : UnusedLaw s) (g : GroupId) (u : Time) (hu : used s g = true) :
    UnusedLaw (Machine.enterGreenMin g u s) := by
  refine UnusedLaw.enterState (h.modGroup g ?_) g .greenMin (.inl hu)
  exact fun _ => rfl

theorem forceDark (h : UnusedLaw s) (g : GroupId) : UnusedLaw (Machine.forceDark g s) := by
  unfold Machine.forceDark
  split
  · refine UnusedLaw.enterState (h.modGroup g ?_) g .dark (.inr rfl)
    exact fun _ => rfl
  · exact h

theorem forceRedMin (h : UnusedLaw s) (g : GroupId) : UnusedLaw (Machine.forceRedMin g s) := by
  unfold Machine.forceRedMin
  split
  · next hu =>
    refine UnusedLaw.enterState (h.modGroup g ?_) g .redMin (.inl hu)
    exact fun _ => rfl
  · exact h

theorem forceRed (h : UnusedLaw s) (g : GroupId) : UnusedLaw (Machine.forceRed g s) := by
  unfold Machine.forceRed
  split
  · next hu =>
    refine UnusedLaw.enterState (h.modGroup g ?_) g .red (.inl hu)
    exact fun _ => rfl
  · exact h

/-- The four blocks keep the law: they take only groups that are not DARK to another state. -/
theorem blocks : BlocksKeep UnusedLaw where
  work _ _ h := h.of_eq rfl rfl
  order _ _ h := h.of_eq rfl rfl
  raise n r s h := by
    rw [raise_frame]
    exact h.of_eq rfl rfl
  group g _ _ hf h := h.modGroup g hf
  enter g st s hd h := by
    refine h.of_states rfl fun i => ?_
    simp only [refreshLamps, grp_modLamps, grp_modGroup]
    split
    · next hi => exact .inr (.inl (hi ▸ h.used_of_ne_dark hd))
    · exact .inl rfl
  record _ _ _ _ h := h.of_eq rfl rfl
  finish _ _ _ _ _ _ _ h := h.of_eq rfl rfl
  post _ _ _ _ _ _ h := h.of_eq rfl rfl
  tram _ _ _ _ h := h.of_eq rfl rfl
  gone _ _ h := h.of_eq rfl rfl
  stats _ _ _ h := h.of_eq rfl rfl

/-! ### Junction mode controller -/

theorem refreshAllLamps (h : UnusedLaw s) : UnusedLaw (Machine.refreshAllLamps s) := by
  rw [refreshAllLamps_frame]
  exact h.of_eq rfl rfl

theorem enterMode (h : UnusedLaw s) (m : Mode) : UnusedLaw (Machine.enterMode m s) := by
  rw [enterMode_frame]
  exact h.of_eq rfl rfl

theorem enterStart (h : UnusedLaw s) : UnusedLaw (Machine.enterStart s) := by
  unfold Machine.enterStart
  refine blocks.emit _ (UnusedLaw.enterMode ?_ .start)
  exact h.of_eq rfl rfl

theorem forceAllDark (h : UnusedLaw s) : UnusedLaw (Machine.forceAllDark s) :=
  forEach_keeps UnusedLaw _ _ (fun g _ _ ht => ht.forceDark g) s h

theorem enterResting (h : UnusedLaw s) (m : Mode) : UnusedLaw (Machine.enterResting m s) := by
  unfold Machine.enterResting
  refine blocks.emit _ (UnusedLaw.forceAllDark (UnusedLaw.enterMode ?_ m))
  exact h.of_eq rfl rfl

theorem junctionTerminate (h : UnusedLaw s) (g : GroupId) : UnusedLaw (Machine.junctionTerminate g s) := by
  unfold Machine.junctionTerminate
  split
  · refine blocks.takeTerminate g (h.modGroup g ?_)
    exact fun _ => rfl
  · exact h

theorem enterClearing (h : UnusedLaw s) (target : ClearTarget) : UnusedLaw (Machine.enterClearing target s) := by
  unfold Machine.enterClearing
  refine blocks.handOn _ (forEach_keeps UnusedLaw _ _ (fun g _ _ ht => ht.junctionTerminate g) _ ?_)
  refine blocks.cancelAll .mode (UnusedLaw.enterMode ?_ .clearing)
  exact h.of_eq rfl rfl

theorem examineClearing (h : UnusedLaw s) : UnusedLaw (Machine.examineClearing s) := by
  unfold Machine.examineClearing
  split
  · exact h.enterResting _
  · exact h

theorem examineLost (h : UnusedLaw s) : UnusedLaw (Machine.examineLost s) := by
  unfold Machine.examineLost
  split
  · exact h.enterClearing .flash
  · exact h

theorem enterNormal (h : UnusedLaw s) : UnusedLaw (Machine.enterNormal s) := by
  unfold Machine.enterNormal
  refine blocks.handOn _ (forEach_keeps UnusedLaw _ _ (fun g _ _ ht => ht.forceRed g) _ ?_)
  refine UnusedLaw.enterMode ?_ .normal
  exact h.of_eq rfl rfl

theorem enterRedPhase (h : UnusedLaw s) : UnusedLaw (Machine.enterRedPhase s) := by
  unfold Machine.enterRedPhase
  refine UnusedLaw.refreshAllLamps (forEach_keeps UnusedLaw _ _ (fun g _ _ ht => ht.forceRedMin g) _ ?_)
  exact h.of_eq rfl rfl

theorem enterLockout (h : UnusedLaw s) (g : GroupId) (which : Circuit) :
    UnusedLaw (Machine.enterLockout g which s) := by
  unfold Machine.enterLockout
  split
  · exact h
  · refine blocks.handOn _ (UnusedLaw.refreshAllLamps (blocks.raiseAll _ (blocks.raiseAll _ ?_)))
    refine UnusedLaw.forceAllDark (blocks.cancelAll .mode ?_)
    exact h.of_eq rfl rfl

/-! ### Detectors and trams -/

theorem occupy (h : UnusedLaw s) (src : DemandSource) (g : GroupId) : UnusedLaw (Machine.occupy src g s) := by
  unfold Machine.occupy
  split
  · exact h.modGroup g fun _ => rfl
  · exact h

theorem takeFaultEntry (h : UnusedLaw s) (ch : ChannelId) (g : GroupId) :
    UnusedLaw (Machine.takeFaultEntry ch g s) := by
  unfold Machine.takeFaultEntry
  split
  · exact h.modGroup g fun _ => rfl
  · exact h

theorem takeFaultLeft (h : UnusedLaw s) (g : GroupId) : UnusedLaw (Machine.takeFaultLeft g s) :=
  h.modGroup g fun _ => rfl

theorem countUnmatched (h : UnusedLaw s) : UnusedLaw (Machine.countUnmatched s) := h.of_eq rfl rfl

theorem loopCheckOut (h : UnusedLaw s) (a : ApproachId) : UnusedLaw (Machine.loopCheckOut a s) := by
  unfold Machine.loopCheckOut
  split
  · exact h.countUnmatched
  · split
    · exact blocks.checkOut _ _ h
    · exact h

theorem handOccupancy (h : UnusedLaw s) (c : LoopCfg) (ch : ChannelId) (old new : ChState) :
    UnusedLaw (Machine.handOccupancy c ch old new s) := by
  unfold Machine.handOccupancy
  split
  · next g hg =>
    have h1 : UnusedLaw _ := iteInduction (c := new = .occupied ∧ old ≠ .occupied) (motive := UnusedLaw)
      (fun _ => h.occupy (.loop ch) g) (fun _ => h)
    have h2 : UnusedLaw _ := iteInduction (c := new = .fault ∧ old ≠ .fault) (motive := UnusedLaw)
      (fun _ => h1.takeFaultEntry ch g) (fun _ => h1)
    exact iteInduction (motive := UnusedLaw) (fun _ => h2.takeFaultLeft g) (fun _ => h2)
  · split
    · exact h.loopCheckOut _
    · exact h
  · exact h

theorem updateGapOf (h : UnusedLaw s) (fed : Option GroupId) : UnusedLaw (Machine.updateGapOf fed s) := by
  unfold Machine.updateGapOf
  split
  · exact blocks.updateGap _ h
  · exact h

theorem handChannel (h : UnusedLaw s) (c : LoopCfg) (ch : ChannelId) (old new : ChState) :
    UnusedLaw (Machine.handChannel c ch old new s) :=
  (h.handOccupancy c ch old new).updateGapOf _

theorem raiseDetector (h : UnusedLaw s) : UnusedLaw (Machine.raiseDetector s) := by
  unfold Machine.raiseDetector
  exact blocks.raiseFor _ _ h

theorem afterChannel (h : UnusedLaw s) (ch : ChannelId) (old : ChState) :
    UnusedLaw (Machine.afterChannel ch old s) := by
  unfold Machine.afterChannel
  have h1 : UnusedLaw _ := iteInduction (c := ((channel s ch).state = .fault) ≠ (old = .fault))
    (motive := UnusedLaw) (fun _ => h.raiseDetector) (fun _ => h)
  exact iteInduction (motive := UnusedLaw) (fun _ => h1) (fun _ => h1.handChannel _ ch old _)

theorem completeMeasurement (h : UnusedLaw s) (e : EngineId) (m : LoopCfg → Measured) :
    UnusedLaw (Machine.completeMeasurement e m s) := by
  unfold Machine.completeMeasurement
  split
  · exact h
  · refine UnusedLaw.afterChannel ?_ _ _
    exact h.of_eq rfl rfl

theorem expirePresence (h : UnusedLaw s) (ch : ChannelId) : UnusedLaw (Machine.expirePresence ch s) := by
  unfold Machine.expirePresence
  refine UnusedLaw.handChannel (UnusedLaw.raiseDetector ?_) _ ch _ _
  exact h.of_eq rfl rfl

theorem changeDebounced (h : UnusedLaw s) (i : InputId) : UnusedLaw (Machine.changeDebounced i s) := by
  have h1 : UnusedLaw (modInput i changeInput s) := h.of_eq rfl rfl
  unfold Machine.changeDebounced
  dsimp only
  split
  · exact h1.updateGapOf _
  · unfold handActivation
    split
    · exact blocks.updateGap _ (h1.occupy _ _)
    · exact h1.loopCheckOut _
    · exact h1

theorem takeCheckIn (h : UnusedLaw s) (c : CheckIn) : UnusedLaw (Machine.takeCheckIn c s).1 := by
  unfold Machine.takeCheckIn
  split
  · exact h
  · split
    · split
      · exact blocks.updateTram _ _ c _ h
      · exact h
    · split
      · refine blocks.evaluate _ _ ?_
        exact h.of_eq rfl rfl
      · exact h

theorem handMessage (h : UnusedLaw s) (a : ApproachId) (m : Message) : UnusedLaw (Machine.handMessage a m s) := by
  cases m with
  | checkIn c =>
    have h1 := h.takeCheckIn c
    show UnusedLaw (beaconCheckIn c s)
    unfold beaconCheckIn
    split
    · next hc => rw [hc] at h1; exact h1
    · next hc => rw [hc] at h1; exact h1.of_eq rfl rfl
    · next hc =>
      rw [hc] at h1
      refine blocks.raiseFor _ _ ?_
      exact h1.of_eq rfl rfl
  | checkOut number =>
    show UnusedLaw (beaconCheckOut number a s)
    unfold beaconCheckOut
    split
    · exact h.countUnmatched
    · split
      · exact blocks.checkOut _ _ h
      · exact h
  | cancel number =>
    show UnusedLaw (beaconCancel number a s)
    unfold beaconCancel
    split
    · exact h.countUnmatched
    · split
      · exact blocks.removeTram _ _ h
      · exact h
  | status => exact h

theorem modBeacon (h : UnusedLaw s) (f : BeaconRec → BeaconRec) : UnusedLaw (Machine.modBeacon f s) :=
  h.of_eq rfl rfl

theorem takeTelegram (h : UnusedLaw s) (telegram : List Byte) :
    UnusedLaw (Machine.takeTelegram telegram s) := by
  unfold Machine.takeTelegram
  split
  · split
    · refine UnusedLaw.handMessage ?_ _ _
      exact h.of_eq rfl rfl
    · exact h.of_eq rfl rfl
  · exact h.of_eq rfl rfl

theorem takeCompleted (h : UnusedLaw s) (b : Byte) : UnusedLaw (Machine.takeCompleted b s) := by
  have h1 : ∀ f, UnusedLaw { s with beacon := f } := fun _ => h.of_eq rfl rfl
  unfold Machine.takeCompleted
  dsimp only
  split
  · exact (h1 _).takeTelegram _
  · exact h1 _

/-! ### Configuration apply (R18) -/

/-- An apply brings each group into the states its new kind allows: a group that was DARK when the old image left it
UNUSED is DARK when the new one does. -/
theorem applyGroup_own (old : Image) (g : GroupId) (s : State)
    (h : usedIn old g = false → (grp s g).state = .dark) (hu : used s g = false) :
    (grp (applyGroup old g s) g).state = .dark := by
  unfold applyGroup
  rw [hu]
  cases ho : usedIn old g with
  | true => simp
  | false => exact h ho

theorem applyGroup_others (old : Image) (g i : GroupId) (s : State) (h : g ≠ i) :
    grp (applyGroup old g s) i = grp s i := by
  unfold applyGroup
  split
  · split
    · simp [h]
    · rfl
  · simp [h]
  · simp [h]
  · rfl

theorem applyGroup_active (old : Image) (g : GroupId) (s : State) : (applyGroup old g s).active = s.active := by
  unfold applyGroup
  split
  · split <;> rfl
  · exact enterState_active _ _ _
  · exact enterState_active _ _ _
  · rfl

/-- The signal group table's part of an apply, over all groups (R18). -/
theorem applyGroups (h : UnusedLaw s) (hg : t.groups = s.groups) :
    UnusedLaw (forEach allGroups (applyGroup (cfg s)) t) := by
  have hactive : (forEach allGroups (applyGroup (cfg s)) t).active = t.active :=
    forEach_frame State.active _ _ (fun g _ u => applyGroup_active _ g u) t
  intro g hu
  rw [used_congr hactive] at hu
  obtain ⟨u, hua, hug, hfu⟩ := grp_forEach_allGroups (I := fun u => u.active = t.active)
    (fun g u hu => (applyGroup_active _ g u).trans hu) (applyGroup_others (cfg s)) g t rfl
  rw [hfu]
  refine applyGroup_own (cfg s) g u (fun ho => ?_) (by rw [used_congr hua]; exact hu)
  rw [hug, grp_congr hg]
  exact h g ho

theorem applyEngine (h : UnusedLaw s) (old : Image) (e : EngineId) : UnusedLaw (Machine.applyEngine old e s) := by
  unfold Machine.applyEngine
  split
  · exact h.of_eq rfl rfl
  · split
    · exact h.of_eq rfl rfl
    · exact h

theorem applyLoops (h : UnusedLaw s) (old : Image) : UnusedLaw (Machine.applyLoops old s) := by
  unfold Machine.applyLoops
  refine forEach_keeps UnusedLaw _ _ (fun e _ _ hu => hu.applyEngine old e) _ ?_
  refine forEach_keeps UnusedLaw _ _ (fun ch _ _ hu => hu.handOccupancy _ ch _ _) _ ?_
  refine forEach_keeps UnusedLaw _ _ (fun ch _ u hu => ?_) s h
  exact hu.of_eq rfl rfl

theorem applyLampsAll (h : UnusedLaw s) : UnusedLaw (Machine.applyLampsAll s) := by
  unfold Machine.applyLampsAll
  refine UnusedLaw.refreshAllLamps (forEach_keeps UnusedLaw _ _ (fun g _ u hu => ?_) s h)
  exact hu.of_eq rfl rfl

theorem applyInputs (h : UnusedLaw s) (old : Image) : UnusedLaw (Machine.applyInputs old s) := by
  refine forEach_keeps UnusedLaw _ _ (fun i _ u hu => ?_) s h
  exact hu.of_eq rfl rfl

theorem applyGaps (h : UnusedLaw s) : UnusedLaw (Machine.applyGaps s) :=
  forEach_keeps UnusedLaw _ _ (fun g _ _ hu => blocks.updateGap g hu) s h

theorem applyBeacon (h : UnusedLaw s) (old : Image) : UnusedLaw (Machine.applyBeacon old s) := by
  unfold Machine.applyBeacon
  split
  · exact h
  · exact h.of_eq rfl rfl

theorem applyImage (h : UnusedLaw s) : UnusedLaw (Machine.applyImage s) := by
  unfold Machine.applyImage
  refine blocks.emit _ (blocks.applyTrams _ (UnusedLaw.applyBeacon (UnusedLaw.applyGaps
    (UnusedLaw.applyInputs (UnusedLaw.applyLoops (blocks.retestAll (UnusedLaw.applyLampsAll ?_)) _) _)) _))
  exact h.applyGroups rfl

theorem examineCommit (h : UnusedLaw s) : UnusedLaw (Machine.examineCommit s) := by
  unfold Machine.examineCommit
  split
  · exact h.applyImage
  · exact h

theorem settled (h : UnusedLaw s) : UnusedLaw (Machine.settled s) :=
  blocks.settled (fun _ h => h.examineCommit) (fun _ h => h.examineClearing) (fun _ h => h.examineLost) s h

/-! ### Requests -/

theorem takeRequest (h : UnusedLaw s) {owner : State → State × Reply}
    (howner : ∀ s, UnusedLaw s → UnusedLaw (owner s).1) (role : Role) (granted : Bool) (params : List Byte) :
    UnusedLaw (Machine.takeRequest role granted params owner s) :=
  takeRequest_keeps (fun _ _ _ h => h.of_eq rfl rfl) (fun _ _ h => h.of_eq rfl rfl) (fun _ h => h.settled)
    howner role granted params s h

theorem demandOwner (params : List Byte) (s : State) (h : UnusedLaw s) :
    UnusedLaw (Machine.demandOwner params s).1 := by
  unfold Machine.demandOwner
  split
  · exact h
  · refine forEach_keeps UnusedLaw _ _ (fun g _ _ hu => hu.modGroup g ?_) s h
    exact fun _ => rfl

theorem priorityInhibitOwner (params : List Byte) (s : State) (h : UnusedLaw s) :
    UnusedLaw (Machine.priorityInhibitOwner params s).1 := by
  unfold Machine.priorityInhibitOwner
  split
  · exact h
  · refine forEach_keeps UnusedLaw _ _ (fun g _ u hu => ?_) s h
    unfold writePriorityInhibit
    dsimp only
    split
    · exact blocks.emit _ (hu.modGroup g fun _ => rfl)
    · exact hu.modGroup g fun _ => rfl

theorem groupInhibitOwner (params : List Byte) (s : State) (h : UnusedLaw s) :
    UnusedLaw (Machine.groupInhibitOwner params s).1 := by
  unfold Machine.groupInhibitOwner
  split
  · exact h
  · refine forEach_keeps UnusedLaw _ _ (fun g _ u hu => ?_) s h
    unfold writeInhibit
    split
    · exact hu
    · exact blocks.handOn _ (hu.modGroup g fun _ => rfl)

theorem transitionOwner (role : Role) (params : List Byte) (s : State) (h : UnusedLaw s) :
    UnusedLaw (Machine.transitionOwner role params s).1 := by
  unfold Machine.transitionOwner acceptTransition refuse
  repeat' split
  all_goals exact h.of_eq rfl rfl

theorem cancelTransitionOwner (role : Role) (params : List Byte) (s : State) (h : UnusedLaw s) :
    UnusedLaw (Machine.cancelTransitionOwner role params s).1 := by
  unfold Machine.cancelTransitionOwner
  split
  · split
    · exact h
    · split
      · exact blocks.cancelRecord _ _ h
      · exact h
  · exact h

theorem wantNormal (s : State) (h : UnusedLaw s) : UnusedLaw (Machine.wantNormal s).1 := by
  unfold Machine.wantNormal
  split
  · split
    · exact h.enterStart
    · exact h
  · split
    · exact h.enterStart
    · exact h
  all_goals exact h

theorem wantResting (target : ClearTarget) (s : State) (h : UnusedLaw s) :
    UnusedLaw (Machine.wantResting target s).1 := by
  unfold Machine.wantResting
  split
  · exact h
  · exact h.of_eq rfl rfl
  · exact h.enterClearing target
  · exact h.enterResting _
  · split
    · exact h
    · exact h.enterResting _

theorem modeOwner (params : List Byte) (s : State) (h : UnusedLaw s) : UnusedLaw (Machine.modeOwner params s).1 := by
  unfold Machine.modeOwner
  split
  · split
    · exact wantNormal s h
    · exact wantResting .flash s h
    · exact wantResting .dark s h
    · exact h
  · exact h

theorem tramCheckInOwner (params : List Byte) (s : State) (h : UnusedLaw s) :
    UnusedLaw (Machine.tramCheckInOwner params s).1 := by
  unfold Machine.tramCheckInOwner
  split
  · exact h
  · exact h.takeCheckIn _

theorem onTram {act : EntryId → TramRec → State → State} (hact : ∀ k r s, UnusedLaw s → UnusedLaw (act k r s))
    (params : List Byte) (s : State) (h : UnusedLaw s) : UnusedLaw (Machine.onTram act params s).1 := by
  unfold Machine.onTram
  split
  · exact h
  · split
    · exact h
    · split
      · exact hact _ _ s h
      · exact h

theorem clearLampFaultsOwner (params : List Byte) (s : State) (h : UnusedLaw s) :
    UnusedLaw (Machine.clearLampFaultsOwner params s).1 := by
  unfold Machine.clearLampFaultsOwner
  split
  · exact h
  · refine forEach_keeps UnusedLaw _ _ (fun g _ u hu => ?_) s h
    have h1 : UnusedLaw (modLamps g clearLampTimes
        (Machine.modGroup g (fun r => { r with redLost := false, faults := noFaults }) u)) :=
      UnusedLaw.of_eq (hu.modGroup g (f := fun r => { r with redLost := false, faults := noFaults })
        fun _ => rfl) rfl rfl
    unfold clearFaults
    dsimp only
    split
    · exact blocks.emit _ h1
    · exact h1

/-! ### Resets -/

/-- After either reset every group is DARK (R19). -/
theorem afterReset (service carried : Bool) (straps : Straps) (level : Bool) (store : Store)
    (cause : Option LockoutCause) (pending : List Instr) (order : OpenOrders) :
    UnusedLaw (Machine.afterReset service carried straps level store cause pending order) := by
  intro g _
  simp only [Machine.afterReset, grp, look_tabulate, groupAfterReset]
  split <;> rfl

/-! ### Commands -/

/-- A next state that `exec` names meets the law when the state it is built as does. -/
theorem of_next (h : UnusedLaw s) (he : (.next s : Host.Outcome State Fault Refusal) = .next t) : UnusedLaw t := by
  cases he
  exact h

/-- A conditional event keeps the law when its effect does. -/
theorem event (h : UnusedLaw s) {c : Prop} [Decidable c] {u : State} (hu : c → UnusedLaw u) :
    UnusedLaw (if c then u else s) := iteInduction (motive := UnusedLaw) hu (fun _ => h)

theorem advanceTime (h : UnusedLaw s) : UnusedLaw (Machine.advanceTime s) := by
  refine h.of_states rfl fun g => .inl ?_
  simp [grp, Machine.advanceTime, ageGroup]

theorem changeFlashPhase (h : UnusedLaw s) : UnusedLaw (Machine.changeFlashPhase s) := by
  unfold Machine.changeFlashPhase
  refine forEach_keeps UnusedLaw _ _ (fun g _ u hu => ?_) _ ?_
  · exact hu.of_eq rfl rfl
  · exact h.of_eq rfl rfl

theorem dropOne (h : UnusedLaw s) (g : GroupId) (stamp : Stamp) : UnusedLaw (Machine.dropOne g stamp s) := by
  have h1 : UnusedLaw (Machine.modGroup g (fun r => dropStamp r stamp) s) :=
    h.modGroup g fun r => by cases stamp <;> rfl
  unfold Machine.dropOne
  exact iteInduction (motive := UnusedLaw) (fun _ => (blocks.takeTerminate g h1).settled) (fun _ => h1)

theorem leaveGreenMin (h : UnusedLaw s) (g : GroupId) (hu : used s g = true) :
    UnusedLaw (Machine.leaveGreenMin g s) := by
  unfold Machine.leaveGreenMin
  split
  · exact h.enterClear g hu
  · exact h.enterState g .green (.inl hu)

theorem beginPrepare (h : UnusedLaw s) (g : GroupId) (sch : Schedule) (hu : used s g = true) :
    UnusedLaw (Machine.beginPrepare g sch s) := by
  unfold Machine.beginPrepare
  split
  · exact h.enterGreenMin g sch.t hu
  · exact h.enterState g .prepare (.inl hu)

/-- S is reached by used groups alone (R11). -/
theorem used_of_reachedS {g : GroupId} {sch : Schedule} (h : reachedS s g = some sch) : used s g = true := by
  unfold reachedS at h
  split at h
  · next hc =>
    obtain ⟨hu, _⟩ := Bool.and_eq_true _ _ ▸ hc
    exact hu
  · cases h

/-- T is reached by used groups alone (R12). -/
theorem used_of_reachedT {g : GroupId} {sch : Schedule} (h : reachedT s g = some sch) : used s g = true := by
  unfold reachedT at h
  split at h
  · next hc =>
    obtain ⟨hu, _⟩ := Bool.and_eq_true _ _ ▸ hc
    exact hu
  · cases h

theorem nowReachesS (h : UnusedLaw s) (g : GroupId) (he : exec (.nowReachesS g) s = .next t) : UnusedLaw t := by
  refine of_next ?_ he
  split
  · next hr => exact (h.beginPrepare g _ (used_of_reachedS hr)).settled
  · exact h

theorem nowReachesT (h : UnusedLaw s) (g : GroupId) (he : exec (.nowReachesT g) s = .next t) : UnusedLaw t := by
  refine of_next ?_ he
  split
  · next hr => exact (h.enterGreenMin g _ (used_of_reachedT hr)).settled
  · exact h

theorem autostart (h : UnusedLaw s) : UnusedLaw (Machine.autostart s) := by
  have h1 : UnusedLaw { s with autostartDue := false } := h.of_eq rfl rfl
  unfold Machine.autostart
  exact iteInduction (motive := UnusedLaw) (fun _ => h1.enterStart.settled) (fun _ => h1)

theorem completePending (h : UnusedLaw s) (r : Role) (reply : Reply) :
    UnusedLaw (Machine.completePending r reply s) := by
  unfold Machine.completePending
  refine blocks.raise _ _ _ ?_
  exact h.of_eq rfl rfl

theorem passCheck (h : UnusedLaw s) : UnusedLaw (Machine.passCheck s) := by
  have h1 : UnusedLaw { s with lockoutCheck := none } := h.of_eq rfl rfl
  unfold Machine.passCheck
  exact ((h1.enterResting .flash).completePending _ _).settled

theorem sampleCheck (h : UnusedLaw s) (sense : BitVec 72) : UnusedLaw (Machine.sampleCheck sense s) := by
  have h1 : ∀ c, UnusedLaw { s with lockoutCheck := c } := fun _ => h.of_eq rfl rfl
  unfold Machine.sampleCheck
  split
  · exact h
  · split
    · exact h
    · split
      · exact (h1 none).completePending _ _
      · exact h1 _

theorem handOnMismatch (h : UnusedLaw s) (g : GroupId) (which : Circuit) :
    UnusedLaw (Machine.handOnMismatch g which s) := h.of_eq rfl rfl

theorem handOffMismatch (h : UnusedLaw s) (g : GroupId) (which : Circuit) :
    UnusedLaw (Machine.handOffMismatch g which s) := h.of_eq rfl rfl

theorem raiseLamp (h : UnusedLaw s) : UnusedLaw (Machine.raiseLamp s) := by
  unfold Machine.raiseLamp
  exact blocks.raiseFor _ _ h

theorem markLost (h : UnusedLaw s) (g : GroupId) : UnusedLaw (Machine.markLost g s) := by
  have h1 : UnusedLaw (Machine.modGroup g (fun r => { r with redLost := true }) s) := h.modGroup g fun _ => rfl
  unfold Machine.markLost
  exact iteInduction (motive := UnusedLaw) (fun _ => h)
    (fun _ => blocks.handOn _ (blocks.raiseAll _ h1.raiseLamp))

theorem latchLampOut (h : UnusedLaw s) (g : GroupId) (which : Circuit) :
    UnusedLaw (Machine.latchLampOut g which s) := by
  have h1 : UnusedLaw (Machine.modGroup g (fun r => { r with faults := withLampOut r.faults which }) s) :=
    h.modGroup g fun _ => rfl
  unfold Machine.latchLampOut
  exact iteInduction (motive := UnusedLaw) (fun _ => h) (fun _ => h1.raiseLamp)

theorem latchStuckOn (h : UnusedLaw s) (g : GroupId) (which : Circuit) :
    UnusedLaw (Machine.latchStuckOn g which s) := by
  have h1 : UnusedLaw (Machine.modGroup g (fun r => { r with faults := withStuckOn r.faults which }) s) :=
    h.modGroup g fun _ => rfl
  unfold Machine.latchStuckOn
  exact iteInduction (motive := UnusedLaw) (fun _ => h) (fun _ => h1.raiseLamp)

theorem byteComplete (h : UnusedLaw s) (he : exec .byteComplete s = .next t) : UnusedLaw t := by
  refine of_next ?_ he
  split
  · exact (h.takeCompleted _).settled
  · exact h

theorem endHold (h : UnusedLaw s) (k : EntryId) (r : TramRec) : UnusedLaw (Machine.endHold k r s) := by
  unfold Machine.endHold
  refine blocks.recomputeHold _ ?_
  exact h.of_eq rfl rfl

theorem holdTimerExpires (h : UnusedLaw s) (k : EntryId) (he : exec (.holdTimerExpires k) s = .next t) :
    UnusedLaw t := by
  refine of_next ?_ he
  split
  · exact (h.endHold k _).settled
  · exact h

theorem lostTimerExpires (h : UnusedLaw s) (k : EntryId) (he : exec (.lostTimerExpires k) s = .next t) :
    UnusedLaw t := by
  refine of_next ?_ he
  split
  · exact (blocks.loseTram k _ h).settled
  · exact h

theorem countError (h : UnusedLaw s) (r : Role) (f : LinkCounts → LinkCounts) :
    UnusedLaw (Machine.countError r f s) := h.of_eq rfl rfl

theorem setSeen (h : UnusedLaw s) (r : Role) : UnusedLaw (Machine.setSeen r s) := h.of_eq rfl rfl

theorem dropFrame (h : UnusedLaw s) (bytes : List Byte) : UnusedLaw (Machine.dropFrame bytes s) := by
  unfold Machine.dropFrame countFormat
  split
  · exact h
  · split
    · exact h
    · split
      · exact h
      · exact h.countError _ _
      · exact h.countError _ _
      · exact (h.setSeen _).countError _ _

theorem timedOutSeen (h : UnusedLaw s) (frame : TimedFrame) (r : Role) :
    UnusedLaw (Machine.timedOutSeen frame r s) := by
  unfold Machine.timedOutSeen
  split
  · exact h.setSeen r
  · exact h
  · exact h

theorem readReply (h : UnusedLaw s) (role : Role) (n : Nat) : UnusedLaw (Machine.readReply role n s) := by
  unfold Machine.readReply
  dsimp only
  repeat' split
  all_goals exact h.of_eq rfl rfl

theorem endStoreWrite (h : UnusedLaw s) (held : Store) : UnusedLaw (Machine.endStoreWrite held s) := by
  unfold Machine.endStoreWrite
  refine UnusedLaw.completePending ?_ _ _
  exact h.of_eq rfl rfl

/-- An owner that leaves the state as it is. -/
theorem takeRequest_of_read (h : UnusedLaw s) {owner : State → State × Reply} (ho : ∀ s, (owner s).1 = s)
    (role : Role) (granted : Bool) (params : List Byte) :
    UnusedLaw (Machine.takeRequest role granted params owner s) :=
  h.takeRequest (fun s hs => by rw [ho]; exact hs) role granted params

/-- An owner of a request without parameters that changes neither a group nor the active image. -/
theorem takeRequest_of_noParams (h : UnusedLaw s) {owner : State → State × Reply}
    (hg : ∀ s, (owner s).1.groups = s.groups) (ha : ∀ s, (owner s).1.active = s.active) (role : Role)
    (granted : Bool) (params : List Byte) :
    UnusedLaw (Machine.takeRequest role granted params (noParams params owner) s) :=
  h.takeRequest (fun _ hs => noParams_keeps (fun s hs => hs.of_eq (hg s) (ha s)) params _ hs) role granted params

theorem noticePollOwner_groups (role : Role) (s : State) : (noticePollOwner role s).1.groups = s.groups := by
  unfold noticePollOwner
  split <;> rfl

theorem noticePollOwner_active (role : Role) (s : State) : (noticePollOwner role s).1.active = s.active := by
  unfold noticePollOwner
  split <;> rfl

theorem discardReply_frame (r : Role) (s : State) :
    discardReply r s = { s with links := (discardReply r s).links } := by
  unfold discardReply
  split
  · split <;> rfl
  · rfl

/-- Every event keeps the law. -/
theorem exec (h : UnusedLaw s) (c : Instr) (he : Machine.exec c s = .next t) : UnusedLaw t := by
  cases c with
  | powerOnReset pins => exact of_next (afterReset _ _ _ _ _ _ _ _) he
  | autostart => exact of_next (h.event fun _ => h.autostart) he
  | junctionTimeAdvance => exact of_next h.advanceTime he
  | flashPhaseChange => exact of_next (h.event fun _ => h.changeFlashPhase) he
  | stampDrop g stamp => exact of_next (h.event fun _ => h.dropOne g stamp) he
  | minimumRedExpires g =>
    refine of_next (h.event fun hc => (h.enterState g _ (.inl ?_)).settled) he
    simp only [minimumRedDue, Bool.and_eq_true] at hc
    obtain ⟨⟨⟨hu, _⟩, _⟩, _⟩ := hc
    exact hu
  | nowReachesS g => exact h.nowReachesS g he
  | nowReachesT g => exact h.nowReachesT g he
  | minimumGreenExpires g =>
    refine of_next (h.event fun hc => (h.leaveGreenMin g ?_).settled) he
    simp only [minimumGreenDue, Bool.and_eq_true] at hc
    obtain ⟨⟨hu, _⟩, _⟩ := hc
    exact hu
  | nowReachesHoldUntil g => exact of_next (h.event fun _ => (blocks.takeTerminate g h).settled) he
  | clearTimeExpires g =>
    refine of_next (h.event fun hc => (h.enterRedMin g ?_).settled) he
    simp only [clearTimeDue, Bool.and_eq_true] at hc
    obtain ⟨⟨hu, _⟩, _⟩ := hc
    exact hu
  | startFlashExpires => exact of_next (h.event fun _ => h.enterRedPhase.settled) he
  | startRedExpires => exact of_next (h.event fun _ => h.enterNormal.settled) he
  | supervisionExpires => exact of_next (h.event fun _ => (h.enterClearing .flash).settled) he
  | lampSenseSample sense =>
    have h1 : UnusedLaw (forEach allGroups (sampleGroup sense) s) := by
      refine forEach_keeps UnusedLaw _ _ (fun g _ u hu => ?_) s h
      exact hu.of_eq rfl rfl
    exact of_next (h1.sampleCheck sense) he
  | unwantedProceed g =>
    exact of_next (h.event fun _ => ((h.handOffMismatch g .c).enterLockout g .c).settled) he
  | redLost g => exact of_next (h.event fun _ => ((h.handOnMismatch g .a).markLost g).settled) he
  | lampOut g which => exact of_next (h.event fun _ => (h.handOnMismatch g which).latchLampOut g which) he
  | stuckOn g which => exact of_next (h.event fun _ => (h.handOffMismatch g which).latchStuckOn g which) he
  | clearLockoutCheckPasses => exact of_next (h.event fun _ => h.passCheck) he
  | noOsc e => exact of_next (h.completeMeasurement e _).settled he
  | lowFreq e => exact of_next (h.completeMeasurement e _).settled he
  | measurementComplete e n => exact of_next (h.completeMeasurement e _).settled he
  | trackingMoment =>
    refine of_next (h.event fun _ => ?_) he
    refine forEach_keeps UnusedLaw _ _ (fun ch _ u hu => ?_) _ ?_
    · exact hu.of_eq rfl rfl
    · exact h.of_eq rfl rfl
  | presenceLimitExpires ch => exact of_next (h.event fun _ => (h.expirePresence ch).settled) he
  | inputSample pins =>
    refine of_next (forEach_keeps UnusedLaw _ _ (fun i _ u hu => ?_) s h) he
    exact hu.of_eq rfl rfl
  | debouncedStateChange i => exact of_next (h.event fun _ => (h.changeDebounced i).settled) he
  | gapValueSaturates g =>
    refine of_next (h.event fun _ => h.modGroup g ?_) he
    exact fun _ => rfl
  | framingError => exact of_next (h.event fun _ => h.modBeacon _) he
  | byteComplete => exact h.byteComplete he
  | gapTimerExpires => exact of_next (h.event fun _ => h.modBeacon _) he
  | lineBreak =>
    refine of_next (h.event fun _ => blocks.raiseFor _ _ ?_) he
    exact h.of_eq rfl rfl
  | brokenWaitComplete => exact of_next (h.event fun _ => h.modBeacon _) he
  | holdTimerExpires k => exact h.holdTimerExpires k he
  | lostTimerExpires k => exact h.lostTimerExpires k he
  | requestFrameDrop bytes close => exact of_next (h.dropFrame bytes) he
  | linkClockTimeout r frame => exact of_next ((h.timedOutSeen frame r).countError r _) he
  | replyRead r n => exact of_next (h.readReply r n) he
  | requestCodeUnknown r code =>
    refine of_next (iteInduction (motive := UnusedLaw) (fun _ => h) fun _ => ?_) he
    exact h.takeRequest_of_read (fun _ => rfl) r true []
  | readJunction r p => exact of_next (h.takeRequest_of_read (readJunctionOwner_fst p) r true p) he
  | readGroups r p => exact of_next (h.takeRequest_of_read (readGroupsOwner_fst p) r true p) he
  | readTransitions r p => exact of_next (h.takeRequest_of_read (readTransitionsOwner_fst p) r true p) he
  | readLoops r p => exact of_next (h.takeRequest_of_read (readLoopsOwner_fst p) r true p) he
  | readTrams r p => exact of_next (h.takeRequest_of_read (readTramsOwner_fst p) r true p) he
  | readCounts r p => exact of_next (h.takeRequest_of_read (readCountsOwner_fst p) r true p) he
  | noticePoll r p =>
    exact of_next
      (h.takeRequest_of_noParams (noticePollOwner_groups r) (noticePollOwner_active r) r true p) he
  | keepalive r p => exact of_next (h.takeRequest_of_noParams (fun _ => rfl) (fun _ => rfl) r (planOnly r) p) he
  | demand r p => exact of_next (h.takeRequest (demandOwner p) r (planOnly r) p) he
  | priorityInhibit r p => exact of_next (h.takeRequest (priorityInhibitOwner p) r (planOnly r) p) he
  | transition r p => exact of_next (h.takeRequest (transitionOwner r p) r (planOrCentral r) p) he
  | cancelTransition r p => exact of_next (h.takeRequest (cancelTransitionOwner r p) r (planOrCentral r) p) he
  | mode r p => exact of_next (h.takeRequest (modeOwner p) r (modeRoles r) p) he
  | groupInhibit r p => exact of_next (h.takeRequest (groupInhibitOwner p) r (centralOnly r) p) he
  | tramCheckIn r p => exact of_next (h.takeRequest (tramCheckInOwner p) r (tramnetOnly r) p) he
  | tramCheckOut r p =>
    exact of_next (h.takeRequest (onTram (fun k q _ h => blocks.checkOut k q h) p) r (tramnetOnly r) p) he
  | tramCancel r p =>
    exact of_next (h.takeRequest (onTram (fun k q _ h => blocks.removeTram k q h) p) r (tramnetOnly r) p) he
  | writeConfig r p =>
    refine of_next (h.takeRequest (fun u hu => ?_) r (serviceOnly r) p) he
    unfold writeConfigOwner
    split <;> exact hu.of_eq rfl rfl
  | commitConfig r p =>
    refine of_next (h.takeRequest (fun u hu => noParams_keeps (fun v hv => ?_) p u hu) r (serviceOnly r) p) he
    split <;> exact hv.of_eq rfl rfl
  | storeWriteEnd held => exact of_next (h.event fun _ => h.endStoreWrite _) he
  | discardStaging r p =>
    exact of_next (h.takeRequest_of_noParams (fun _ => rfl) (fun _ => rfl) r (serviceOnly r) p) he
  | readConfig r p => exact of_next (h.takeRequest_of_read (readConfigOwner_fst p) r (serviceOnly r) p) he
  | clearLockout r p =>
    refine of_next (h.takeRequest (fun u hu => noParams_keeps (fun v hv => ?_) p u hu) r (serviceOnly r) p) he
    split <;> exact hv.of_eq rfl rfl
  | clearLampFaults r p => exact of_next (h.takeRequest (clearLampFaultsOwner p) r (serviceOnly r) p) he
  | clearCounts r p =>
    refine of_next (h.takeRequest_of_noParams (fun u => ?_) (fun u => ?_) r (serviceOnly r) p) he
    · rw [discardReply_frame]
      rfl
    · rw [discardReply_frame]
      rfl
  | restart r p =>
    refine of_next (iteInduction (motive := UnusedLaw) (fun _ => afterReset _ _ _ _ _ _ _ _) fun _ => ?_) he
    exact h.takeRequest_of_read (fun _ => rfl) r (serviceOnly r) p
  | beaconLineSample level =>
    refine of_next ?_ he
    exact h.of_eq rfl rfl

end UnusedLaw

/-- Settles O57: a command is taken from the queue, and every command keeps the law. -/
theorem stepsKeepUnusedGroupsDark : Obligations.StepsKeepUnusedGroupsDark := by
  intro s t h hstep
  unfold step at hstep
  split at hstep
  · exact h.of_next hstep
  · refine UnusedLaw.exec ?_ _ hstep
    exact h.of_eq rfl rfl

end Sys2Proof.Machine
end

section
/-! PROOF. Junction time (R1, R8, R90, R125), stamps and gap clocks that are dropped at an age (R8, R116), and the
group records and laws of the device right after a reset (R19). -/

namespace Sys2Proof.Machine

open Sys2Proof

/-! ### Times held at their greatest age (R8) -/

theorem heldTime_of_young (now u : Time) (h : age now u ≤ 65535) : heldTime now u = u :=
  if_neg (Nat.not_lt.2 h)

theorem age_heldTime_of_old (now u : Time) (h : 65535 < age now u) : age now (heldTime now u) = 65535 := by
  rw [heldTime, if_pos h]
  simp only [age, plusDs]
  bv_omega

@[simp] theorem circuit_ageLamps (now : Time) (l : Lamps) (which : Circuit) :
    circuit (ageLamps now l) which = ageLamp now (circuit l which) := by
  cases which <;> rfl

/-- Settles O5: the four tables are aged record by record. -/
theorem junctionTimeAdvances : Obligations.JunctionTimeAdvances := by
  refine ⟨fun s => ⟨advanceTime s, rfl, rfl, fun g => ?_, fun ch => ?_, fun b => ?_, fun g which => ?_, rfl, rfl⟩,
    fun now u => ⟨heldTime_of_young now u, age_heldTime_of_old now u⟩⟩
  · show look (tabulate _) g = _
    rw [look_tabulate]
    rfl
  · simp [channel, advanceTime, ageChannel]
  · simp [advanceTime, ageBeacon]
  · simp [lamp, advanceTime, ageLamp]

/-! ### Stamps and gap clocks (R8, R116) -/

/-- Writing one group record changes that record alone. -/
theorem groupChanged_modGroup (g : GroupId) (f : GroupRec → GroupRec) (s : State) :
    GroupChanged g f s (modGroup g f s) where
  own := by simp
  others h hg := by simp [Ne.symm hg]
  rest := rfl

/-- A stamp that may be dropped and is due is dropped (R8). -/
theorem execStampDrop_of_due (g : GroupId) (stamp : Stamp) (s : State) (u : Time)
    (hd : droppable (grp s g) stamp = some u) (he : expired s.now u 65535 = true) :
    exec (.stampDrop g stamp) s = .next (dropOne g stamp s) := by
  have hdue : dropDue s g stamp = true := by simpa [dropDue, hd, stampDue] using he
  show Host.Outcome.next (if dropDue s g stamp then dropOne g stamp s else s) = _
  rw [if_pos hdue]

/-- With no pending terminate there is none to take effect (R14). -/
theorem takeTerminate_of_none (g : GroupId) (s : State) (h : (grp s g).pendingTerm = none) :
    takeTerminate g s = s := by
  simp [takeTerminate, terminateAllowed, h]

theorem dropOne_holdUntil (g : GroupId) (s : State) (h : (grp s g).pendingTerm = none) (hw : s.work = []) :
    dropOne g .holdUntil s = modGroup g (fun r => { r with holdUntil := none }) s := by
  have ht : takeTerminate g (modGroup g (fun r => { r with holdUntil := none }) s) =
      modGroup g (fun r => { r with holdUntil := none }) s := takeTerminate_of_none g _ (by simp [h])
  show settled (takeTerminate g (modGroup g (fun r => { r with holdUntil := none }) s)) = _
  rw [ht, settled_of_no_work]
  exact hw

/-- The drop of a green start is no event of a group in GREEN_MIN or GREEN (R8). -/
theorem execStampDrop_greenStart_of_green (g : GroupId) (s : State)
    (h : (grp s g).state = .greenMin ∨ (grp s g).state = .green) :
    exec (.stampDrop g .greenStart) s = .next s := by
  have hdue : dropDue s g .greenStart = false := by simp [dropDue, droppable, h]
  show Host.Outcome.next (if dropDue s g .greenStart then _ else s) = _
  simp [hdue]

/-- Settles O7, stamp by stamp. -/
theorem oldStampsAndGapsAreDropped : Obligations.OldStampsAndGapsAreDropped := by
  refine ⟨fun g s u hw he => ⟨fun h => ?_, fun h => ?_, fun h hp => ?_, fun h h1 h2 => ?_⟩,
    fun g s => ⟨execStampDrop_greenStart_of_green g s, fun since hg => ⟨fun he => ?_, fun he => ?_⟩⟩⟩
  · rw [execStampDrop_of_due g .greenEnd s u h he]
    exact ⟨_, rfl, groupChanged_modGroup g _ s⟩
  · rw [execStampDrop_of_due g .redEntry s u h he]
    exact ⟨_, rfl, groupChanged_modGroup g _ s⟩
  · rw [execStampDrop_of_due g .holdUntil s u h he, dropOne_holdUntil g s hp hw]
    exact ⟨_, rfl, groupChanged_modGroup g _ s⟩
  · rw [execStampDrop_of_due g .greenStart s u (by simp [droppable, h, h1, h2]) he]
    exact ⟨_, rfl, groupChanged_modGroup g _ s⟩
  · have hfull : gapFull s g = true := by simpa [gapFull, hg] using he
    refine ⟨modGroup g (fun r => { r with gap := .full }) s, ?_, groupChanged_modGroup g _ s, by simp [gapValue]⟩
    show Host.Outcome.next (if gapFull s g then _ else s) = _
    rw [if_pos hfull]
  · have hfull : gapFull s g = false := by simpa [gapFull, hg] using he
    show Host.Outcome.next (if gapFull s g then _ else s) = _
    simp [hfull]

/-! ### Resets (R19) -/

/-- The default image makes every group UNUSED (R165). -/
theorem kindIn_defaultImage (g : GroupId) : kindIn defaultImage g = .unused := by
  simp [kindIn, defaultImage, kindOfCode]

theorem used_of_no_image (s : State) (h : s.active = none) (g : GroupId) : used s g = false := by
  simp [used, usedIn, cfg, h, kindIn_defaultImage]

theorem freshGroup_groupAfterReset (img : Image) (g : GroupId) : FreshGroup 0#32 (groupAfterReset img g) := by
  unfold groupAfterReset
  split
  · exact ⟨rfl, rfl, rfl, rfl, rfl, rfl, rfl, rfl, rfl, rfl, by simp [gapValue, age], rfl, rfl, rfl, rfl⟩
  · exact ⟨rfl, rfl, rfl, rfl, rfl, rfl, rfl, rfl, rfl, rfl, rfl, rfl, rfl, rfl, rfl⟩

/-- Either reset leaves fresh groups under the image it loads (R19, R171). -/
theorem freshGroups_afterReset (service carried : Bool) (straps : Straps) (level : Bool) (store : Store)
    (cause : Option LockoutCause) (pending : List Instr) (order : OpenOrders) :
    FreshGroups (afterReset service carried straps level store cause pending order) where
  now := rfl
  records g := by
    show FreshGroup 0#32 (look (tabulate _) g)
    rw [look_tabulate]
    exact freshGroup_groupAfterReset _ g
  active := rfl
  unused h g := used_of_no_image _ h g

/-- Settles O2: both resets are one reset with different things kept. -/
theorem resetsLeaveEveryGroupFresh : Obligations.ResetsLeaveEveryGroupFresh := by
  refine ⟨fun pins s => ⟨_, rfl, freshGroups_afterReset _ _ _ _ _ _ _ _⟩, fun s hs => ?_⟩
  have haccept : restartAccepted .service [] s = true := by simpa [restartAccepted, serviceOnly] using hs
  refine ⟨serviceRestart s, ?_, freshGroups_afterReset _ _ _ _ _ _ _ _⟩
  show Host.Outcome.next (if restartAccepted .service [] s then _ else _) = _
  rw [if_pos haccept]

/-! ### The state right after reset -/

@[simp] theorem grp_reset (g : GroupId) : grp State.reset g = resetGroup := look_replicate _ g

@[simp] theorem slot_reset (k : SlotId) : slot State.reset k = none := look_replicate _ k

@[simp] theorem tram_reset (k : EntryId) : tram State.reset k = none := look_replicate _ k

theorem configLaw_reset : ConfigLaw State.reset where
  valid _ h := by cases h
  staged h := by cases h
  pending h := absurd rfl h
  checking h := by cases h
  single h := by cases h

/-- Every circuit is commanded OFF, as the table has it for an UNUSED group. -/
theorem lampLaw_reset : LampLaw State.reset := by
  intro g which
  have hl : lamp State.reset g = { a := resetLamp, b := resetLamp, c := resetLamp } := look_replicate _ g
  have hk : kind State.reset g = .unused := kindIn_defaultImage g
  rw [hl, hk]
  cases which <;> rfl

theorem tableLaws_reset : TableLaws State.reset where
  finish k := by
    have hf : State.reset.finishOrder = [] := rfl
    simp [hf]
  cards := by
    have : liveRecs State.reset = [] := by simp [liveRecs]
    simp [TableLaw, cardRecords, this]
  trams _ _ _ _ h := by simp at h
  notices r n h := by
    have hl : link State.reset r = resetLink := look_replicate _ _
    simp [hasNotice, hl, resetLink] at h
  channels ch := by
    have hc : channel State.reset ch = resetChannel .disabled := look_replicate _ _
    simp [hc, resetChannel]

theorem releaseLaws_reset : ReleaseLaws State.reset where
  apart i j _ := by simp [inProceed, resetGroup, proceedState]
  waits g h := by simp [resetGroup] at h
  schedules g h := by simp [resetGroup] at h
  resting _ _ g := .inl (by simp [resetGroup])
  claims g c h := by simp [resetGroup] at h
  ids _ _ _ _ h := by simp at h
  accepted _ _ h := by simp at h
  releases _ _ h := by simp at h
  active _ _ _ _ h := by simp at h

/-- Settles O54, law by law. -/
theorem resetMeetsTheLaws : Obligations.ResetMeetsTheLaws := by
  refine ⟨?_, configLaw_reset, lampLaw_reset, ?_, tableLaws_reset, releaseLaws_reset⟩
  · rintro (h | h | h) <;> cases h
  · intro g _
    simp [resetGroup]

end Sys2Proof.Machine
end

section
/-! SUPPORT. Settling the hand-offs of one state entry: the order of the neighbours, hand-offs that find nothing to do,
one that does, and the group record that an entry leaves. -/

namespace Sys2Proof.Machine

open Sys2Proof

/-! ### The order of the neighbours (R9) -/

/-- The members of a preference that a list has, each once. -/
theorem nodup_preferred {α : Type} [DecidableEq α] (all pref : List α) :
    ∀ acc : List α, acc.Nodup → (∀ a ∈ acc, a ∈ all) →
      (pref.foldl (fun acc a => if a ∈ all ∧ a ∉ acc then acc ++ [a] else acc) acc).Nodup ∧
        ∀ a ∈ pref.foldl (fun acc a => if a ∈ all ∧ a ∉ acc then acc ++ [a] else acc) acc, a ∈ all := by
  induction pref with
  | nil => exact fun acc h1 h2 => ⟨h1, h2⟩
  | cons b pref ih =>
    intro acc h1 h2
    rw [List.foldl_cons]
    split
    · next hb =>
      refine ih _ (List.nodup_append.2 ⟨h1, List.nodup_singleton b, ?_⟩) ?_
      · intro x hx y hy hxy
        rw [List.mem_singleton] at hy
        exact hb.2 (hy ▸ hxy ▸ hx)
      · intro x hx
        rcases List.mem_append.1 hx with hx | hx
        · exact h2 x hx
        · rw [List.mem_singleton] at hx
          exact hx ▸ hb.1
    · exact ih acc h1 h2

/-- Any preference gives an order of the whole list. -/
theorem orderBy_perm {α : Type} [DecidableEq α] (pref all : List α) (h : all.Nodup) :
    (orderBy pref all).Perm all := by
  obtain ⟨h1, h2⟩ := nodup_preferred all pref [] List.nodup_nil (fun _ h => absurd h List.not_mem_nil)
  unfold orderBy
  dsimp only
  generalize pref.foldl (fun acc a => if a ∈ all ∧ a ∉ acc then acc ++ [a] else acc) [] = first at h1 h2
  rw [List.perm_ext_iff_of_nodup _ h]
  · intro a
    simp only [List.mem_append, List.mem_filter, decide_eq_true_eq]
    constructor
    · rintro (ha | ha)
      · exact h2 a ha
      · exact ha.1
    · intro ha
      by_cases hf : a ∈ first
      · exact .inl hf
      · exact .inr ⟨ha, hf⟩
  · refine List.nodup_append.2 ⟨h1, h.filter _, fun x hx y hy hxy => ?_⟩
    have hny := (List.mem_filter.1 hy).2
    rw [decide_eq_true_eq] at hny
    exact hny (hxy ▸ hx)

/-- Each neighbour takes a hand-off once, in whatever order. -/
theorem neighbourOrder_perm (s : State) : (neighbourOrder s).Perm allNeighbours :=
  orderBy_perm _ _ (by decide)

/-- What is handed on, up to the free order. -/
theorem handedOn_perm (s : State) (f : Neighbour → Option Handoff) :
    ((neighbourOrder s).filterMap f).Perm (allNeighbours.filterMap f) := (neighbourOrder_perm s).filterMap f

theorem length_handedOn_le (s : State) (f : Neighbour → Option Handoff) :
    ((neighbourOrder s).filterMap f).length ≤ 5 :=
  (List.length_filterMap_le f _).trans_eq (neighbourOrder_perm s).length_eq

/-- A hand-off that is handed on is handed to some neighbour. -/
theorem exists_of_mem_handedOn {s : State} {f : Neighbour → Option Handoff} {x : Handoff}
    (h : x ∈ (neighbourOrder s).filterMap f) : ∃ n, f n = some x := by
  obtain ⟨n, _, hn⟩ := List.mem_filterMap.1 h
  exact ⟨n, hn⟩

/-! ### Hand-offs that find nothing to do -/

/-- The hand-off changes nothing in the state, whatever hand-offs stand behind it. -/
def Inert (s : State) (x : Handoff) : Prop := handle x { s with work := [] } = { s with work := [] }

/-- In a still state an idle hand-off is inert. -/
theorem Still.inert {s : State} (h : Still s) (x : Handoff) (hx : idle s x) : Inert s x := by
  have h' : Still { s with work := [] } := h.of_eq rfl rfl rfl
  exact h'.handle x (by cases x <;> exact hx)

/-- Inert hand-offs at the front are taken without effect. -/
theorem settle_inert (n : Nat) (pre post : List Handoff) : ∀ s : State, s.work = pre ++ post →
    (∀ x ∈ pre, Inert s x) → settle (n + pre.length) s = settle n { s with work := post } := by
  induction pre with
  | nil =>
    intro s hw _
    rw [List.nil_append] at hw
    rw [← hw]
    rfl
  | cons x pre ih =>
    intro s hw hi
    have hx : handle x { s with work := [] } = { s with work := [] } := hi x List.mem_cons_self
    rw [List.length_cons, ← Nat.add_assoc, settle_cons _ s x (pre ++ post) hw, hx]
    exact ih { s with work := pre ++ post } rfl (fun y hy => hi y (List.mem_cons_of_mem x hy))

/-- A command whose hand-offs are all inert ends as it stands. -/
theorem settled_inert (s : State) (hl : s.work.length ≤ settleFuel) (hi : ∀ x ∈ s.work, Inert s x) :
    settled s = { s with work := [] } := by
  obtain ⟨n, hn⟩ := Nat.exists_eq_add_of_le' hl
  unfold settled
  rw [hn, settle_inert n s.work [] s (by simp) hi]
  exact settle_of_no_work n _ rfl

/-- A command one of whose hand-offs acts, the others being inert before and after it. -/
theorem settled_of_one {s u : State} {a : Handoff} {rest : List Handoff} (hp : s.work.Perm (a :: rest))
    (hl : s.work.length + u.work.length ≤ settleFuel) (hu : handle a { s with work := [] } = u)
    (hbefore : ∀ x ∈ rest, Inert s x) (hafter : ∀ x ∈ rest, Inert u x) (hnew : ∀ x ∈ u.work, Inert u x) :
    settled s = { u with work := [] } := by
  obtain ⟨pre, post, hw⟩ := List.append_of_mem (hp.mem_iff.2 List.mem_cons_self)
  have hrest : (pre ++ post).Perm rest := by
    have : (a :: (pre ++ post)).Perm (a :: rest) := List.perm_middle.symm.trans (hw ▸ hp)
    exact this.cons_inv
  have hlen : s.work.length = pre.length + (post.length + 1) := by rw [hw]; simp
  obtain ⟨n, hn⟩ := Nat.exists_eq_add_of_le' hl
  have hfuel : settleFuel = (n + (u.work ++ post).length + 1) + pre.length := by
    rw [List.length_append]
    omega
  unfold settled
  rw [hfuel, settle_inert _ pre (a :: post) s hw fun x hx => hbefore x (hrest.mem_iff.1 (List.mem_append_left _ hx)),
    settle_cons _ { s with work := a :: post } a post rfl, show handle a { s with work := [] } = u from hu]
  rw [settle_inert n (u.work ++ post) [] _ (by simp), settle_of_no_work n _ rfl]
  intro x hx
  rcases List.mem_append.1 hx with hx | hx
  · exact hnew x hx
  · exact hafter x (hrest.mem_iff.1 (List.mem_append_right _ hx))

/-! ### The hand-offs of a state entry (R9) -/

/-- What a state entry hands on. -/
theorem enterState_work (g : GroupId) (st : GState) (s : State) (h : (grp s g).state ≠ st) :
    (enterState g st s).work = s.work ++ (neighbourOrder s).filterMap (entryHandoff s g st) := by
  rw [enterState_of_ne g st s h]
  rfl

/-- An entry hands on at most one thing to each neighbour. -/
theorem length_enterState_work_le (g : GroupId) (st : GState) (s : State) :
    (enterState g st s).work.length ≤ s.work.length + 5 := by
  by_cases h : (grp s g).state = st
  · rw [enterState, if_pos h]
    omega
  · rw [enterState_work g st s h, List.length_append]
    have := length_handedOn_le s (entryHandoff s g st)
    omega

/-- What a neighbour is handed (R9): the demand logic for CLEAR, the JMC for the red states in CLEARING, the TPE for
GREEN_MIN and CLEAR, the CFG while a commit waits (R65, R112, R140, R168). -/
theorem entryHandoff_eq_some {s : State} {g : GroupId} {st : GState} {n : Neighbour} {x : Handoff}
    (h : entryHandoff s g st n = some x) :
    (n = .arbiter ∧ x = .arbiterEntry g st) ∨
      (n = .tram ∧ x = .tramEntry g st ∧ (st = .greenMin ∨ st = .clear)) ∨
      (n = .config ∧ x = .configExamine ∧ s.commit = .waitingApply) ∨
      (n = .junction ∧ x = .clearingExamine ∧ s.mode = .clearing ∧ (st = .redMin ∨ st = .red)) ∨
      (n = .demand ∧ x = .clearDemand g ∧ st = .clear) := by
  cases n with
  | arbiter => exact .inl ⟨rfl, (Option.some.inj h).symm⟩
  | tram =>
    simp only [entryHandoff] at h
    split at h
    · next hc => exact .inr (.inl ⟨rfl, (Option.some.inj h).symm, hc.2⟩)
    · cases h
  | config =>
    simp only [entryHandoff] at h
    split at h
    · next hc => exact .inr (.inr (.inl ⟨rfl, (Option.some.inj h).symm, hc⟩))
    · cases h
  | junction =>
    simp only [entryHandoff] at h
    split at h
    · next hc => exact .inr (.inr (.inr (.inl ⟨rfl, (Option.some.inj h).symm, hc⟩)))
    · cases h
  | demand =>
    simp only [entryHandoff] at h
    split at h
    · next hc => exact .inr (.inr (.inr (.inr ⟨rfl, (Option.some.inj h).symm, hc⟩)))
    · cases h

/-- The hand-offs of an entry, whatever their order. -/
theorem mem_entryHandoffs {s : State} {g : GroupId} {st : GState} {x : Handoff}
    (h : x ∈ (neighbourOrder s).filterMap (entryHandoff s g st)) :
    x = .arbiterEntry g st ∨ (x = .tramEntry g st ∧ (st = .greenMin ∨ st = .clear)) ∨
      (x = .configExamine ∧ s.commit = .waitingApply) ∨
      (x = .clearingExamine ∧ s.mode = .clearing ∧ (st = .redMin ∨ st = .red)) ∨
      (x = .clearDemand g ∧ st = .clear) := by
  obtain ⟨n, hn⟩ := exists_of_mem_handedOn h
  rcases entryHandoff_eq_some hn with ⟨_, h⟩ | ⟨_, h⟩ | ⟨_, h⟩ | ⟨_, h⟩ | ⟨_, h⟩
  · exact .inl h
  · exact .inr (.inl h)
  · exact .inr (.inr (.inl h))
  · exact .inr (.inr (.inr (.inl h)))
  · exact .inr (.inr (.inr (.inr h)))

/-- The hand-offs of an entry but for the one to a neighbour. -/
def handoffsBut (n : Neighbour) (s : State) (g : GroupId) (st : GState) : List Handoff :=
  (allNeighbours.filter (· ≠ n)).filterMap (entryHandoff s g st)

/-- One neighbour's hand-off put first, up to the free order. -/
theorem entryHandoffs_perm (s : State) (g : GroupId) (st : GState) (n : Neighbour) (x : Handoff)
    (h : entryHandoff s g st n = some x) :
    ((neighbourOrder s).filterMap (entryHandoff s g st)).Perm (x :: handoffsBut n s g st) := by
  refine (handedOn_perm s _).trans ?_
  have hsplit : allNeighbours.Perm (n :: allNeighbours.filter (· ≠ n)) := by cases n <;> decide
  refine (hsplit.filterMap (entryHandoff s g st)).trans ?_
  rw [List.filterMap_cons_some h]
  exact List.Perm.refl _

/-- A hand-off to another neighbour. -/
theorem exists_of_mem_handoffsBut {n : Neighbour} {s : State} {g : GroupId} {st : GState} {x : Handoff}
    (h : x ∈ handoffsBut n s g st) : ∃ m, m ≠ n ∧ entryHandoff s g st m = some x := by
  obtain ⟨m, hm, hx⟩ := List.mem_filterMap.1 h
  exact ⟨m, by simpa using (List.mem_filter.1 hm).2, hx⟩

/-! ### One group record moved (R9, R74) -/

/-- A write that leaves every record as it is. -/
theorem modGroup_self (g : GroupId) (s : State) : modGroup g (fun r => r) s = s := by
  simp [modGroup]

/-- The lamps of a group after they took their commands from the table (R75). -/
@[simp] theorem circuit_lamp_refreshLamps (g h : GroupId) (which : Circuit) (s : State) :
    circuit (lamp (refreshLamps g s) h) which =
      if g = h then
        setCommand s.flash.on s.now (lampCommand (kind s g) (grp s g).state (showsPattern s) which)
          (circuit (lamp s g) which)
      else circuit (lamp s h) which := by
  simp only [refreshLamps, lamp_modLamps]
  split
  · cases which <;> rfl
  · rfl

theorem lamp_refreshLamps_of_ne (g h : GroupId) (s : State) (hg : g ≠ h) :
    lamp (refreshLamps g s) h = lamp s h := by
  simp [refreshLamps, hg]

/-- A write to the record followed by an entry to another state moves the record. -/
theorem groupMoved_enterState (g : GroupId) (st : GState) (f : GroupRec → GroupRec) (s : State)
    (hw : s.work = []) (hne : (f (grp s g)).state ≠ st) :
    GroupMoved g (fun r => { f r with state := st, enteredAt := s.now }) s
      { enterState g st (modGroup g f s) with work := [] } := by
  have hne' : (grp (modGroup g f s) g).state ≠ st := by simpa using hne
  rw [enterState_of_ne g st _ hne']
  generalize hu : modGroup g (fun r => { r with state := st, enteredAt := (modGroup g f s).now })
    (modGroup g f s) = u
  have hgrp : ∀ h, grp u h = if g = h then { f (grp s g) with state := st, enteredAt := s.now } else grp s h := by
    intro h
    rw [← hu]
    simp only [grp_modGroup, modGroup_now, if_true]
    split <;> rfl
  have hlamps : ∀ h, lamp (refreshLamps g u) h = lamp { handEntry g st (refreshLamps g u) with work := [] } h :=
    fun _ => rfl
  constructor
  · show grp u g = _
    rw [hgrp, if_pos rfl]
  · intro h hh
    show grp u h = _
    rw [hgrp, if_neg (Ne.symm hh)]
  · intro which
    rw [← hlamps, circuit_lamp_refreshLamps, if_pos rfl, hgrp, if_pos rfl, ← hu]
    rfl
  · intro h hh
    rw [← hlamps, lamp_refreshLamps_of_ne g h u (Ne.symm hh), ← hu]
    rfl
  · rw [← hu]
    rfl
  · rw [← hu, ← hw]
    rfl

/-- The same for an entry without a write before it. -/
theorem groupMoved_enterState_of_ne (g : GroupId) (st : GState) (s : State) (hw : s.work = [])
    (hne : (grp s g).state ≠ st) :
    GroupMoved g (fun r => { r with state := st, enteredAt := s.now }) s
      { enterState g st s with work := [] } := by
  have := groupMoved_enterState g st (fun r => r) s hw hne
  rwa [modGroup_self] at this

/-- The moved record is read at the record before the move alone. -/
theorem GroupMoved.congr {g : GroupId} {f f' : GroupRec → GroupRec} {s t : State} (h : GroupMoved g f s t)
    (hf : f (grp s g) = f' (grp s g)) : GroupMoved g f' s t where
  own := h.own.trans hf
  others := h.others
  ownLamps which := by rw [h.ownLamps which, hf]
  otherLamps := h.otherLamps
  order := h.order
  rest := h.rest

/-- A further write to the moved record, but for its state. -/
theorem GroupMoved.modGroup {g : GroupId} {f : GroupRec → GroupRec} {s t : State} (h : GroupMoved g f s t)
    (f' : GroupRec → GroupRec) (hf : ∀ r, (f' r).state = r.state) :
    GroupMoved g (fun r => f' (f r)) s (Machine.modGroup g f' t) where
  own := by simp [h.own]
  others i hi := by simp [Ne.symm hi, h.others i hi]
  ownLamps which := by
    rw [lamp_modGroup, h.ownLamps which, hf]
  otherLamps i hi := by rw [lamp_modGroup, h.otherLamps i hi]
  order := h.order
  rest := by
    show { t with groups := (Machine.modGroup g f' t).groups } = _
    rw [h.rest]
    rfl

/-! ### An entry in a quiet state -/

/-- In a still state an entry to another state than CLEAR that does not end CLEARING sets nothing further off. -/
theorem Still.settled_enterState {s : State} (h : Still s) (hw : s.work = []) (g : GroupId) (st : GState)
    (hst : st ≠ .clear)
    (hclear : s.mode = .clearing → (st = .redMin ∨ st = .red) → clearingDone (enterState g st s) = false) :
    settled (enterState g st s) = { enterState g st s with work := [] } := by
  have hwork := length_enterState_work_le g st s
  refine settled_inert _ (by rw [hw] at hwork; exact hwork.trans (by decide)) fun x hx => ?_
  have hs : Still (enterState g st s) := h.of_eq (by simp) (by simp) (by simp)
  by_cases hne : (grp s g).state = st
  · rw [enterState, if_pos hne, hw] at hx
    cases hx
  · rw [enterState_work g st s hne, hw, List.nil_append] at hx
    rcases mem_entryHandoffs hx with rfl | ⟨rfl, _⟩ | ⟨rfl, _⟩ | ⟨rfl, hm, hred⟩ | ⟨rfl, hc⟩
    · exact hs.inert _ trivial
    · exact hs.inert _ trivial
    · exact hs.inert _ trivial
    · exact hs.inert _ fun _ => hclear hm hred
    · exact absurd hc hst

/-- A group outside the red states keeps CLEARING from its end (R65). -/
theorem clearingDone_eq_false {s : State} {h : GroupId} (hu : used s h = true) (h1 : (grp s h).state ≠ .red)
    (h2 : (grp s h).state ≠ .redMin) : clearingDone s = false := by
  rw [Bool.eq_false_iff]
  intro hd
  have := List.all_eq_true.1 hd h (by simp [usedGroups, hu])
  simp [h1, h2] at this

/-- In a running junction no red entry of the group ends CLEARING (R65). -/
theorem clearingDone_of_running {g : GroupId} {s t : State} (h : Running g s) (hm : t.mode = s.mode)
    (ha : t.active = s.active) (hg : ∀ i, i ≠ g → grp t i = grp s i) (hc : t.mode = .clearing) :
    clearingDone t = false := by
  rcases h with h | ⟨_, i, hi, hu, h1, h2⟩
  · rw [hm, h] at hc
    cases hc
  · exact clearingDone_eq_false (h := i) (by rw [used_congr ha]; exact hu) (by rw [hg i hi]; exact h1)
      (by rw [hg i hi]; exact h2)

end Sys2Proof.Machine
end

section
/-! PROOF. The red and green timers of a group in a quiet junction: MINIMUM_GREEN_EXPIRES (R13) and CLEAR_TIME_EXPIRES
(R15), with the CLEAR entry and the demand it registers (R112). -/

namespace Sys2Proof.Machine

open Sys2Proof

/-! ### Entries with their stamps -/

/-- The demand record that a group keeps when it turns green: a permanent one (R12, R115). -/
theorem servedDemand_eq (d : Option Demand) : servedDemand d = if d.any (·.permanent) then d else none := by
  cases d with
  | none => rfl
  | some d => simp [servedDemand]

/-- A GREEN_MIN entry moves the record as R12 says. -/
theorem groupMoved_enterGreenMin (g : GroupId) (u : Time) (s : State) (hw : s.work = [])
    (hne : (grp s g).state ≠ .greenMin) :
    GroupMoved g (greenRecord s u) s { enterGreenMin g u s with work := [] } := by
  refine (groupMoved_enterState g .greenMin
    (fun r => { r with greenStart := some u, schedule := none, demand := servedDemand r.demand }) s hw hne).congr ?_
  simp only [greenRecord, servedDemand_eq]

/-- A RED_MIN entry after CLEAR moves the record as R15 says. -/
theorem groupMoved_enterRedMin (g : GroupId) (s : State) (hw : s.work = []) (hne : (grp s g).state ≠ .redMin) :
    GroupMoved g (fun r => { r with state := .redMin, enteredAt := s.now, redEntry := some s.now }) s
      { enterRedMin g s with work := [] } :=
  groupMoved_enterState g .redMin (fun r => { r with redEntry := some s.now }) s hw hne

/-- A still junction is still after a write to a group record. -/
theorem still_modGroup {s : State} (h : Still s) (g : GroupId) (f : GroupRec → GroupRec) :
    Still (modGroup g f s) := h.of_eq rfl rfl rfl

/-- The group as CLEAR entry leaves it before the demand logic takes the entry (R14, R15). -/
def endedRecord (now : Time) (r : GroupRec) : GroupRec :=
  { r with state := .clear, enteredAt := now, greenEnd := some now, pendingTerm := none, holdUntil := none }

theorem groupMoved_enterClear (g : GroupId) (s : State) (hw : s.work = []) (hne : (grp s g).state ≠ .clear) :
    GroupMoved g (endedRecord s.now) s { enterClear g s with work := [] } :=
  groupMoved_enterState g .clear
    (fun r => { r with greenEnd := some s.now, pendingTerm := none, holdUntil := none }) s hw hne

/-! ### The demand logic at a CLEAR entry (R112) -/

/-- The demand record as a CLEAR entry leaves it (R112). -/
def clearDemanded (s : State) (g : GroupId) (r : GroupRec) : GroupRec :=
  { r with
    demand :=
      match r.demand with
      | some d => some d
      | none => (occupyingSource s g).map (newDemand s) }

theorem clearedRecord_eq (s : State) (g : GroupId) (r : GroupRec) :
    clearedRecord s g r = clearDemanded s g (endedRecord s.now r) := rfl

theorem takeClearEntry_eq (g : GroupId) (s : State) (hu : used s g = true) :
    takeClearEntry g s = modGroup g (clearDemanded s g) s := by
  have hself : clearDemanded s g (grp s g) = grp s g → s = modGroup g (clearDemanded s g) s := by
    intro h
    have h' : clearDemanded s g (look s.groups g) = look s.groups g := h
    simp [modGroup, h']
  unfold takeClearEntry
  cases hd : (grp s g).demand with
  | some d =>
    simp only [hu, Option.isNone_some, Bool.and_false, Bool.false_eq_true, if_false]
    refine hself ?_
    simp only [clearDemanded, hd]
    rw [← hd]
  | none =>
    simp only [hu, Option.isNone_none, Bool.and_true, if_true]
    have hd' : (look s.groups g).demand = none := hd
    cases ho : occupyingSource s g with
    | some src => simp [modGroup, clearDemanded, hd', ho]
    | none =>
      refine hself ?_
      simp only [clearDemanded, hd, ho, Option.map_none]
      rw [← hd]

/-- What occupies a group is read from the channels, the inputs and the image. -/
theorem clearDemanded_congr {s t : State} (g : GroupId) (hc : t.channels = s.channels) (hi : t.inputs = s.inputs)
    (ha : t.active = s.active) (hn : t.now = s.now) : clearDemanded t g = clearDemanded s g := by
  have hch : ∀ ch, channelOccupies t g ch = channelOccupies s g ch := by
    intro ch
    simp only [channelOccupies, loopCfg, cfg_congr ha, channel_congr hc]
  have hin : ∀ i, inputOccupies t g i = inputOccupies s g i := by
    intro i
    simp only [inputOccupies, inputCfg, cfg_congr ha, inputRec_congr hi]
  have hsrc : occupyingSource t g = occupyingSource s g := by
    simp only [occupyingSource, funext hch, funext hin]
  funext r
  have hnew : newDemand t = newDemand s := by
    funext src
    simp only [newDemand, hn]
  simp only [clearDemanded, hsrc, hnew]

/-! ### A CLEAR entry in a quiet state -/

theorem enterClear_work (g : GroupId) (s : State) (hw : s.work = []) (hne : (grp s g).state ≠ .clear) :
    (enterClear g s).work.Perm (.clearDemand g :: handoffsBut .demand s g .clear) := by
  have hne' : (grp (modGroup g
      (fun r => { r with greenEnd := some s.now, pendingTerm := none, holdUntil := none }) s) g).state ≠ .clear := by
    simpa using hne
  have hwork : (enterClear g s).work = (neighbourOrder s).filterMap (entryHandoff s g .clear) := by
    rw [enterClear, enterState_work g .clear _ hne', modGroup_work, hw]
    rfl
  rw [hwork]
  exact entryHandoffs_perm s g .clear .demand _ (by simp [entryHandoff])

/-- In a still junction a CLEAR entry sets off the demand logic alone (R112). -/
theorem settled_enterClear_of_still {s : State} (h : Still s) (hw : s.work = []) (g : GroupId)
    (hu : used s g = true) (hne : (grp s g).state ≠ .clear) :
    GroupMoved g (clearedRecord s g) s (settled (enterClear g s)) := by
  have hs : Still (enterClear g s) := h.of_eq (by simp [enterClear]) (by simp [enterClear]) (by simp [enterClear])
  have hm := groupMoved_enterClear g s hw hne
  generalize hv : { enterClear g s with work := [] } = v at hm
  have hact : handle (.clearDemand g) v = modGroup g (clearDemanded s g) v := by
    have hrest := hm.rest
    show takeClearEntry g v = _
    rw [takeClearEntry_eq g v (by rw [used_congr (t := v) (s := s) (by rw [hrest])]; exact hu),
      clearDemanded_congr g (s := s) (by rw [hrest]) (by rw [hrest]) (by rw [hrest]) (by rw [hrest])]
  have hvs : Still v := by
    rw [← hv]
    exact hs.of_eq rfl rfl rfl
  have hidle : ∀ x ∈ handoffsBut .demand s g .clear, ∀ u, Still u → Inert u x := by
    intro x hx u hus
    obtain ⟨n, hn, hnx⟩ := exists_of_mem_handoffsBut hx
    rcases entryHandoff_eq_some hnx with ⟨_, rfl⟩ | ⟨_, rfl, _⟩ | ⟨_, rfl, _⟩ | ⟨_, rfl, _, hst⟩ | ⟨hd, _⟩
    · exact hus.inert _ trivial
    · exact hus.inert _ trivial
    · exact hus.inert _ trivial
    · rcases hst with hst | hst <;> cases hst
    · exact absurd hd hn
  have hwv : v.work = [] := by rw [← hv]
  have hlen : (enterClear g s).work.length ≤ settleFuel := by
    have := length_enterState_work_le g .clear
      (modGroup g (fun r => { r with greenEnd := some s.now, pendingTerm := none, holdUntil := none }) s)
    rw [modGroup_work, hw] at this
    exact this.trans (by decide)
  rw [settled_of_one (u := modGroup g (clearDemanded s g) v) (enterClear_work g s hw hne)
    (by rw [modGroup_work, hwv]; exact hlen) (hv ▸ hact)
    (fun x hx => hidle x hx _ hs) (fun x hx => hidle x hx _ (still_modGroup hvs g _))
    (fun x hx => by rw [modGroup_work, hwv] at hx; cases hx)]
  have hset : { modGroup g (clearDemanded s g) v with work := [] } = modGroup g (clearDemanded s g) v := by
    rw [← hv]
    rfl
  rw [hset]
  exact hm.modGroup (clearDemanded s g) fun _ => rfl

/-! ### The statements -/

/-- MINIMUM_GREEN_EXPIRES runs from the green start (R12, R13). -/
theorem minimumGreenDue_eq {g : GroupId} {s : State} {u : Time} (hu : used s g = true)
    (hst : (grp s g).state = .greenMin) (hg : (grp s g).greenStart = some u) :
    minimumGreenDue s g = expired s.now u (minGreenIn (cfg s) g) := by
  simp [minimumGreenDue, hu, hst, greenFrom, hg]

/-- Settles O11: the terminate decides between the two entries. -/
theorem minimumGreenEndsInGreenOrClear : Obligations.MinimumGreenEndsInGreenOrClear := by
  intro g s u hu hst hg
  have hdue := minimumGreenDue_eq hu hst hg
  have hexec : exec (.minimumGreenExpires g) s =
      .next (if minimumGreenDue s g then settled (leaveGreenMin g s) else s) := rfl
  refine ⟨fun hq he => ⟨fun hterm => ?_, fun hterm => ?_⟩, fun he => ?_⟩
  · refine ⟨settled (leaveGreenMin g s), by rw [hexec, hdue, if_pos he], ?_⟩
    rw [leaveGreenMin, hterm, if_neg Bool.false_ne_true,
      hq.still.settled_enterState hq.work g .green (by simp) (fun _ h => by simp at h)]
    exact groupMoved_enterState_of_ne g .green s hq.work (by simp [hst])
  · refine ⟨settled (leaveGreenMin g s), by rw [hexec, hdue, if_pos he], ?_⟩
    rw [leaveGreenMin, if_pos hterm]
    exact settled_enterClear_of_still hq.still hq.work g hu (by simp [hst])
  · rw [hexec, hdue, he, if_neg Bool.false_ne_true]

/-- CLEAR_TIME_EXPIRES on a group in CLEAR whose clear time has run (R15). -/
theorem execClearTimeExpires_of_due {g : GroupId} {s : State} (hu : used s g = true)
    (hst : (grp s g).state = .clear) (he : expired s.now (grp s g).enteredAt (clearTimeIn (cfg s) g) = true) :
    exec (.clearTimeExpires g) s = .next (settled (enterRedMin g s)) := by
  have hdue : clearTimeDue s g = true := by simp [clearTimeDue, hu, hst, he]
  show Host.Outcome.next (if clearTimeDue s g then _ else s) = _
  rw [if_pos hdue]

/-- Settles O13: no red entry of the group alone ends a CLEARING. -/
theorem clearTimeEndsInRedMin : Obligations.ClearTimeEndsInRedMin := by
  intro g s hq hrun hu hst he
  refine ⟨_, execClearTimeExpires_of_due hu hst he, ?_⟩
  have hq' : Still (modGroup g (fun r => { r with redEntry := some s.now }) s) := still_modGroup hq.still g _
  have hend : settled (enterRedMin g s) = { enterRedMin g s with work := [] } := by
    refine hq'.settled_enterState hq.work g .redMin (by simp) fun hm _ => ?_
    exact clearingDone_of_running hrun (by simp) (by simp) (fun i hi => by simp [Ne.symm hi]) (by simpa using hm)
  rw [hend]
  exact groupMoved_enterRedMin g s hq.work (by simp [hst])

end Sys2Proof.Machine
end

section
/-! SUPPORT. When R48 lets a group be scheduled, what the examination of scheduling leaves, the claims a finished record
gives up, and a table of trams with none in it. -/

namespace Sys2Proof.Machine

open Sys2Proof

/-! ### Passes that agree -/

/-- Two operations that agree on every state of an invariant agree over a list. -/
theorem forEach_congr {α : Type} {I : State → Prop} (l : List α) {f f' : α → State → State}
    (h : ∀ a ∈ l, ∀ s, I s → f a s = f' a s ∧ I (f' a s)) : ∀ s, I s → forEach l f s = forEach l f' s := by
  induction l with
  | nil => exact fun _ _ => rfl
  | cons a l ih =>
    intro s hs
    obtain ⟨heq, hI⟩ := h a List.mem_cons_self s hs
    rw [forEach_cons, forEach_cons, heq]
    exact ih (fun b hb => h b (List.mem_cons_of_mem a hb)) _ hI

/-- Writes to several group records, each once. -/
theorem forEach_modGroup (F : GroupId → GroupRec → GroupRec) (l : List GroupId) (hl : l.Nodup) :
    ∀ s, forEach l (fun g => modGroup g (F g)) s =
      { s with groups := tabulate fun h => if h ∈ l then F h (grp s h) else grp s h } := by
  induction l with
  | nil =>
    intro s
    have : (tabulate fun h => if h ∈ ([] : List GroupId) then F h (grp s h) else grp s h) = s.groups :=
      table_ext fun i => by simp [grp]
    rw [this]
    rfl
  | cons a l ih =>
    intro s
    obtain ⟨ha, hl'⟩ := List.nodup_cons.1 hl
    have hgroups : (tabulate fun h =>
        if h ∈ l then F h (grp (modGroup a (F a) s) h) else grp (modGroup a (F a) s) h) =
        tabulate fun h => if h ∈ a :: l then F h (grp s h) else grp s h := by
      refine table_ext fun i => ?_
      simp only [look_tabulate, grp_modGroup, List.mem_cons]
      by_cases hi : i = a
      · subst hi
        simp [ha]
      · simp [hi, Ne.symm hi]
    rw [forEach_cons, ih hl', hgroups]
    rfl

/-! ### The conditions of R48 -/

/-- An id serves an ACTIVE record (R36). -/
theorem activeSlotOf_isSome (s : State) (id : TransId) :
    (activeSlotOf s id).isSome = true ↔ ∃ k r, slot s k = some r ∧ r.state = .active ∧ r.id = id := by
  unfold activeSlotOf
  rw [List.find?_isSome]
  constructor
  · rintro ⟨k, _, hk⟩
    simp only [Option.any_eq_true, Bool.and_eq_true, beq_iff_eq] at hk
    obtain ⟨r, hr, h1, h2⟩ := hk
    exact ⟨k, r, hr, h1, h2⟩
  · rintro ⟨k, r, hr, h1, h2⟩
    exact ⟨k, List.mem_finRange k, by simp [hr, h1, h2]⟩

/-- R48 lets a group be scheduled: it awaits S and T under the claim of an ACTIVE record, and nothing keeps it. -/
theorem maySchedule_iff (s : State) (j : GroupId) :
    maySchedule s j = true ↔
      AwaitsSchedule j s ∧
        (∀ i, conflicts s i j = true → inProceed s i = false ∧ (grp s i).redLost = false) ∧
        (grp s j).inhibited = false := by
  simp only [maySchedule, Bool.and_eq_true, beq_iff_eq, Option.isNone_iff_eq_none, Option.any_eq_true,
    activeSlotOf_isSome, List.all_eq_true, mem_allGroups, forall_const, Bool.or_eq_true, Bool.not_eq_true']
  constructor
  · rintro ⟨⟨⟨⟨hst, hsch⟩, c, hc, hkind, k, r, hr, hact, hid⟩, hconf⟩, hinh⟩
    refine ⟨⟨hst, hsch, k, r, hr, hact, ?_⟩, fun i hi => ?_, hinh⟩
    · rw [hc, hid, ← hkind]
    · rcases hconf i with h | h
      · rw [hi] at h
        cases h
      · exact h
  · rintro ⟨⟨hst, hsch, k, r, hr, hact, hc⟩, hconf, hinh⟩
    refine ⟨⟨⟨⟨hst, hsch⟩, _, hc, rfl, k, r, hr, hact, rfl⟩, fun i => ?_⟩, hinh⟩
    cases hi : conflicts s i j with
    | false => exact .inl rfl
    | true => exact .inr (hconf i hi)

/-- A group that may be scheduled might have been before, where its own record stood the same, no ACTIVE record was
gone, no more groups proceeded and as many reds were lost. -/
theorem maySchedule_of_after {s t : State} {j : GroupId} (hj : grp t j = grp s j)
    (hslots : ∀ k r, slot t k = some r → r.state = .active →
      ∃ q, slot s k = some q ∧ q.state = .active ∧ q.id = r.id)
    (ha : t.active = s.active) (hproceed : ∀ i, inProceed s i = true → inProceed t i = true)
    (hlost : ∀ i, (grp t i).redLost = (grp s i).redLost) (h : maySchedule t j = true) :
    maySchedule s j = true := by
  rw [maySchedule_iff] at h ⊢
  obtain ⟨⟨hst, hsch, k, r, hr, hact, hc⟩, hconf, hinh⟩ := h
  rw [hj] at hst hsch hc hinh
  obtain ⟨q, hq, hqa, hqid⟩ := hslots k r hr hact
  refine ⟨⟨hst, hsch, k, q, hq, hqa, by rw [hqid]; exact hc⟩, fun i hi => ?_, hinh⟩
  obtain ⟨h1, h2⟩ := hconf i (by rw [conflicts_congr ha]; exact hi)
  refine ⟨?_, by rw [← hlost]; exact h2⟩
  cases hp : inProceed s i with
  | false => rfl
  | true => rw [hproceed i hp] at h1; exact h1

/-- The conditions of R48 are read from the group's own record, the slots, the image, and the states and RED_LOST
flags of all groups. -/
theorem maySchedule_congr {s t : State} {j : GroupId} (hj : grp t j = grp s j) (hslots : t.slots = s.slots)
    (ha : t.active = s.active) (hstate : ∀ i, (grp t i).state = (grp s i).state)
    (hlost : ∀ i, (grp t i).redLost = (grp s i).redLost) : maySchedule t j = maySchedule s j := by
  rw [Bool.eq_iff_iff]
  constructor
  · refine maySchedule_of_after hj (fun k r hr hact => ⟨r, by rw [← slot_congr hslots]; exact hr, hact, rfl⟩) ha
      (fun i hi => ?_) hlost
    simpa [inProceed, hstate] using hi
  · refine maySchedule_of_after hj.symm (fun k r hr hact => ⟨r, by rw [slot_congr hslots]; exact hr, hact, rfl⟩)
      ha.symm (fun i hi => ?_) fun i => (hlost i).symm
    simpa [inProceed, hstate] using hi

/-- The earliest green is read from the stamps of the red phase, the image and the time (R28). -/
theorem earliestGreen_congr {s t : State} (j : GroupId) (hn : t.now = s.now) (ha : t.active = s.active)
    (hred : (grp t j).redEntry = (grp s j).redEntry) (hend : ∀ i, (grp t i).greenEnd = (grp s i).greenEnd) :
    earliestGreen t j = earliestGreen s j := by
  have hterm : ∀ i, intergreenTerm t j i = intergreenTerm s j i := by
    intro i
    simp only [intergreenTerm, conflicts_congr ha, hend, cfg_congr ha]
  have hred' : minimumRedTerm t j = minimumRedTerm s j := by simp only [minimumRedTerm, hred, cfg_congr ha]
  simp only [earliestGreen, scheduledPrepare, scheduledGreen, greenTerms, hred', funext hterm, hn, cfg_congr ha]

/-! ### The examination of scheduling (R48) -/

/-- The record of a group once scheduling has been examined. -/
def examinedRecord (s : State) (j : GroupId) : GroupRec :=
  if maySchedule s j then { grp s j with schedule := some (earliestGreen s j) } else grp s j

theorem scheduleGroup_eq (j : GroupId) (s : State) :
    scheduleGroup j s = modGroup j (fun _ => examinedRecord s j) s := by
  unfold scheduleGroup examinedRecord
  split
  · rfl
  · simp [modGroup, grp]

/-- What R28 and R48 read of a group that another one conflicts with. -/
structure SameCourse (q r : GroupRec) : Prop where
  state : q.state = r.state
  lost : q.redLost = r.redLost
  ended : q.greenEnd = r.greenEnd

/-- Scheduling one group leaves what decides on another as it was. -/
theorem examinedRecord_scheduleGroup (s : State) (a j : GroupId) (h : a ≠ j) :
    examinedRecord (scheduleGroup a s) j = examinedRecord s j := by
  have hsame : ∀ i, SameCourse (grp (scheduleGroup a s) i) (grp s i) := by
    intro i
    rw [scheduleGroup_eq, grp_modGroup]
    split
    · next hi =>
      subst hi
      unfold examinedRecord
      split <;> exact ⟨rfl, rfl, rfl⟩
    · exact ⟨rfl, rfl, rfl⟩
  have hj : grp (scheduleGroup a s) j = grp s j := by rw [scheduleGroup_eq, grp_modGroup, if_neg h]
  have hframe : scheduleGroup a s = { s with groups := (scheduleGroup a s).groups } := by
    rw [scheduleGroup_eq]
    rfl
  unfold examinedRecord
  rw [maySchedule_congr hj (by rw [hframe]) (by rw [hframe]) (fun i => (hsame i).state) (fun i => (hsame i).lost),
    earliestGreen_congr j (by rw [hframe]) (by rw [hframe]) (by rw [hj]) (fun i => (hsame i).ended), hj]

/-- Scheduling is examined of every group as if it were the only one: S and T of one group decide on no other. -/
theorem examineScheduling_eq (s : State) :
    examineScheduling s = { s with groups := tabulate (examinedRecord s) } := by
  have hpass : ∀ l : List GroupId, l.Nodup → ∀ s, forEach l scheduleGroup s =
      forEach l (fun j => modGroup j fun _ => examinedRecord s j) s := by
    intro l hl
    induction l with
    | nil => exact fun _ => rfl
    | cons a l ih =>
      intro s
      obtain ⟨ha, hl'⟩ := List.nodup_cons.1 hl
      rw [forEach_cons, forEach_cons, ih hl', ← scheduleGroup_eq]
      refine forEach_congr (I := fun _ => True) l (fun j hj t _ => ⟨?_, trivial⟩) _ trivial
      rw [examinedRecord_scheduleGroup s a j fun h => ha (h ▸ hj)]
  rw [examineScheduling, hpass allGroups nodup_allGroups, forEach_modGroup _ _ nodup_allGroups]
  simp

/-- With no record QUEUED the arbiter examines scheduling alone (R44, R48). -/
theorem examineArbiter_of_no_queued (s : State) (hq : ∀ k r, slot s k = some r → r.state ≠ .queued)
    (hm : s.mode = .normal) : examineArbiter s = { s with groups := tabulate (examinedRecord s) } := by
  rw [examineArbiter, if_pos hm, activationPass_of_no_queued _ _ _ hq, examineScheduling_eq]

/-- With no record QUEUED and no group that R48 lets be scheduled, the arbiter's examination changes nothing. -/
theorem examineArbiter_of_none (s : State) (hq : ∀ k r, slot s k = some r → r.state ≠ .queued)
    (hm : ∀ j, maySchedule s j = false) : examineArbiter s = s := by
  unfold examineArbiter
  split
  · rw [activationPass_of_no_queued _ _ _ hq, examineScheduling_of_none _ hm]
  · rfl

/-! ### Claims that are withdrawn (R16) -/

theorem withdrawn_state (id : TransId) (r : GroupRec) : (withdrawn id r).state = r.state := by
  unfold withdrawn
  split <;> rfl

/-- Outside RED_WAIT a withdrawal writes the record alone. -/
theorem withdrawClaim_of_ne_redWait (id : TransId) (g : GroupId) (s : State) (h : (grp s g).state ≠ .redWait) :
    withdrawClaim id g s = modGroup g (withdrawn id) s := by
  have hrec : look s.groups g = grp s g := rfl
  unfold withdrawClaim
  cases hc : (grp s g).claim with
  | none => simp [modGroup, withdrawn, hrec, hc]; simp [← hrec]
  | some c =>
    by_cases hid : c.id = id
    · simp [h, modGroup, withdrawn, hrec, hc, hid]
    · simp [modGroup, withdrawn, hrec, hc, hid]; simp [← hrec]

/-- The claims of a record on several groups, none of them in RED_WAIT. -/
theorem forEach_withdrawClaim (id : TransId) (l : List GroupId) (hl : l.Nodup) (s : State)
    (h : ∀ g ∈ l, (grp s g).state ≠ .redWait) :
    forEach l (withdrawClaim id) s =
      { s with groups := tabulate fun g => if g ∈ l then withdrawn id (grp s g) else grp s g } := by
  rw [← forEach_modGroup (fun _ => withdrawn id) l hl s]
  refine forEach_congr (I := fun t => ∀ g ∈ l, (grp t g).state ≠ .redWait) l (fun g hg t ht => ?_) s h
  refine ⟨withdrawClaim_of_ne_redWait id g t (ht g hg), fun i hi => ?_⟩
  rw [grp_modGroup]
  split
  · rw [withdrawn_state]
    exact ht g hg
  · exact ht i hi

/-! ### No tram in the list -/

theorem tramOrder_of_no_trams (s : State) (h : ∀ k, tram s k = none) (p : TramRec → Bool) : tramOrder p s = [] := by
  have : (allEntries.filter fun k => (tram s k).any p) = [] := by
    rw [List.filter_eq_nil_iff]
    intro k _
    simp [h k]
  simp [tramOrder, this]

theorem tramEntry_of_no_trams (s : State) (h : ∀ k, tram s k = none) (g : GroupId) (st : GState) :
    tramEntry g st s = s := by
  have h1 : forEach allEntries (dropAtGreen g) s = s := forEach_id _ _ _ fun k _ => by simp [dropAtGreen, h k]
  have h2 : forEach allEntries (dropHold g) s = s := forEach_id _ _ _ fun k _ => by simp [dropHold, h k]
  unfold tramEntry
  split
  · simp [h1, evaluateWhere, tramOrder_of_no_trams s h, emitAll]
  · simp [h2, evaluateWhere, tramOrder_of_no_trams s h, emitAll]
  · rfl

theorem takeSlotFree_of_no_trams (s : State) (h : ∀ k, tram s k = none) : takeSlotFree s = s := by
  simp [takeSlotFree, tramOrder_of_no_trams s h]

/-! ### Notices of a role (R159) -/

theorem link_raise (n : Notice) (r r' : Role) (s : State) :
    link (raise n r s) r' = noticedLink n (decide (r = r')) (link s r') := by
  unfold raise noticedLink
  by_cases hr : r = r'
  · subst hr
    cases hs : (link s r).seen <;> simp [hs]
  · split <;> simp [hr]

/-- The origin of a record has its notice, and nobody else (R51, R54). -/
theorem link_noticeOrigin (r : TransRec) (role : Role) (s : State) :
    link (noticeOrigin r s) role = noticedLink .transition (decide (r.origin = .role role)) (link s role) := by
  unfold noticeOrigin
  split
  · next origin ho => simp [link_raise, ho]
  · next ho => simp [ho, noticedLink]

theorem noticeOrigin_frame (r : TransRec) (s : State) :
    noticeOrigin r s = { s with links := (noticeOrigin r s).links } := by
  unfold noticeOrigin
  split
  · exact raise_frame _ _ s
  · rfl

end Sys2Proof.Machine
end

section
/-! PROOF. The way of a claimed group to green in a junction at rest: MINIMUM_RED_EXPIRES (R10), NOW_REACHES_S (R11) and
NOW_REACHES_T (R12), with the item REACHED or the record DONE (R34, R51). -/

namespace Sys2Proof.Machine

open Sys2Proof

/-! ### Items and their record -/

@[simp] theorem itemOf_setOutcome (g h : GroupId) (o : ItemOutcome) (r : TransRec) :
    itemOf (setOutcome g o r) h =
      if g = h then (itemOf r g).map fun it => { it with outcome := o } else itemOf r h := by
  simp [itemOf, setOutcome]

@[simp] theorem named_setOutcome (g h : GroupId) (o : ItemOutcome) (r : TransRec) :
    named (setOutcome g o r) h = named r h := by
  unfold named
  rw [itemOf_setOutcome]
  split
  · next hg => subst hg; simp
  · rfl

/-- A record waits for an item (R51). -/
theorem hasWaiting_iff (r : TransRec) :
    hasWaiting r = true ↔ ∃ h it, itemOf r h = some it ∧ it.outcome = .waiting := by
  simp [hasWaiting, Option.any_eq_true]

/-- With a group's item REACHED the record waits for another one or for none (R51). -/
theorem hasWaiting_reached (g : GroupId) (r : TransRec) :
    hasWaiting (setOutcome g .reached r) = true ↔ OthersWait r g := by
  rw [hasWaiting_iff]
  constructor
  · rintro ⟨h, it, hit, hw⟩
    rw [itemOf_setOutcome] at hit
    split at hit
    · obtain ⟨it', _, rfl⟩ := Option.map_eq_some_iff.1 hit
      cases hw
    · next hg => exact ⟨h, it, Ne.symm hg, hit, hw⟩
  · rintro ⟨h, it, hg, hit, hw⟩
    exact ⟨h, it, by rw [itemOf_setOutcome, if_neg (Ne.symm hg)]; exact hit, hw⟩

/-- An ACTIVE record none of whose groups is in RED_WAIT finishes: its claims go, and nothing else of any group
(R35, R51, R52). -/
theorem finishRecord_of_active {k : SlotId} {r : TransRec} {s : State} (hs : slot s k = some r)
    (ha : r.state = .active) (h : ∀ g, named r g = true → (grp s g).state ≠ .redWait) (st : TState)
    (cause : EndCause) :
    finishRecord k st cause s =
      { s with
        slots := put s.slots k (some { r with state := st, finishedAt := some s.now, endCause := some cause })
        finishOrder := s.finishOrder.filter (· != k) ++ [k]
        acceptOrder := s.acceptOrder.filter (· != k)
        groups := tabulate fun g => if named r g then withdrawn r.id (grp s g) else grp s g
        work := s.work ++ [.arbiterExamine, .slotFree] } := by
  have hmem : ∀ g, (g ∈ allGroups.filter (named r)) ↔ named r g = true := fun g => by simp
  have hpass := forEach_withdrawClaim r.id (allGroups.filter (named r)) (nodup_allGroups.filter _)
    { s with
      slots := put s.slots k (some { r with state := st, finishedAt := some s.now, endCause := some cause })
      finishOrder := s.finishOrder.filter (· != k) ++ [k]
      acceptOrder := s.acceptOrder.filter (· != k) }
    fun g hg => h g ((hmem g).1 hg)
  simp only [hmem] at hpass
  unfold finishRecord
  rw [hs]
  dsimp only
  rw [if_pos ha, hpass]
  rfl

/-- An ACTIVE record with no WAITING item becomes DONE, and its origin has a notice (R51). -/
theorem completeIfDone_of_done {k : SlotId} {r : TransRec} {s : State} (hs : slot s k = some r)
    (ha : r.state = .active) (hw : hasWaiting r = false) :
    completeIfDone k s = noticeOrigin r (finishRecord k .done .completed s) := by
  unfold completeIfDone
  rw [hs]
  exact if_pos ⟨ha, hw⟩

/-! ### Rest after a move -/

/-- No group may be scheduled after one has moved out of RED_WAIT without leaving proceed (R48). -/
theorem maySchedule_of_moved {g : GroupId} {f : GroupRec → GroupRec} {s t : State} (h : GroupMoved g f s t)
    (hs : ∀ j, maySchedule s j = false) (hst : (f (grp s g)).state ≠ .redWait)
    (hp : inProceed s g = true → proceedState (f (grp s g)).state = true)
    (hl : (f (grp s g)).redLost = (grp s g).redLost) (j : GroupId) : maySchedule t j = false := by
  have hrest := h.rest
  rw [Bool.eq_false_iff]
  intro hm
  by_cases hj : j = g
  · rw [maySchedule_iff, hj] at hm
    exact hst (by rw [← h.own]; exact hm.1.state)
  · refine absurd (maySchedule_of_after (h.others j hj)
      (fun k r hr hact => ⟨r, by rw [← slot_congr (s := s) (t := t) (by rw [hrest])]; exact hr, hact, rfl⟩)
      (by rw [hrest]) (fun i hi => ?_) (fun i => ?_) hm) (by rw [hs j]; exact Bool.false_ne_true)
    · by_cases hig : i = g
      · subst hig
        rw [inProceed, h.own]
        exact hp hi
      · rw [inProceed, h.others i hig]
        exact hi
    · by_cases hig : i = g
      · subst hig
        rw [h.own, hl]
      · rw [h.others i hig]

/-- Settling an entry to RED_WAIT, PREPARE or GREEN_MIN, at which the arbiter alone acts: the other neighbours take it
without effect where no commit waits, and no tram is there to take a green (R9, R140). -/
theorem settled_enterState_at_arbiter {g : GroupId} {st : GState} {s u : State} (hw : s.work = [])
    (hc : s.commit ≠ .waitingApply) (hne : (grp s g).state ≠ st)
    (hst : st = .redWait ∨ st = .prepare ∨ st = .greenMin) (htrams : st = .greenMin → ∀ k, tram s k = none)
    (hu : arbiterEntry g st { enterState g st s with work := [] } = u) (hut : u.trams = s.trams)
    (hlen : u.work.length ≤ 2) (hnew : ∀ x ∈ u.work, Inert u x) :
    settled (enterState g st s) = { u with work := [] } := by
  have hlen0 : (enterState g st s).work.length ≤ 5 := by
    have := length_enterState_work_le g st s
    rwa [hw] at this
  have hothers : ∀ x ∈ handoffsBut .arbiter s g st, ∀ t : State, t.trams = s.trams → Inert t x := by
    intro x hx t ht
    obtain ⟨n, hn, hnx⟩ := exists_of_mem_handoffsBut hx
    rcases entryHandoff_eq_some hnx with ⟨ha, _⟩ | ⟨_, rfl, hgreen⟩ | ⟨_, _, hwait⟩ | ⟨_, _, _, hred⟩ | ⟨_, _, hcl⟩
    · exact absurd ha hn
    · rcases hgreen with hgreen | hcl
      · have hnone : ∀ k, tram { t with work := [] } k = none := fun k => (tram_congr ht k).trans (htrams hgreen k)
        exact tramEntry_of_no_trams { t with work := [] } hnone g st
      · rcases hst with rfl | rfl | rfl <;> cases hcl
    · exact absurd hwait hc
    · rcases hst with rfl | rfl | rfl <;> rcases hred with hred | hred <;> cases hred
    · rcases hst with rfl | rfl | rfl <;> cases hcl
  refine settled_of_one (a := .arbiterEntry g st) (u := u) (rest := handoffsBut .arbiter s g st) ?_ ?_ hu
    (fun x hx => hothers x hx _ (enterState_trams g st s)) (fun x hx => hothers x hx u hut) hnew
  · rw [enterState_work g st s hne, hw]
    exact entryHandoffs_perm s g st .arbiter _ rfl
  · exact (Nat.add_le_add hlen0 hlen).trans (by decide)

/-! ### MINIMUM_RED_EXPIRES -/

/-- The event runs in NORMAL and CLEARING (R10, R15, R17). -/
theorem execMinimumRedExpires_of_due {g : GroupId} {s : State} (hu : used s g = true)
    (hst : (grp s g).state = .redMin) (hm : s.mode = .normal ∨ s.mode = .clearing)
    (he : expired s.now (grp s g).enteredAt (minRedIn (cfg s) g) = true) :
    exec (.minimumRedExpires g) s = .next (settled (leaveRedMin g s)) := by
  have hruns : redTimerRuns s.mode = true := by rcases hm with hm | hm <;> simp [redTimerRuns, hm]
  have hdue : minimumRedDue s g = true := by simp [minimumRedDue, hu, hruns, hst, he]
  show Host.Outcome.next (if minimumRedDue s g then _ else s) = _
  rw [if_pos hdue]

theorem minimumRed_quiet {g : GroupId} {s : State} (hst : (grp s g).state = .redMin) (hq : Quiet s)
    (hrun : Running g s) :
    GroupMoved g
      (fun r => { r with state := if claimedForRelease s g then .redWait else .red, enteredAt := s.now }) s
      (settled (leaveRedMin g s)) := by
  rw [leaveRedMin, hq.still.settled_enterState hq.work g _ (by split <;> simp) fun hm _ => ?_]
  · refine groupMoved_enterState_of_ne g _ s hq.work ?_
    rw [hst]
    split <;> simp
  · exact clearingDone_of_running hrun (by simp) (by simp) (fun i hi => by simp [Ne.symm hi]) (by simpa using hm)

/-- A group that enters RED_WAIT under an ACTIVE record's claim is scheduled when nothing keeps it (R48). -/
theorem maySchedule_redWait_iff {k : SlotId} {r : TransRec} {g : GroupId} {s t : State}
    (hm : GroupMoved g (fun r => { r with state := .redWait, enteredAt := s.now }) s t)
    (hcar : Carries k r g .release s) (hsch : (grp s g).schedule = none) :
    maySchedule t g = true ↔ FreeBut g g s := by
  have hrest := hm.rest
  have hslots : t.slots = s.slots := by rw [hrest]
  have hact : t.active = s.active := by rw [hrest]
  have hlost : ∀ i, (grp t i).redLost = (grp s i).redLost := by
    intro i
    by_cases hi : i = g
    · rw [hi, hm.own]
    · rw [hm.others i hi]
  rw [maySchedule_iff]
  constructor
  · rintro ⟨_, hconf, hinh⟩
    rw [hm.own] at hinh
    refine ⟨fun i hi hc => ?_, fun i hc => ?_, hinh⟩
    · have := (hconf i (by rw [conflicts_congr hact]; exact hc)).1
      rwa [inProceed, hm.others i hi] at this
    · have := (hconf i (by rw [conflicts_congr hact]; exact hc)).2
      rwa [hlost] at this
  · rintro ⟨hproceed, hl, hinh⟩
    refine ⟨⟨by rw [hm.own], by rw [hm.own]; exact hsch, k, r, ?_, hcar.active, by rw [hm.own]; exact hcar.claim⟩,
      fun i hc => ?_, by rw [hm.own]; exact hinh⟩
    · rw [slot_congr hslots]
      exact hcar.slot
    · rw [conflicts_congr hact] at hc
      refine ⟨?_, by rw [hlost]; exact hl i hc⟩
      by_cases hi : i = g
      · rw [hi, inProceed, hm.own]
        rfl
      · rw [inProceed, hm.others i hi]
        exact hproceed i hi hc

/-- The arbiter examines every group, and the one that entered RED_WAIT is the only one it may schedule (R48). -/
theorem minimumRed_claimed {k : SlotId} {r : TransRec} {g : GroupId} {s : State} (hs : Steady s)
    (hn : s.mode = .normal) (hst : (grp s g).state = .redMin) (hsch : (grp s g).schedule = none)
    (hcar : Carries k r g .release s) :
    (FreeBut g g s →
      GroupMoved g
        (fun r => { r with state := .redWait, enteredAt := s.now, schedule := some (earliestGreen s g) }) s
        (settled (leaveRedMin g s))) ∧
    (¬ FreeBut g g s →
      GroupMoved g (fun r => { r with state := .redWait, enteredAt := s.now }) s (settled (leaveRedMin g s))) := by
  have hclaimed : claimedForRelease s g = true := by simp [claimedForRelease, hcar.claim]
  have hmoved := groupMoved_enterState_of_ne g .redWait s hs.work (by simp [hst])
  generalize hv : { enterState g .redWait s with work := [] } = v at hmoved
  have hrest := hmoved.rest
  have hvwork : v.work = [] := by rw [← hv]
  have hexamine : arbiterEntry g .redWait { enterState g .redWait s with work := [] } =
      { v with groups := tabulate (examinedRecord v) } := by
    rw [hv]
    refine examineArbiter_of_no_queued v (fun j q hq => hs.queued j q ?_) (by rw [hrest]; exact hn)
    rw [← slot_congr (s := s) (t := v) (by rw [hrest])]
    exact hq
  have hother : ∀ j, j ≠ g → maySchedule v j = false := by
    intro j hj
    rw [Bool.eq_false_iff]
    intro hm
    have hproceed : ∀ i, inProceed s i = true → inProceed v i = true := by
      intro i hi
      by_cases hig : i = g
      · subst hig
        rw [inProceed, hst] at hi
        cases hi
      · rw [inProceed, hmoved.others i hig]
        exact hi
    have := maySchedule_of_after (hmoved.others j hj)
      (fun k r hr hact => ⟨r, by rw [← slot_congr (s := s) (t := v) (by rw [hrest])]; exact hr, hact, rfl⟩)
      (by rw [hrest]) hproceed (fun i => by
        by_cases hig : i = g
        · rw [hig, hmoved.own]
        · rw [hmoved.others i hig]) hm
    rw [hs.scheduling j] at this
    cases this
  have hsettled : settled (leaveRedMin g s) = { v with groups := tabulate (examinedRecord v) } := by
    rw [leaveRedMin, hclaimed, if_pos rfl,
      settled_enterState_at_arbiter hs.work hs.commit (by simp [hst]) (.inl rfl) (by simp) hexamine
        (by show v.trams = _; rw [hrest]) (by show v.work.length ≤ 2; rw [hvwork]; decide)
        (fun x hx => by rw [show _ = [] from hvwork] at hx; cases hx)]
    show { v with work := [], groups := _ } = _
    rw [← hvwork]
  have hgroups : tabulate (examinedRecord v) =
      (modGroup g (fun _ => examinedRecord v g) v).groups := by
    refine table_ext fun j => ?_
    rw [look_tabulate, show look (modGroup g _ v).groups j = grp (modGroup g _ v) j from rfl, grp_modGroup]
    split
    · next hj => rw [hj]
    · next hj => rw [examinedRecord, hother j (Ne.symm hj)]; rfl
  have hstate : { v with groups := tabulate (examinedRecord v) } = modGroup g (fun _ => examinedRecord v g) v := by
    rw [hgroups]
    rfl
  have hearliest : earliestGreen v g = earliestGreen s g := by
    refine earliestGreen_congr g (by rw [hrest]) (by rw [hrest]) (by rw [hmoved.own]) fun i => ?_
    by_cases hig : i = g
    · rw [hig, hmoved.own]
    · rw [hmoved.others i hig]
  refine ⟨fun hfree => ?_, fun hkept => ?_⟩
  · have hmay := (maySchedule_redWait_iff hmoved hcar hsch).2 hfree
    have hown : (fun _ => examinedRecord v g) (grp v g) =
        (fun r : GroupRec => { r with schedule := some (earliestGreen s g) }) (grp v g) := by
      simp only [examinedRecord, hmay, if_true, hearliest]
    rw [hsettled, hstate]
    have : modGroup g (fun _ => examinedRecord v g) v =
        modGroup g (fun r => { r with schedule := some (earliestGreen s g) }) v := by
      have hown' : examinedRecord v g = { look v.groups g with schedule := some (earliestGreen s g) } := hown
      simp only [modGroup, hown']
    rw [this]
    exact hmoved.modGroup (fun r => { r with schedule := some (earliestGreen s g) }) fun _ => rfl
  · have hmay : maySchedule v g = false := by
      rw [Bool.eq_false_iff]
      exact fun h => hkept ((maySchedule_redWait_iff hmoved hcar hsch).1 h)
    have hnone : ∀ j, examinedRecord v j = grp v j := by
      intro j
      by_cases hj : j = g
      · rw [hj, examinedRecord, hmay]
        rfl
      · rw [examinedRecord, hother j hj]
        rfl
    have hsame : tabulate (examinedRecord v) = v.groups := table_ext fun j => by rw [look_tabulate, hnone]; rfl
    rw [hsettled, hsame]
    exact hmoved

/-- Settles O8: a quiet junction, the claim of an ACTIVE record at rest, and START. -/
theorem minimumRedEndsInRedOrRedWait : Obligations.MinimumRedEndsInRedOrRedWait := by
  intro g s hu hst
  refine ⟨fun hq hrun he => ?_, fun hs hn he hsch k r hcar => ?_, fun hm => ?_⟩
  · have hm : s.mode = .normal ∨ s.mode = .clearing := by
      rcases hrun with h | ⟨h, _⟩
      · exact .inl h
      · exact .inr h
    exact ⟨_, execMinimumRedExpires_of_due hu hst hm he, minimumRed_quiet hst hq hrun⟩
  · obtain ⟨hfree, hkept⟩ := minimumRed_claimed hs hn hst hsch hcar
    have hexec := execMinimumRedExpires_of_due hu hst (.inl hn) he
    exact ⟨fun h => ⟨_, hexec, hfree h⟩, fun h => ⟨_, hexec, hkept h⟩⟩
  · have hdue : minimumRedDue s g = false := by simp [minimumRedDue, redTimerRuns, hm]
    show Host.Outcome.next (if minimumRedDue s g then _ else s) = _
    rw [hdue, if_neg Bool.false_ne_true]

end Sys2Proof.Machine
end

section
/-! PROOF. NOW_REACHES_S (R11) and NOW_REACHES_T (R12) in a junction at rest: PREPARE, the green entry, and what the
arbiter makes of the entry: the item REACHED, or the record DONE (R9, R34, R51). -/

namespace Sys2Proof.Machine

open Sys2Proof

/-! ### The green entry -/

/-- A withdrawal keeps everything that R48 reads but the claim. -/
theorem withdrawn_redLost (id : TransId) (r : GroupRec) : (withdrawn id r).redLost = r.redLost := by
  unfold withdrawn
  split <;> rfl

/-- A green entry ends as the arbiter leaves it, when no commit waits and no tram is there to take the green. -/
theorem settled_enterGreenMin {g : GroupId} {T : Time} {s u : State} (hs : s.work = []) (hc : s.commit ≠ .waitingApply)
    (hne : (grp s g).state ≠ .greenMin) (htrams : ∀ e, tram s e = none)
    (hu : arbiterEntry g .greenMin { enterGreenMin g T s with work := [] } = u) (hut : u.trams = s.trams)
    (hlen : u.work.length ≤ 2) (hnew : ∀ x ∈ u.work, Inert u x) :
    settled (enterGreenMin g T s) = { u with work := [] } :=
  settled_enterState_at_arbiter
    (s := Machine.modGroup g
      (fun r => { r with greenStart := some T, schedule := none, demand := servedDemand r.demand }) s)
    hs hc (by simpa using hne) (.inr (.inr rfl)) (fun _ => htrams) hu hut hlen hnew

/-- The arbiter's examination changes nothing, when it finds nothing to activate and nothing to schedule. -/
theorem inert_arbiterExamine (s : State) (hq : ∀ k r, slot s k = some r → r.state ≠ .queued)
    (hm : ∀ j, maySchedule s j = false) : Inert s .arbiterExamine :=
  examineArbiter_of_none { s with work := [] } hq hm

/-- With no tram waiting for one, a free slot is of no use. -/
theorem inert_slotFree (s : State) (h : ∀ e, tram s e = none) : Inert s .slotFree :=
  takeSlotFree_of_no_trams { s with work := [] } h

/-- A group that takes green in a junction at rest: the arbiter finds nothing further to schedule (R48). -/
theorem maySchedule_of_green {g : GroupId} {T : Time} {s v : State} (hs : Steady s)
    (hv : GroupMoved g (greenRecord s T) s v) (j : GroupId) : maySchedule v j = false :=
  maySchedule_of_moved hv hs.scheduling (by simp [greenRecord]) (fun _ => rfl) rfl j

/-- The record that claims a group carries it on through the entry. -/
theorem Carries.of_moved {k : SlotId} {r : TransRec} {g : GroupId} {kd : ItemKind} {f : GroupRec → GroupRec}
    {s v : State} (h : Carries k r g kd s) (hv : GroupMoved g f s v)
    (hf : (f (grp s g)).claim = (grp s g).claim) : Carries k r g kd v := by
  have hslots : v.slots = s.slots := by rw [hv.rest]
  exact
    { slot := by rw [slot_congr hslots]; exact h.slot
      active := h.active
      alone := fun j q hq hid => h.alone j q (by rw [← slot_congr hslots]; exact hq) hid
      claim := by rw [hv.own, hf]; exact h.claim
      item := h.item }

/-- The slots after an item of one record was written (R34). -/
theorem slot_reached {k : SlotId} {r : TransRec} {g : GroupId} {s : State} (h : slot s k = some r) (j : SlotId) :
    slot (modSlot k (setOutcome g .reached) s) j =
      if k = j then some (setOutcome g .reached r) else slot s j := by
  rw [slot_modSlot]
  split
  · rw [h]; rfl
  · rfl

/-- Writing an item leaves nothing more to schedule: R48 reads the id and the state of a record alone. -/
theorem maySchedule_reached {k : SlotId} {r : TransRec} {g : GroupId} {s : State} (h : slot s k = some r)
    (hs : ∀ j, maySchedule s j = false) (j : GroupId) :
    maySchedule (modSlot k (setOutcome g .reached) s) j = false := by
  rw [Bool.eq_false_iff]
  intro hm
  have := maySchedule_of_after (s := s) (t := modSlot k (setOutcome g .reached) s) rfl
    (fun i q hq ha => ?_) rfl (fun _ hi => hi) (fun _ => rfl) hm
  · rw [hs j] at this
    cases this
  · rw [slot_reached h] at hq
    split at hq
    · next hi =>
      obtain rfl := Option.some.inj hq
      exact ⟨r, hi ▸ h, ha, rfl⟩
    · exact ⟨q, hq, ha, rfl⟩

/-- The green entry of a group whose record waits for another item (R34). -/
theorem itemReached_enterGreenMin {k : SlotId} {r : TransRec} {g : GroupId} {T : Time} {s : State} (hs : Steady s)
    (hne : (grp s g).state ≠ .greenMin) (hcar : Carries k r g .release s) (htrams : ∀ e, tram s e = none)
    (hother : OthersWait r g) : ItemReached k r g (greenRecord s T) s (settled (enterGreenMin g T s)) := by
  have hv := groupMoved_enterGreenMin g T s hs.work hne
  generalize hveq : { enterGreenMin g T s with work := [] } = v at hv
  have hrest := hv.rest
  have hcar' : Carries k r g .release v := hcar.of_moved hv rfl
  generalize hw : modSlot k (setOutcome g .reached) v = w
  have hslot : ∀ j, slot w j = if k = j then some (setOutcome g .reached r) else slot s j := by
    intro j
    rw [← hw, slot_reached hcar'.slot, slot_congr (s := s) (t := v) (by rw [hrest])]
  have hqueued : ∀ j q, slot w j = some q → q.state ≠ .queued := by
    intro j q hq
    rw [hslot] at hq
    split at hq
    · obtain rfl := Option.some.inj hq
      rw [show (setOutcome g .reached r).state = .active from hcar.active]
      decide
    · exact hs.queued j q hq
  have hmay : ∀ j, maySchedule w j = false := by
    rw [← hw]
    exact maySchedule_reached hcar'.slot (maySchedule_of_green hs hv)
  have hframe : w = { v with slots := w.slots } := by rw [← hw]; rfl
  have hexamine : arbiterEntry g .greenMin { enterGreenMin g T s with work := [] } = w := by
    rw [hveq]
    show examineArbiter (markReached g .release v) = w
    rw [markReached_of_carries hcar', hw,
      completeIfDone_of_waiting ((hslot k).trans (if_pos rfl)) ((hasWaiting_reached g r).2 hother),
      examineArbiter_of_none w hqueued hmay]
  have hwork : w.work = [] := by rw [hframe, hrest]; exact hs.work
  have hend : settled (enterGreenMin g T s) = w := by
    rw [settled_enterGreenMin hs.work hs.commit hne htrams hexamine (by rw [hframe, hrest])
      (by rw [hwork]; decide) (by rw [hwork]; simp), ← hwork]
  rw [hend]
  have hgrp : ∀ j, grp w j = grp v j := fun j => by rw [hframe]; rfl
  have hlamp : ∀ j, lamp w j = lamp v j := fun j => by rw [hframe]; rfl
  exact
    { slot := (hslot k).trans (if_pos rfl)
      slots := fun j hj => (hslot j).trans (if_neg (Ne.symm hj))
      moved :=
        { own := (hgrp g).trans hv.own
          others := fun j hj => (hgrp j).trans (hv.others j hj)
          ownLamps := fun which => by rw [hlamp]; exact hv.ownLamps which
          otherLamps := fun j hj => (hlamp j).trans (hv.otherLamps j hj)
          order := by rw [hframe]; exact hv.order
          rest := by rw [hframe, hrest] } }

/-- The state in which a record has finished with nothing left to wait for: its claims are withdrawn and its origin has
the notice (R51). -/
def doneState (k : SlotId) (r : TransRec) (s : State) : State :=
  noticeOrigin r
    { s with
      slots := put s.slots k (some { r with state := .done, finishedAt := some s.now, endCause := some .completed })
      finishOrder := s.finishOrder.filter (· != k) ++ [k]
      acceptOrder := s.acceptOrder.filter (· != k)
      groups := tabulate fun j => if named r j then withdrawn r.id (grp s j) else grp s j
      work := s.work ++ [.arbiterExamine, .slotFree] }

theorem doneState_frame (k : SlotId) (r : TransRec) (s : State) :
    doneState k r s =
      { s with
        slots := put s.slots k (some { r with state := .done, finishedAt := some s.now, endCause := some .completed })
        finishOrder := s.finishOrder.filter (· != k) ++ [k]
        acceptOrder := s.acceptOrder.filter (· != k)
        groups := tabulate fun j => if named r j then withdrawn r.id (grp s j) else grp s j
        work := s.work ++ [.arbiterExamine, .slotFree]
        links := (doneState k r s).links } :=
  noticeOrigin_frame r _

theorem grp_doneState (k : SlotId) (r : TransRec) (s : State) (j : GroupId) :
    grp (doneState k r s) j = if named r j then withdrawn r.id (grp s j) else grp s j := by
  rw [doneState_frame]
  exact look_tabulate _ j

theorem slot_doneState (k : SlotId) (r : TransRec) (s : State) (j : SlotId) :
    slot (doneState k r s) j =
      if k = j then some { r with state := .done, finishedAt := some s.now, endCause := some .completed }
      else slot s j := by
  rw [doneState_frame]
  exact look_put _ _ _ _

theorem link_doneState (k : SlotId) (r : TransRec) (s : State) (role : Role) :
    link (doneState k r s) role = noticedLink .transition (decide (r.origin = .role role)) (link s role) :=
  link_noticeOrigin r role _

/-- The record is DONE, when nothing in it waits and none of its groups is in RED_WAIT (R51). -/
theorem completeIfDone_eq {k : SlotId} {r : TransRec} {s : State} (hs : slot s k = some r) (ha : r.state = .active)
    (hw : hasWaiting r = false) (hred : ∀ j, named r j = true → (grp s j).state ≠ .redWait) :
    completeIfDone k s = doneState k r s := by
  rw [completeIfDone_of_done hs ha hw, finishRecord_of_active hs ha hred]
  rfl

/-- A record that is DONE lets nothing more be scheduled, its own groups being out of RED_WAIT (R48, R51). -/
theorem maySchedule_doneState {k : SlotId} {r : TransRec} {s : State} (hs : ∀ j, maySchedule s j = false)
    (hred : ∀ j, named r j = true → (grp s j).state ≠ .redWait) (j : GroupId) :
    maySchedule (doneState k r s) j = false := by
  rw [Bool.eq_false_iff]
  intro hm
  have hstate : ∀ i, (grp (doneState k r s) i).state = (grp s i).state := by
    intro i
    rw [grp_doneState]
    split
    · exact withdrawn_state r.id _
    · rfl
  have hlost : ∀ i, (grp (doneState k r s) i).redLost = (grp s i).redLost := by
    intro i
    rw [grp_doneState]
    split
    · exact withdrawn_redLost r.id _
    · rfl
  have hwait : (grp s j).state = .redWait := by
    rw [← hstate]
    exact ((maySchedule_iff _ j).1 hm).1.state
  have hown : grp (doneState k r s) j = grp s j := by
    rw [grp_doneState, if_neg]
    exact fun hj => hred j hj hwait
  have := maySchedule_of_after hown (fun i q hq ha => ?_) (by rw [doneState_frame])
    (fun i hi => by rw [inProceed, hstate]; exact hi) hlost hm
  · rw [hs j] at this
    cases this
  · rw [slot_doneState] at hq
    split at hq
    · obtain rfl := Option.some.inj hq
      cases ha
    · exact ⟨q, hq, ha, rfl⟩

/-- The green entry of the last group a record waits for (R34, R51). -/
theorem completed_enterGreenMin {k : SlotId} {r : TransRec} {g : GroupId} {T : Time} {s : State} (hs : Steady s)
    (hne : (grp s g).state ≠ .greenMin) (hcar : Carries k r g .release s) (htrams : ∀ e, tram s e = none)
    (hother : ¬ OthersWait r g) (hred : ∀ h, h ≠ g → named r h = true → (grp s h).state ≠ .redWait) :
    Completed k r g (greenRecord s T) s (settled (enterGreenMin g T s)) := by
  have hv := groupMoved_enterGreenMin g T s hs.work hne
  generalize hveq : { enterGreenMin g T s with work := [] } = v at hv
  have hrest := hv.rest
  have hcar' : Carries k r g .release v := hcar.of_moved hv rfl
  generalize hw : modSlot k (setOutcome g .reached) v = w
  have hframe : w = { v with slots := w.slots } := by rw [← hw]; rfl
  have hgrp : ∀ j, grp w j = grp v j := fun j => by rw [hframe]; rfl
  have hslot : ∀ j, slot w j = if k = j then some (setOutcome g .reached r) else slot s j := by
    intro j
    rw [← hw, slot_reached hcar'.slot, slot_congr (s := s) (t := v) (by rw [hrest])]
  have hmay : ∀ j, maySchedule w j = false := by
    rw [← hw]
    exact maySchedule_reached hcar'.slot (maySchedule_of_green hs hv)
  have hred' : ∀ j, named (setOutcome g .reached r) j = true → (grp w j).state ≠ .redWait := by
    intro j hj
    rw [named_setOutcome] at hj
    rw [hgrp]
    by_cases hjg : j = g
    · rw [hjg, hv.own]
      simp [greenRecord]
    · rw [hv.others j hjg]
      exact hred j hjg hj
  have hdone : hasWaiting (setOutcome g .reached r) = false := by
    rw [Bool.eq_false_iff]
    exact fun h => hother ((hasWaiting_reached g r).1 h)
  generalize hxeq : doneState k (setOutcome g .reached r) w = x
  have hxframe := doneState_frame k (setOutcome g .reached r) w
  rw [hxeq] at hxframe
  have hxslot : ∀ j, slot x j =
      if k = j then
        some { setOutcome g .reached r with state := .done, finishedAt := some s.now, endCause := some .completed }
      else slot s j := by
    intro j
    rw [← hxeq, slot_doneState, hslot, hframe, hrest]
    split <;> rfl
  have hqueued : ∀ j q, slot x j = some q → q.state ≠ .queued := by
    intro j q hq
    rw [hxslot] at hq
    split at hq
    · obtain rfl := Option.some.inj hq
      simp
    · exact hs.queued j q hq
  have hxmay : ∀ j, maySchedule x j = false := by
    rw [← hxeq]
    exact maySchedule_doneState hmay hred'
  have hexamine : arbiterEntry g .greenMin { enterGreenMin g T s with work := [] } = x := by
    rw [hveq]
    show examineArbiter (markReached g .release v) = x
    rw [markReached_of_carries hcar', hw, completeIfDone_eq ((hslot k).trans (if_pos rfl)) hcar.active hdone hred',
      hxeq, examineArbiter_of_none x hqueued hxmay]
  have hxtrams : x.trams = s.trams := by rw [hxframe, hframe, hrest]
  have hxwork : x.work = [.arbiterExamine, .slotFree] := by
    rw [hxframe, hframe, hrest]
    show s.work ++ _ = _
    rw [hs.work]
    rfl
  rw [settled_enterGreenMin hs.work hs.commit hne htrams hexamine hxtrams (by rw [hxwork]; decide) fun y hy => ?_]
  · have hxgrp : ∀ j, grp x j = if named r j then withdrawn r.id (grp v j) else grp v j := by
      intro j
      rw [← hxeq, grp_doneState, named_setOutcome, hgrp]
      rfl
    have hxlamp : ∀ j, lamp x j = lamp v j := fun j => by rw [hxframe, hframe]; rfl
    have hnamed : named r g = true := by simp [named, hcar.item]
    exact
      { slot := (hxslot k).trans (if_pos rfl)
        slots := fun j hj => (hxslot j).trans (if_neg (Ne.symm hj))
        finishOrder := by rw [hxframe, hframe, hrest]
        acceptOrder := by rw [hxframe, hframe, hrest]
        own := (hxgrp g).trans (by rw [if_pos hnamed, hv.own])
        others := fun j hj => (hxgrp j).trans (by rw [hv.others j hj])
        ownLamps := fun which => by
          show (circuit (lamp x g) which).cmd = _
          rw [hxlamp]
          exact hv.ownLamps which
        otherLamps := fun j hj => (hxlamp j).trans (hv.otherLamps j hj)
        origin := fun role => by
          show link x role = _
          rw [← hxeq, link_doneState, link_congr (s := s) (t := w) (by rw [hframe, hrest])]
          rfl
        items := by
          show x.order.items = _
          rw [hxframe, hframe]
          exact hv.order
        rest := by
          rw [hxframe, hframe, hrest, ← hs.work] }
  · rw [hxwork] at hy
    rcases List.mem_cons.1 hy with rfl | hy
    · exact inert_arbiterExamine x hqueued hxmay
    · rw [List.mem_singleton] at hy
      exact hy ▸ inert_slotFree x fun e => (tram_congr hxtrams e).trans (htrams e)

/-! ### NOW_REACHES_S and NOW_REACHES_T -/

/-- The event of a group in RED_WAIT whose S now has reached (R11). -/
theorem execNowReachesS_of_due {g : GroupId} {s : State} {sch : Schedule} (hu : used s g = true)
    (hst : (grp s g).state = .redWait) (hsch : (grp s g).schedule = some sch) (ht : atOrAfter s.now sch.s = true) :
    exec (.nowReachesS g) s = .next (settled (beginPrepare g sch s)) := by
  have hreached : reachedS s g = some sch := by simp [reachedS, hu, hst, hsch, ht]
  show Host.Outcome.next (match reachedS s g with | some sch => settled (beginPrepare g sch s) | none => s) = _
  rw [hreached]

/-- The event of a group in PREPARE whose T now has reached (R12). -/
theorem execNowReachesT_of_due {g : GroupId} {s : State} {sch : Schedule} (hu : used s g = true)
    (hst : (grp s g).state = .prepare) (hsch : (grp s g).schedule = some sch) (ht : atOrAfter s.now sch.t = true) :
    exec (.nowReachesT g) s = .next (settled (enterGreenMin g sch.t s)) := by
  have hreached : reachedT s g = some sch := by simp [reachedT, hu, hst, hsch, ht]
  show Host.Outcome.next (match reachedT s g with | some sch => settled (enterGreenMin g sch.t s) | none => s) = _
  rw [hreached]

/-- A PREPARE entry in a junction at rest gives the arbiter nothing to do (R11, R48). -/
theorem groupMoved_prepare {g : GroupId} {s : State} (hs : Steady s) (hst : (grp s g).state = .redWait) :
    GroupMoved g (fun r => { r with state := .prepare, enteredAt := s.now }) s (settled (enterState g .prepare s)) := by
  have hne : (grp s g).state ≠ .prepare := by simp [hst]
  have hv := groupMoved_enterState_of_ne g .prepare s hs.work hne
  generalize hveq : { enterState g .prepare s with work := [] } = v at hv
  have hrest := hv.rest
  have hwork : v.work = [] := by rw [← hveq]
  have hexamine : arbiterEntry g .prepare { enterState g .prepare s with work := [] } = v := by
    rw [hveq]
    refine examineArbiter_of_none v (fun j q hq => hs.queued j q ?_)
      (maySchedule_of_moved hv hs.scheduling (by simp) (fun _ => rfl) rfl)
    rw [← slot_congr (s := s) (t := v) (by rw [hrest])]
    exact hq
  rw [settled_enterState_at_arbiter hs.work hs.commit hne (.inr (.inl rfl)) (by simp) hexamine (by rw [hrest])
    (by rw [hwork]; decide) (by rw [hwork]; simp), ← hwork]
  exact hv

/-- Settles O9: PREPARE first, or green at once. -/
theorem scheduledGroupBeginsAtS : Obligations.ScheduledGroupBeginsAtS := by
  intro g s sch hs hu hst hsch ht
  have hexec := execNowReachesS_of_due hu hst hsch ht
  have hne : (grp s g).state ≠ .greenMin := by simp [hst]
  refine ⟨fun hp => ⟨_, hexec, ?_⟩, fun k r hp hcar htrams => ?_⟩
  · rw [beginPrepare, if_neg hp]
    exact groupMoved_prepare hs hst
  · rw [beginPrepare, if_pos hp] at hexec
    exact ⟨fun hw => ⟨_, hexec, itemReached_enterGreenMin hs hne hcar htrams hw⟩,
      fun hw hred => ⟨_, hexec, completed_enterGreenMin hs hne hcar htrams hw hred⟩⟩

/-- Settles O10: a group without its record, and the claim of an ACTIVE one. -/
theorem preparedGroupTurnsGreenAtT : Obligations.PreparedGroupTurnsGreenAtT := by
  intro g s sch hu hst hsch ht
  have hexec := execNowReachesT_of_due hu hst hsch ht
  have hne : (grp s g).state ≠ .greenMin := by simp [hst]
  refine ⟨fun hq => ⟨_, hexec, ?_⟩, fun k r hs hcar htrams => ?_⟩
  · have hstill := still_modGroup hq.still g
      (fun r => { r with greenStart := some sch.t, schedule := none, demand := servedDemand r.demand })
    have hend : settled (enterGreenMin g sch.t s) = { enterGreenMin g sch.t s with work := [] } :=
      hstill.settled_enterState hq.work g .greenMin (by simp) (fun _ h => by simp at h)
    rw [hend]
    exact groupMoved_enterGreenMin g sch.t s hq.work hne
  · exact ⟨fun hw => ⟨_, hexec, itemReached_enterGreenMin hs hne hcar htrams hw⟩,
      fun hw hred => ⟨_, hexec, completed_enterGreenMin hs hne hcar htrams hw hred⟩⟩

end Sys2Proof.Machine
end

section
/-! PROOF. Every used group taken to one state at once: START's red phase (R61), NORMAL entry (R62) and the DARK at the
end of CLEARING (R65), with the notices and the lamps of a mode change (R72, R75). -/

namespace Sys2Proof.Machine

open Sys2Proof

/-! ### All groups to one state -/

/-- A used group takes a write and then a state; a group that is not used stands as it is. -/
def forceGroup (f : GroupRec → GroupRec) (st : GState) (g : GroupId) (s : State) : State :=
  if used s g then enterState g st (modGroup g f s) else s

theorem forceDark_eq :
    forceDark = forceGroup
      (fun r => { r with claim := none, pendingTerm := none, schedule := none, holdUntil := none }) .dark := rfl

theorem forceRedMin_eq :
    forceRedMin = forceGroup (fun r => { r with redEntry := none, greenEnd := none }) .redMin := rfl

theorem forceRed_eq :
    forceRed = forceGroup (fun r => { r with greenStart := none, greenEnd := none, redEntry := none }) .red := rfl

section
variable (f : GroupRec → GroupRec) (st : GState)

/-- A forced change writes groups, lamps, hand-offs and the free order, and nothing else. -/
theorem forceGroup_frame (g : GroupId) (s : State) :
    forceGroup f st g s =
      { s with
        groups := (forceGroup f st g s).groups, lamps := (forceGroup f st g s).lamps,
        work := (forceGroup f st g s).work, order := (forceGroup f st g s).order } := by
  unfold forceGroup
  split
  · rw [enterState_frame]
    rfl
  · rfl

theorem grp_forceGroup (g h : GroupId) (s : State) :
    grp (forceGroup f st g s) h =
      if g = h then if used s g then enteredRecord s.now st (f (grp s g)) else grp s g else grp s h := by
  unfold forceGroup
  by_cases hg : g = h
  · subst hg
    cases hu : used s g <;> simp
  · rw [if_neg hg]
    cases hu : used s g <;> simp [hg]

theorem forceAll_frame (s : State) :
    forEach allGroups (forceGroup f st) s =
      { s with
        groups := (forEach allGroups (forceGroup f st) s).groups
        lamps := (forEach allGroups (forceGroup f st) s).lamps
        work := (forEach allGroups (forceGroup f st) s).work
        order := (forEach allGroups (forceGroup f st) s).order } :=
  forEach_keeps (fun t => t = { s with groups := t.groups, lamps := t.lamps, work := t.work, order := t.order })
    _ _ (fun g _ t ht => by rw [forceGroup_frame, ht]) s rfl

/-- Every group after a forced change of all of them: a used one in the state, any other as it was. -/
theorem grp_forceAll (s : State) (g : GroupId) :
    grp (forEach allGroups (forceGroup f st) s) g =
      if used s g then enteredRecord s.now st (f (grp s g)) else grp s g := by
  obtain ⟨u, ⟨hnow, hact⟩, hug, hfu⟩ :=
    grp_forEach_allGroups (I := fun t => t.now = s.now ∧ t.active = s.active) (f := forceGroup f st)
      (fun g t ht => by rw [forceGroup_frame]; exact ht)
      (fun g h t hgh => by rw [grp_forceGroup, if_neg hgh]) g s ⟨rfl, rfl⟩
  rw [hfu, grp_forceGroup, if_pos rfl, used_congr hact, hug, hnow]

/-- The hand-off is one of an entry of some group to the state, with the mode and the commit of the junction (R9). -/
def EntryOf (st : GState) (s : State) (x : Handoff) : Prop :=
  ∃ (g : GroupId) (u : State) (n : Neighbour),
    u.commit = s.commit ∧ u.mode = s.mode ∧ entryHandoff u g st n = some x

/-- The free order of items is untouched, and what is handed on is the entries of the groups (R9). -/
theorem forceAll_work (s : State) :
    (forEach allGroups (forceGroup f st) s).order.items = s.order.items ∧
      ∀ x ∈ (forEach allGroups (forceGroup f st) s).work, x ∈ s.work ∨ EntryOf st s x := by
  have hkeep := forEach_keeps
    (fun t : State => (t.commit = s.commit ∧ t.mode = s.mode) ∧ t.order.items = s.order.items ∧
      ∀ x ∈ t.work, x ∈ s.work ∨ EntryOf st s x)
    allGroups (forceGroup f st) (fun g _ t ht => ?_) s ⟨⟨rfl, rfl⟩, rfl, fun x hx => .inl hx⟩
  · exact hkeep.2
  · obtain ⟨⟨hc, hm⟩, ho, hw⟩ := ht
    refine ⟨by rw [forceGroup_frame]; exact ⟨hc, hm⟩, ?_⟩
    unfold forceGroup
    split
    · by_cases hst : (grp (modGroup g f t) g).state = st
      · rw [enterState, if_pos hst]
        exact ⟨ho, hw⟩
      · refine ⟨by rw [enterState_of_ne _ _ _ hst]; exact ho, fun x hx => ?_⟩
        rw [enterState_work _ _ _ hst] at hx
        rcases List.mem_append.1 hx with hx | hx
        · exact hw x hx
        · obtain ⟨n, hn⟩ := exists_of_mem_handedOn hx
          exact .inr ⟨g, _, n, hc, hm, hn⟩
    · exact ⟨ho, hw⟩

/-- At most five hand-offs of each group. -/
theorem length_forceAll_work_le (s : State) :
    (forEach allGroups (forceGroup f st) s).work.length ≤ s.work.length + 120 := by
  have hpass : ∀ (l : List GroupId) (t : State),
      (forEach l (forceGroup f st) t).work.length ≤ t.work.length + 5 * l.length := by
    intro l
    induction l with
    | nil => exact fun t => Nat.le_add_right _ _
    | cons g l ih =>
      intro t
      have hone : (forceGroup f st g t).work.length ≤ t.work.length + 5 := by
        unfold forceGroup
        split
        · exact length_enterState_work_le g st _
        · exact Nat.le_add_right _ _
      have := ih (forceGroup f st g t)
      rw [forEach_cons, List.length_cons]
      omega
  exact hpass allGroups s

/-- What a forced change of all groups leaves (R17, R61, R62). -/
structure ForcedAll (s t : State) : Prop where
  grp : ∀ g, Machine.grp t g = if used s g then enteredRecord s.now st (f (Machine.grp s g)) else Machine.grp s g
  items : t.order.items = s.order.items
  work : ∀ x ∈ t.work, x ∈ s.work ∨ EntryOf st s x
  length : t.work.length ≤ s.work.length + 120
  rest : t = { s with groups := t.groups, lamps := t.lamps, work := t.work, order := t.order }

theorem forcedAll (s : State) : ForcedAll f st s (forEach allGroups (forceGroup f st) s) where
  grp := grp_forceAll f st s
  items := (forceAll_work f st s).1
  work := (forceAll_work f st s).2
  length := length_forceAll_work_le f st s
  rest := forceAll_frame f st s

end

/-! ### Lamps of all groups (R74, R75) -/

/-- A circuit of a group that a pass goes through has the command of the table. -/
theorem command_forEach_refreshLamps (g : GroupId) (which : Circuit) (l : List GroupId) : ∀ s : State, g ∈ l →
    (circuit (lamp (forEach l refreshLamps s) g) which).cmd =
      lampCommand (kind s g) (grp s g).state (showsPattern s) which := by
  induction l with
  | nil => exact fun s hg => absurd hg List.not_mem_nil
  | cons a l ih =>
    intro s hg
    obtain ⟨hkind, hgrp, hpattern⟩ : kind (refreshLamps a s) g = kind s g ∧ grp (refreshLamps a s) g = grp s g ∧
        showsPattern (refreshLamps a s) = showsPattern s := ⟨rfl, rfl, rfl⟩
    rw [forEach_cons]
    by_cases hl : g ∈ l
    · rw [ih _ hl, hkind, hgrp, hpattern]
    · obtain rfl : g = a := by
        rcases List.mem_cons.1 hg with h | h
        · exact h
        · exact absurd h hl
      refine forEach_keeps
        (fun u : State => (circuit (lamp u g) which).cmd =
          lampCommand (kind s g) (grp s g).state (showsPattern s) which)
        l refreshLamps (fun b hb u hu => ?_) (refreshLamps g s) ?_
      · rw [lamp_refreshLamps_of_ne b g u fun h => hl (h ▸ hb)]
        exact hu
      · rw [circuit_lamp_refreshLamps, if_pos rfl]
        rfl

/-- The table holds after a write to the lamps alone that gives every circuit its command. -/
theorem lampLaw_of_commands {s t : State} (h : t = { s with lamps := t.lamps })
    (hc : ∀ g which, (circuit (lamp t g) which).cmd = lampCommand (kind s g) (grp s g).state (showsPattern s) which) :
    LampLaw t := by
  intro g which
  rw [hc, kind_congr (s := s) (t := t) (by rw [h]), grp_congr (s := s) (t := t) (by rw [h]),
    show showsPattern t = showsPattern s by rw [h]; rfl]

/-- After every circuit took its command, the table holds. -/
theorem lampLaw_refreshAllLamps (s : State) : LampLaw (refreshAllLamps s) :=
  lampLaw_of_commands (refreshAllLamps_frame s) fun g which =>
    command_forEach_refreshLamps g which allGroups s (mem_allGroups g)

/-! ### The links of a mode change (R72, R159) -/

@[simp] theorem noticedLink_seen (n : Notice) (c : Bool) (l : LinkRec) : (noticedLink n c l).seen = l.seen := by
  unfold noticedLink
  split <;> rfl

theorem link_raiseAll (n : Notice) (s : State) (r : Role) :
    link (raiseAll n s) r = noticedLink n true (link s r) := by
  unfold raiseAll raiseFor allRoles
  simp only [forEach_cons, forEach_nil, link_raise]
  cases r <;> simp [noticedLink]

theorem link_enterMode (m : Mode) (s : State) (r : Role) :
    link (enterMode m s) r = noticedLink .mode true (link s r) := by
  have hraise := link_raiseAll .mode { s with mode := m, modeEnteredAt := s.now } r
  rw [enterMode]
  generalize raiseAll .mode _ = u at hraise ⊢
  rw [link_congr (s := u) (by rw [refreshAllLamps_frame]), hraise]
  rfl

/-! ### START_FLASH_EXPIRES -/

/-- The event is due at the end of START's flash time (R61). -/
theorem execStartFlashExpires_of_due {s : State} {u : Time} (hm : s.mode = .start)
    (hp : s.startPhase = some (.flashPhase, u)) (he : expired s.now u (figure (cfg s) .startFlash) = true) :
    exec .startFlashExpires s = .next (settled (enterRedPhase s)) := by
  have hdue : startFlashDue s = true := by simp [startFlashDue, hm, hp, he]
  show Host.Outcome.next (if startFlashDue s then _ else s) = _
  rw [if_pos hdue]

/-- The groups and then the lamps of the red phase (R61). -/
structure RedPhase (s u t : State) : Prop where
  forced : ForcedAll (fun r => { r with redEntry := none, greenEnd := none }) .redMin
    { s with startPhase := some (.redPhase, s.now) } u
  lamps : t = { u with lamps := t.lamps }
  law : LampLaw t

theorem redPhase_enterRedPhase (s : State) : ∃ u, RedPhase s u (enterRedPhase s) := by
  have hforced := forcedAll (fun r => { r with redEntry := none, greenEnd := none }) .redMin
    { s with startPhase := some (.redPhase, s.now) }
  rw [enterRedPhase, forceRedMin_eq]
  generalize forEach allGroups _ _ = u at hforced ⊢
  exact ⟨u, hforced, refreshAllLamps_frame u, lampLaw_refreshAllLamps u⟩

/-- START's red phase sets nothing further off: the arbiter acts in NORMAL alone (R44, R48). -/
theorem RedPhase.settled {s u t : State} (h : RedPhase s u t) (hw : s.work = []) (hc : s.commit ≠ .waitingApply)
    (hm : s.mode = .start) : Machine.settled t = { t with work := [] } := by
  have hwork : t.work = u.work := by rw [h.lamps]
  have hmode : t.mode = .start := by rw [h.lamps, h.forced.rest]; exact hm
  refine settled_inert t ?_ fun x hx => ?_
  · have := h.forced.length
    simp only [hw, List.length_nil] at this
    rw [hwork]
    exact this.trans (by decide)
  · rw [hwork] at hx
    rcases h.forced.work x hx with hx | ⟨g, v, n, hcv, hmv, hn⟩
    · simp [hw] at hx
    · have hcs : v.commit ≠ .waitingApply := by rw [hcv]; exact hc
      have hms : v.mode = .start := by rw [hmv]; exact hm
      rcases entryHandoff_eq_some hn with ⟨_, rfl⟩ | ⟨_, _, h⟩ | ⟨_, _, h⟩ | ⟨_, _, h, _⟩ | ⟨_, _, h⟩
      · show examineArbiter { t with work := [] } = _
        unfold examineArbiter
        rw [if_neg]
        show t.mode ≠ _
        rw [hmode]
        decide
      · simp at h
      · exact absurd h hcs
      · rw [hms] at h
        cases h
      · cases h

/-- Settles O16: the red phase forces every used group, and the lamps take the table. -/
theorem startFlashEndsInRedPhase : Obligations.StartFlashEndsInRedPhase := by
  intro s p hw hc hm hp he
  obtain ⟨u, hred⟩ := redPhase_enterRedPhase s
  have hexec := execStartFlashExpires_of_due hm hp he
  generalize enterRedPhase s = t at hred hexec
  rw [hred.settled hw hc hm] at hexec
  have hgrp : ∀ g, grp t g =
      if used s g then enteredRecord s.now .redMin { grp s g with redEntry := none, greenEnd := none }
      else grp s g := by
    intro g
    rw [grp_congr (s := u) (t := t) (by rw [hred.lamps])]
    exact hred.forced.grp g
  refine ⟨_, hexec, ?_, fun g hu => ?_, fun g hu => ?_, hred.law, ?_, ?_⟩
  · show t.startPhase = _
    rw [hred.lamps, hred.forced.rest]
  · show grp t g = _
    rw [hgrp, if_pos hu, enteredRecord]
    by_cases h : (grp s g).state = .redMin <;> simp [h]
  · show grp t g = _
    rw [hgrp, hu, if_neg Bool.false_ne_true]
  · show t.order.items = _
    rw [hred.lamps]
    exact hred.forced.items
  · rw [hred.lamps, hred.forced.rest, ← hw]

end Sys2Proof.Machine
end

section
/-! PROOF. NORMAL entry (R62) and the end of CLEARING (R65) in a quiet junction: the hand-offs that the entries of all
groups set off find nothing to do. -/

namespace Sys2Proof.Machine

open Sys2Proof

/-! ### The hand-offs of entries in a quiet state -/

/-- The hand-off of an entry finds nothing to do in a still state, but for the demand logic at CLEAR and the JMC where
the entry ends CLEARING. -/
theorem idle_of_entryHandoff {s u : State} {g : GroupId} {st : GState} {n : Neighbour} {x : Handoff}
    (h : entryHandoff u g st n = some x) (hst : st ≠ .clear)
    (hj : n = .junction → u.mode = .clearing → (st = .redMin ∨ st = .red) → s.mode = .clearing →
      clearingDone s = false) : idle s x := by
  rcases entryHandoff_eq_some h with ⟨_, rfl⟩ | ⟨_, rfl, _⟩ | ⟨_, rfl, _⟩ | ⟨hn, rfl, hm, hred⟩ | ⟨_, _, hc⟩
  · trivial
  · trivial
  · trivial
  · exact hj hn hm hred
  · exact absurd hc hst

/-- Lost reds are counted from the image and the flags (R66). -/
theorem lostCount_congr {s t : State} (ha : t.active = s.active) (hl : ∀ g, (grp t g).redLost = (grp s g).redLost) :
    lostCount t = lostCount s := by
  simp only [lostCount, usedGroups, funext (used_congr ha), hl]

@[simp] theorem enteredRecord_redLost (now : Time) (st : GState) (r : GroupRec) :
    (enteredRecord now st r).redLost = r.redLost := by
  unfold enteredRecord
  split <;> rfl

/-! ### START_RED_EXPIRES -/

/-- The event is due at the end of START's red time (R62). -/
theorem execStartRedExpires_of_due {s : State} {u : Time} (hm : s.mode = .start)
    (hp : s.startPhase = some (.redPhase, u)) (he : expired s.now u (figure (cfg s) .startRed) = true) :
    exec .startRedExpires s = .next (settled (enterNormal s)) := by
  have hdue : startRedDue s = true := by simp [startRedDue, hm, hp, he]
  show Host.Outcome.next (if startRedDue s then _ else s) = _
  rw [if_pos hdue]

/-- The mode and then the groups of NORMAL entry (R62). -/
structure NormalEntry (s m u t : State) : Prop where
  moded : m = { s with mode := .normal, modeEnteredAt := s.now, startPhase := none, supervision := some s.now,
                       links := m.links, lamps := m.lamps }
  links : ∀ r, link m r = noticedLink .mode true (link s r)
  forced : ForcedAll (fun r => { r with greenStart := none, greenEnd := none, redEntry := none }) .red m u
  handed : t = handOn normalHandoff u

theorem normalEntry_enterNormal (s : State) : ∃ m u, NormalEntry s m u (enterNormal s) := by
  have hmoded := enterMode_frame .normal { s with startPhase := none, supervision := some s.now }
  have hlinks := link_enterMode .normal { s with startPhase := none, supervision := some s.now }
  rw [enterNormal, forceRed_eq]
  generalize enterMode .normal _ = m at hmoded hlinks ⊢
  have hforced := forcedAll (fun r => { r with greenStart := none, greenEnd := none, redEntry := none }) .red m
  generalize forEach allGroups _ m = u at hforced ⊢
  exact ⟨m, u, hmoded, hlinks, hforced, rfl⟩

theorem NormalEntry.grp {s m u t : State} (h : NormalEntry s m u t) (g : GroupId) :
    Machine.grp t g =
      if used s g then
        enteredRecord s.now .red { Machine.grp s g with greenStart := none, greenEnd := none, redEntry := none }
      else Machine.grp s g := by
  have hg := h.forced.grp g
  rw [used_congr (s := s) (by rw [h.moded]), grp_congr (s := s) (t := m) (by rw [h.moded])] at hg
  rw [grp_congr (s := u) (t := t) (by rw [h.handed]; rfl), hg, h.moded]

/-- With fewer than two lost reds NORMAL entry sets nothing further off in a quiet junction (R62, R66). -/
theorem NormalEntry.settled {s m u t : State} (h : NormalEntry s m u t) (hq : Quiet s) (hlost : lostCount s < 2) :
    Machine.settled t = { t with work := [] } := by
  have hrest : u = { m with groups := u.groups, lamps := u.lamps, work := u.work, order := u.order } := h.forced.rest
  have hwork : t.work = u.work ++ (neighbourOrder u).filterMap normalHandoff := by rw [h.handed]; rfl
  have hstill : Still t := by
    rw [h.handed]
    exact hq.still.of_eq (show u.slots = _ by rw [hrest, h.moded]) (show u.trams = _ by rw [hrest, h.moded])
      (show u.commit = _ by rw [hrest, h.moded])
  have hmode : t.mode = .normal := by rw [h.handed]; show u.mode = _; rw [hrest, h.moded]
  have hcount : lostCount t < 2 := by
    rw [lostCount_congr (s := s) (by rw [h.handed]; show u.active = _; rw [hrest, h.moded]) fun g => ?_]
    · exact hlost
    · rw [h.grp]
      split <;> simp
  have hmwork : m.work = [] := by rw [h.moded]; exact hq.work
  refine hstill.settled_idle ?_ fun x hx => ?_
  · have hl := h.forced.length
    have hl' := length_handedOn_le u normalHandoff
    rw [hmwork] at hl
    rw [hwork, List.length_append]
    exact (Nat.add_le_add hl hl').trans (by decide)
  · rw [hwork] at hx
    rcases List.mem_append.1 hx with hx | hx
    · rcases h.forced.work x hx with hx | ⟨g, v, n, _, _, hn⟩
      · rw [hmwork] at hx
        cases hx
      · exact idle_of_entryHandoff hn (by simp) fun _ _ _ hc => by rw [hmode] at hc; cases hc
    · obtain ⟨n, hn⟩ := exists_of_mem_handedOn hx
      cases n with
      | arbiter => obtain rfl := Option.some.inj hn; trivial
      | tram => obtain rfl := Option.some.inj hn; trivial
      | config => obtain rfl := Option.some.inj hn; trivial
      | junction => obtain rfl := Option.some.inj hn; exact .inr hcount
      | demand => cases hn

/-- Settles O17: the mode, the groups and the supervision of NORMAL entry. -/
theorem startRedEndsInNormal : Obligations.StartRedEndsInNormal := by
  intro s p hq hm hp he hlost
  obtain ⟨m, u, hn⟩ := normalEntry_enterNormal s
  have hexec := execStartRedExpires_of_due hm hp he
  generalize enterNormal s = t at hn hexec
  rw [hn.settled hq hlost] at hexec
  have hframe : t = { u with work := t.work, order := t.order } := by rw [hn.handed]; rfl
  refine ⟨_, hexec, ?_, ?_, ?_, ?_, fun g hu => ?_, fun g hu => ?_, fun r => ?_, ?_⟩
  · show t.mode = _
    rw [hframe, hn.forced.rest, hn.moded]
  · show t.modeEnteredAt = _
    rw [hframe, hn.forced.rest, hn.moded]
  · show t.startPhase = _
    rw [hframe, hn.forced.rest, hn.moded]
  · show t.supervision = _
    rw [hframe, hn.forced.rest, hn.moded]
  · show grp t g = _
    rw [hn.grp, if_pos hu, enteredRecord]
    by_cases h : (grp s g).state = .red <;> simp [h]
  · show grp t g = _
    rw [hn.grp, hu, if_neg Bool.false_ne_true]
  · show link t r = _
    rw [link_congr (s := m) (t := t) (by rw [hframe, hn.forced.rest]), hn.links]
    rfl
  · rw [hframe, hn.forced.rest, hn.moded, ← hq.work]

/-! ### The last CLEAR of a CLEARING -/

/-- The mode and then the groups of an entry to DARK or FLASH (R58, R65). -/
structure RestingEntry (mode : Mode) (s m u t : State) : Prop where
  moded : m = { s with mode := mode, modeEnteredAt := s.now, startPhase := none, clearTarget := none,
                       links := m.links, lamps := m.lamps }
  links : ∀ r, link m r = noticedLink .mode true (link s r)
  forced : ForcedAll
    (fun r => { r with claim := none, pendingTerm := none, schedule := none, holdUntil := none }) .dark m u
  handed : t = emit .configExamine u

theorem restingEntry_enterResting (mode : Mode) (s : State) :
    ∃ m u, RestingEntry mode s m u (enterResting mode s) := by
  have hmoded := enterMode_frame mode { s with startPhase := none, clearTarget := none }
  have hlinks := link_enterMode mode { s with startPhase := none, clearTarget := none }
  rw [enterResting, forceAllDark, forceDark_eq]
  generalize enterMode mode _ = m at hmoded hlinks ⊢
  have hforced := forcedAll
    (fun r => { r with claim := none, pendingTerm := none, schedule := none, holdUntil := none }) .dark m
  generalize forEach allGroups _ m = u at hforced ⊢
  exact ⟨m, u, hmoded, hlinks, hforced, rfl⟩

/-- Everything that the entry leaves but the groups and the mode is as it was. -/
theorem RestingEntry.rest {mode : Mode} {s m u t : State} (h : RestingEntry mode s m u t) :
    t = { s with mode := mode, modeEnteredAt := s.now, startPhase := none, clearTarget := none, links := t.links,
                 groups := t.groups, lamps := t.lamps, work := t.work, order := t.order } := by
  rw [h.handed, h.forced.rest, h.moded]
  rfl

theorem RestingEntry.grp {mode : Mode} {s m u t : State} (h : RestingEntry mode s m u t) (g : GroupId) :
    Machine.grp t g =
      if used s g then
        enteredRecord s.now .dark
          { Machine.grp s g with claim := none, pendingTerm := none, schedule := none, holdUntil := none }
      else Machine.grp s g := by
  have hg := h.forced.grp g
  rw [used_congr (s := s) (by rw [h.moded]), grp_congr (s := s) (t := m) (by rw [h.moded])] at hg
  rw [grp_congr (s := u) (t := t) (by rw [h.handed]; rfl), hg, h.moded]

theorem RestingEntry.link {mode : Mode} {s m u t : State} (h : RestingEntry mode s m u t) (r : Role) :
    Machine.link t r = noticedLink .mode true (Machine.link s r) := by
  rw [link_congr (s := m) (t := t) (by rw [h.handed, h.forced.rest]; rfl), h.links]

/-- The entry hands on nothing that acts in a still junction. -/
theorem RestingEntry.work {mode : Mode} {s m u t : State} (h : RestingEntry mode s m u t) (hw : s.work = []) :
    t.work.length ≤ 121 ∧ ∀ v, ∀ x ∈ t.work, idle v x := by
  have hmwork : m.work = [] := by rw [h.moded]; exact hw
  have hwork : t.work = u.work ++ [.configExamine] := by rw [h.handed]; rfl
  have hl := h.forced.length
  rw [hmwork] at hl
  refine ⟨by rw [hwork, List.length_append]; exact Nat.add_le_add hl (Nat.le_refl 1), fun v x hx => ?_⟩
  rw [hwork] at hx
  rcases List.mem_append.1 hx with hx | hx
  · rcases h.forced.work x hx with hx | ⟨g, w, n, _, _, hn⟩
    · rw [hmwork] at hx
      cases hx
    · exact idle_of_entryHandoff hn (by simp) fun _ _ hred => by simp at hred
  · rw [List.mem_singleton.1 hx]
    trivial

/-- At the red entry of the last group the JMC ends the CLEARING, and no other neighbour has anything to do (R65). -/
theorem settled_enterRedMin_last {g : GroupId} {s : State} {target : ClearTarget} (hq : Quiet s)
    (hm : s.mode = .clearing) (ht : s.clearTarget = some target) (hst : (grp s g).state = .clear)
    (hothers : ∀ h, h ≠ g → used s h = true → (grp s h).state = .red ∨ (grp s h).state = .redMin) :
    settled (enterRedMin g s) =
      { enterResting (targetMode target) { enterRedMin g s with work := [] } with work := [] } := by
  have hne : (grp s g).state ≠ .redMin := by simp [hst]
  have hv := groupMoved_enterRedMin g s hq.work hne
  have hwork : (enterRedMin g s).work.Perm
      (.clearingExamine ::
        handoffsBut .junction (modGroup g (fun r => { r with redEntry := some s.now }) s) g .redMin) := by
    rw [enterRedMin, enterState_work g .redMin _ (by simpa using hne), modGroup_work, hq.work]
    exact entryHandoffs_perm _ g .redMin .junction _ (by simp [entryHandoff, hm])
  have hlen : (enterRedMin g s).work.length ≤ 5 := by
    have := length_enterState_work_le g .redMin (modGroup g (fun r => { r with redEntry := some s.now }) s)
    rwa [modGroup_work, hq.work] at this
  have hstill : Still (enterRedMin g s) :=
    hq.still.of_eq (enterState_slots _ _ _) (enterState_trams _ _ _) (enterState_commit _ _ _)
  have hidle : ∀ v, ∀ x ∈ handoffsBut .junction (modGroup g (fun r => { r with redEntry := some s.now }) s) g .redMin,
      idle v x := by
    intro v x hx
    obtain ⟨n, hn, hnx⟩ := exists_of_mem_handoffsBut hx
    exact idle_of_entryHandoff hnx (by simp) fun hj => absurd hj hn
  generalize hveq : { enterRedMin g s with work := [] } = v at hv ⊢
  have hvwork : v.work = [] := by rw [← hveq]
  have hvstill : Still v := by
    rw [← hveq]
    exact hstill.of_eq rfl rfl rfl
  have hdone : clearingDone v = true := by
    refine List.all_eq_true.2 fun h hh => ?_
    have hu : used s h = true := by
      rw [← used_congr (s := s) (t := v) (by rw [hv.rest])]
      exact (List.mem_filter.1 hh).2
    by_cases hhg : h = g
    · rw [hhg, hv.own]
      rfl
    · rw [hv.others h hhg]
      rcases hothers h hhg hu with h | h <;> simp [h]
  have hexamine : handle .clearingExamine v = enterResting (targetMode target) v := by
    show examineClearing v = _
    rw [examineClearing, if_pos ⟨by rw [hv.rest]; exact hm, hdone⟩,
      show v.clearTarget = some target by rw [hv.rest]; exact ht]
    rfl
  obtain ⟨m, u, hrest⟩ := restingEntry_enterResting (targetMode target) v
  generalize enterResting (targetMode target) v = t at hexamine hrest ⊢
  obtain ⟨htlen, htidle⟩ := hrest.work hvwork
  have htstill : Still t := by
    have hframe := hrest.rest
    exact hvstill.of_eq (by rw [hframe]) (by rw [hframe]) (by rw [hframe])
  refine settled_of_one hwork ((Nat.add_le_add hlen htlen).trans (by decide)) (by rw [hveq]; exact hexamine)
    (fun x hx => hstill.inert x (hidle _ x hx)) (fun x hx => htstill.inert x (hidle _ x hx))
    (fun x hx => htstill.inert x (htidle t x hx))

/-- Settles O14: the end of the CLEARING in its target mode. -/
theorem lastRedEntryEndsClearing : Obligations.LastRedEntryEndsClearing := by
  intro g s target hq hm ht hu hst he hothers
  have hexec := execClearTimeExpires_of_due hu hst he
  rw [settled_enterRedMin_last hq hm ht hst hothers] at hexec
  have hv := groupMoved_enterRedMin g s hq.work (by simp [hst])
  generalize { enterRedMin g s with work := [] } = v at hv hexec
  have hvrest := hv.rest
  obtain ⟨m, u, hresting⟩ := restingEntry_enterResting (targetMode target) v
  generalize enterResting (targetMode target) v = t at hexec hresting
  have htrest := hresting.rest
  have hused : ∀ h, used v h = used s h := used_congr (by rw [hvrest])
  have hred : ∀ h, (grp t h).redEntry = (grp v h).redEntry := by
    intro h
    rw [hresting.grp]
    split
    · unfold enteredRecord
      split <;> rfl
    · rfl
  have hown : (grp v g).redEntry = some s.now := by rw [hv.own]
  refine ⟨_, hexec, ?_, ?_, ?_, fun h hh => ?_, fun h hh => ?_, ?_, fun r hr => ?_, ?_, ?_⟩
  · show t.mode = _
    rw [htrest]
    cases target <;> rfl
  · show t.modeEnteredAt = _
    rw [htrest, hvrest]
  · show t.clearTarget = _
    rw [htrest]
  · show (grp t h).state = _ ∧ (grp t h).claim = _ ∧ (grp t h).pendingTerm = _ ∧ (grp t h).schedule = _ ∧
      (grp t h).holdUntil = _ ∧ (grp t h).greenEnd = _ ∧ (grp t h).greenStart = _ ∧ (grp t h).demand = _
    obtain ⟨hgreenEnd, hgreenStart, hdemand⟩ : (grp v h).greenEnd = (grp s h).greenEnd ∧
        (grp v h).greenStart = (grp s h).greenStart ∧ (grp v h).demand = (grp s h).demand := by
      by_cases hhg : h = g
      · rw [hhg, hv.own]
        exact ⟨rfl, rfl, rfl⟩
      · rw [hv.others h hhg]
        exact ⟨rfl, rfl, rfl⟩
    rw [hresting.grp, hused, if_pos hh, ← hgreenEnd, ← hgreenStart, ← hdemand]
    unfold enteredRecord
    split
    · next hd => exact ⟨hd, rfl, rfl, rfl, rfl, rfl, rfl, rfl⟩
    · exact ⟨rfl, rfl, rfl, rfl, rfl, rfl, rfl, rfl⟩
  · show (grp t h).redEntry = _
    rw [hred, hv.others h hh]
  · show (grp t g).redEntry = _
    rw [hred, hown]
  · show look (link t r).notices _ = true
    rw [hresting.link, link_congr (s := s) (t := v) (by rw [hvrest]), noticedLink, hr]
    simp
  · show t.active = _
    rw [htrest, hvrest]
  · show t.slots = _
    rw [htrest, hvrest]

end Sys2Proof.Machine
end

section
/-! PROOF. Requests that set something off in a junction where nothing comes of it, the group lists they name, and
GROUP_INHIBIT and PRIORITY_INHIBIT (R42, R146). -/

namespace Sys2Proof.Machine

open Sys2Proof

/-! ### Lists of groups in a request (R164) -/

theorem groupByte_injective : Function.Injective groupByte := by
  intro g h hgh
  have := groupOfNat_groupByte g
  rw [hgh, groupOfNat_groupByte] at this
  exact (Option.some.inj this).symm

/-- A number names a group when it is that group's. -/
theorem eq_groupByte_of_groupOfNat {b : Byte} {g : GroupId} (h : groupOfNat b.toNat = some g) : b = groupByte g := by
  revert h
  revert b g
  decide

/-- The bytes of a list that names groups are their numbers, each once (R42, R114, R146). -/
theorem namedGroups_eq_some {bs : List Byte} : ∀ {gs : List GroupId}, namedGroups bs = some gs →
    bs = gs.map groupByte ∧ gs.Nodup := by
  induction bs with
  | nil =>
    intro gs h
    obtain rfl := Option.some.inj h
    exact ⟨rfl, List.nodup_nil⟩
  | cons b bs ih =>
    intro gs h
    cases hg : groupOfNat b.toNat with
    | none => simp [namedGroups, hg] at h
    | some g =>
      cases hgs : namedGroups bs with
      | none => simp [namedGroups, hg, hgs] at h
      | some rest =>
        obtain ⟨hbs, hnodup⟩ := ih hgs
        simp only [namedGroups, hg, hgs] at h
        split at h
        · cases h
        · next hmem =>
          obtain rfl := Option.some.inj h
          exact ⟨by rw [List.map_cons, ← hbs, ← eq_groupByte_of_groupOfNat hg], List.nodup_cons.2 ⟨hmem, hnodup⟩⟩

/-- What a list with an action that is taken says (R42, R114, R146). -/
theorem actionOnGroups_eq_some {fit : GroupId → Bool} {action : Byte} {bs : List Byte} {act : Bool}
    {gs : List GroupId} (h : actionOnGroups fit (action :: bs) = some (act, gs)) :
    (action = 0#8 ∨ action = 1#8) ∧ bs = gs.map groupByte ∧ gs.Nodup ∧ gs ≠ [] ∧ ∀ g ∈ gs, fit g = true := by
  unfold actionOnGroups at h
  cases hact : actionOf action with
  | none => simp [hact] at h
  | some a =>
    cases hgs : namedGroups bs with
    | none => simp [hact, hgs] at h
    | some l =>
      simp only [hact, hgs] at h
      split at h
      · next hok =>
        obtain ⟨rfl, rfl⟩ := Prod.mk.inj (Option.some.inj h)
        obtain ⟨hbs, hnodup⟩ := namedGroups_eq_some hgs
        refine ⟨?_, hbs, hnodup, hok.1, fun g hg => List.all_eq_true.1 hok.2 g hg⟩
        unfold actionOf at hact
        split at hact
        · next h0 => exact .inl (BitVec.eq_of_toNat_eq h0)
        · next h1 => exact .inr (BitVec.eq_of_toNat_eq h1)
        · cases hact
      · cases h

/-- A list that a request refuses names no groups to act on. -/
theorem actionOnGroups_of_refused {fit : GroupId → Bool} {action : Byte} {bs : List Byte}
    (h : ListRefused fit action bs) : actionOnGroups fit (action :: bs) = none := by
  cases hact : actionOnGroups fit (action :: bs) with
  | none => rfl
  | some x =>
    obtain ⟨act, gs⟩ := x
    obtain ⟨haction, rfl, hnodup, hne, hfit⟩ := actionOnGroups_eq_some hact
    rcases h with ⟨h0, h1⟩ | hnil | ⟨b, hb, hrange⟩ | hdup | ⟨g, hg, hunfit⟩
    · rcases haction with h | h
      · exact absurd h h0
      · exact absurd h h1
    · exact absurd (List.map_eq_nil_iff.1 hnil) hne
    · obtain ⟨g, _, rfl⟩ := List.mem_map.1 hb
      have : ∀ g : GroupId, ¬ ((groupByte g).toNat = 0 ∨ 24 < (groupByte g).toNat) := by decide
      exact absurd hrange (this g)
    · exact absurd (hnodup.map groupByte_injective) hdup
    · have hmem := (List.mem_map_of_injective groupByte_injective).1 hg
      rw [hfit g hmem] at hunfit
      cases hunfit

/-- A list of distinct fitting groups with a right action is taken. -/
theorem actionOnGroups_of_fit {fit : GroupId → Bool} {action : Byte} {gs : List GroupId}
    (ha : action = 0#8 ∨ action = 1#8) (hne : gs ≠ []) (hnodup : gs.Nodup) (hfit : ∀ g ∈ gs, fit g = true) :
    actionOnGroups fit (action :: gs.map groupByte) = some (action == 1#8, gs) := by
  have hact : actionOf action = some (action == 1#8) := by rcases ha with rfl | rfl <;> rfl
  have hall : gs.all fit = true := List.all_eq_true.2 hfit
  simp only [actionOnGroups, hact, namedGroups_groupByte gs hnodup]
  rw [if_pos ⟨hne, hall⟩]

/-! ### Requests that set something off (R152, R154) -/

/-- A granted request: what its owner set off is settled after the reply. -/
theorem takeRequest_eq {role : Role} {params : List Byte} {owner : State → State × Reply} {reply : Reply} {s u : State}
    (h : Answerable role params s) (ho : owner (setSeen role s) = (u, reply)) (hseen : (link u role).seen = true) :
    takeRequest role true params owner s =
      settled (superviseRestart role reply.code (modLink role (repliedLink reply) u)) := by
  have hlen : ¬ 40 < params.length := Nat.not_lt.2 h.length
  have hslot : (link (setSeen role s) role).slot ≠ .pending := by
    simp only [setSeen, link_modLink, if_true]
    exact h.slot
  simp only [takeRequest, if_neg hlen, if_neg hslot, if_true, finishRequest, ho, answer_eq role reply u hseen]

/-- Hand-offs have no part in the supervision timer (R68). -/
theorem superviseRestart_work (role : Role) (code : ReplyCode) (s : State) (w : List Handoff) :
    superviseRestart role code { s with work := w } = { superviseRestart role code s with work := w } := by
  by_cases hc : role = .plan ∧ isRefusal code = false ∧ s.mode = .normal
  · simp only [superviseRestart, if_pos hc]
  · simp only [superviseRestart, if_neg hc]

/-- When nothing comes of what the owner set off, the request ends with the reply. -/
theorem takeRequest_of_idle {role : Role} {params : List Byte} {owner : State → State × Reply} {reply : Reply}
    {s u : State} (h : Answerable role params s) (ho : owner (setSeen role s) = (u, reply))
    (hseen : (link u role).seen = true) (hstill : Still u) (hl : u.work.length ≤ settleFuel)
    (hi : ∀ x ∈ u.work, ∀ v, idle v x) :
    takeRequest role true params owner s =
      superviseRestart role reply.code (modLink role (repliedLink reply) { u with work := [] }) := by
  have hframe := superviseRestart_eq role reply.code (modLink role (repliedLink reply) u)
  have hwork : (superviseRestart role reply.code (modLink role (repliedLink reply) u)).work = u.work := by
    rw [hframe]
    rfl
  have hstill' : Still (superviseRestart role reply.code (modLink role (repliedLink reply) u)) :=
    hstill.of_eq (by rw [hframe]; rfl) (by rw [hframe]; rfl) (by rw [hframe]; rfl)
  rw [takeRequest_eq h ho hseen, hstill'.settled_idle (by rw [hwork]; exact hl)
    fun x hx => hi x (by rw [hwork] at hx; exact hx) _, ← superviseRestart_work]
  rfl

/-- The same for an owner that leaves the links alone. -/
theorem takeRequest_replied_of_idle {role : Role} {params : List Byte} {owner : State → State × Reply} {reply : Reply}
    {s u : State} (h : Answerable role params s) (ho : owner (setSeen role s) = (u, reply))
    (hlinks : u.links = (setSeen role s).links) (hstill : Still u) (hl : u.work.length ≤ settleFuel)
    (hi : ∀ x ∈ u.work, ∀ v, idle v x) :
    Replied role reply { u with work := [], links := s.links } (takeRequest role true params owner s) := by
  have hseen : (link u role).seen = true := by
    rw [link_congr hlinks]
    simp [setSeen]
  have hbare : setSeen role { u with work := [], links := s.links } = { u with work := [] } := by
    show ({ u with work := [], links := (setSeen role s).links } : State) = _
    rw [← hlinks]
  have hreplied := takeRequest_replied role params
    (fun _ => (setSeen role { u with work := [], links := s.links }, reply)) reply s
    { u with work := [], links := s.links } h rfl rfl
  have hsame := takeRequest_of_idle (owner := fun _ => ({ u with work := [] }, reply)) (u := { u with work := [] }) h
    rfl hseen (hstill.of_eq rfl rfl rfl) (Nat.zero_le _) (by simp)
  rw [hbare, hsame] at hreplied
  rwa [takeRequest_of_idle h ho hseen hstill hl hi]

/-! ### Flags of several groups -/

/-- An operation that writes one group record, and hands on nothing that acts in a still junction. -/
structure WritesFlag (w : GroupRec → GroupRec) (f : GroupId → State → State) : Prop where
  own : ∀ g s, grp (f g s) g = w (grp s g)
  others : ∀ g h s, g ≠ h → grp (f g s) h = grp s h
  items : ∀ g s, (f g s).order.items = s.order.items
  work : ∀ g s, ∀ x ∈ (f g s).work, x ∈ s.work ∨ ∀ v, idle v x
  length : ∀ g s, (f g s).work.length ≤ s.work.length + 5
  rest : ∀ g s, f g s = { s with groups := (f g s).groups, work := (f g s).work, order := (f g s).order }

/-- What a pass of such an operation over named groups leaves. -/
structure FlagsWritten (w : GroupRec → GroupRec) (gs : List GroupId) (s t : State) : Prop where
  named : ∀ g ∈ gs, grp t g = w (grp s g)
  others : ∀ g, g ∉ gs → grp t g = grp s g
  items : t.order.items = s.order.items
  work : ∀ x ∈ t.work, x ∈ s.work ∨ ∀ v, idle v x
  length : t.work.length ≤ s.work.length + 5 * gs.length
  rest : t = { s with groups := t.groups, work := t.work, order := t.order }

theorem WritesFlag.flagsWritten {w : GroupRec → GroupRec} {f : GroupId → State → State} (h : WritesFlag w f)
    (gs : List GroupId) (hgs : gs.Nodup) : ∀ s, FlagsWritten w gs s (forEach gs f s) := by
  induction gs with
  | nil =>
    exact fun s =>
      { named := fun g hg => absurd hg List.not_mem_nil
        others := fun g _ => rfl
        items := rfl
        work := fun x hx => .inl hx
        length := Nat.le_refl _
        rest := rfl }
  | cons a gs ih =>
    intro s
    obtain ⟨ha, hgs'⟩ := List.nodup_cons.1 hgs
    have hrec := ih hgs' (f a s)
    rw [forEach_cons]
    generalize forEach gs f (f a s) = t at hrec
    exact
      { named := fun g hg => by
          rcases List.mem_cons.1 hg with rfl | hg
          · rw [hrec.others g ha, h.own]
          · rw [hrec.named g hg, h.others a g s fun hag => ha (hag ▸ hg)]
        others := fun g hg => by
          rw [hrec.others g fun hmem => hg (List.mem_cons_of_mem a hmem),
            h.others a g s fun hag => hg (hag ▸ List.mem_cons_self)]
        items := hrec.items.trans (h.items a s)
        work := fun x hx => by
          rcases hrec.work x hx with hx | hx
          · exact h.work a s x hx
          · exact .inr hx
        length := by
          have h1 := hrec.length
          have h2 := h.length a s
          rw [List.length_cons]
          omega
        rest := by
          rw [hrec.rest, h.rest] }

/-- A list of distinct groups is no longer than the table. -/
theorem length_le_of_nodup {gs : List GroupId} (h : gs.Nodup) : gs.length ≤ 24 := by
  simpa using h.length_le_card

/-- What a request that writes the flags of the groups it names leaves. -/
structure FlagsRequest (role : Role) (w : GroupRec → GroupRec) (gs : List GroupId) (u s t : State) : Prop where
  replied : Replied role (plain .done) { s with groups := t.groups, order := t.order } t
  order : t.order = u.order
  items : t.order.items = s.order.items
  named : ∀ g ∈ gs, grp t g = w (grp s g)
  others : ∀ g, g ∉ gs → grp t g = grp s g

/-- A request that writes the flags of the groups it names, in a quiet junction. -/
theorem takeRequest_flags {role : Role} {params : List Byte} {owner : State → State × Reply}
    {w : GroupRec → GroupRec} {f : GroupId → State → State} {gs : List GroupId} {s : State}
    (h : Answerable role params s) (hq : Quiet s) (hf : WritesFlag w f) (hgs : gs.Nodup)
    (ho : owner (setSeen role s) = (forEach gs f (setSeen role s), plain .done)) :
    FlagsRequest role w gs (forEach gs f (setSeen role s)) s (takeRequest role true params owner s) := by
  have hu := hf.flagsWritten gs hgs (setSeen role s)
  generalize forEach gs f (setSeen role s) = u at hu ho ⊢
  have hrest : u = { setSeen role s with groups := u.groups, work := u.work, order := u.order } := hu.rest
  have hwork : (setSeen role s).work = [] := hq.work
  have hlen := hu.length
  rw [hwork] at hlen
  have hreplied := takeRequest_replied_of_idle h ho (by rw [hrest])
    (hq.still.of_eq (by rw [hrest]; rfl) (by rw [hrest]; rfl) (by rw [hrest]; rfl))
    (by
      have h24 := length_le_of_nodup hgs
      have : u.work.length ≤ 120 := by simp only [List.length_nil] at hlen; omega
      exact this.trans (by decide))
    fun x hx => (hu.work x hx).resolve_left (by rw [hwork]; exact List.not_mem_nil)
  have hstate : ({ u with work := [], links := s.links } : State) =
      { s with groups := u.groups, order := u.order } := by
    rw [hrest, ← hq.work]
    rfl
  rw [hstate] at hreplied
  generalize takeRequest role true params owner s = t at hreplied
  have hgroups : t.groups = u.groups := by rw [hreplied.rest]
  have horder : t.order = u.order := by rw [hreplied.rest]
  exact
    { replied := by rw [hgroups, horder]; exact hreplied
      order := horder
      items := by rw [horder]; exact hu.items
      named := fun g hg => (grp_congr hgroups g).trans (hu.named g hg)
      others := fun g hg => (grp_congr hgroups g).trans (hu.others g hg) }

theorem writesFlag_writeInhibit (set : Bool) :
    WritesFlag (fun r => { r with inhibited := set }) (writeInhibit set) := by
  have hsame : ∀ g s, (grp s g).inhibited = set → { grp s g with inhibited := set } = grp s g := by
    rintro g s rfl
    rfl
  constructor
  · intro g s
    unfold writeInhibit
    split
    · next h => exact (hsame g s h).symm
    · simp
  · intro g h s hgh
    unfold writeInhibit
    split
    · rfl
    · simp [hgh]
  · intro g s
    unfold writeInhibit
    split <;> rfl
  · intro g s x hx
    unfold writeInhibit at hx
    split at hx
    · exact .inl hx
    · rcases List.mem_append.1 hx with hx | hx
      · exact .inl hx
      · obtain ⟨n, hn⟩ := exists_of_mem_handedOn hx
        refine .inr fun v => ?_
        cases n with
        | arbiter => obtain rfl := Option.some.inj hn; trivial
        | tram =>
          simp only [inhibitHandoff] at hn
          split at hn
          · obtain rfl := Option.some.inj hn; trivial
          · cases hn
        | config => cases hn
        | junction => cases hn
        | demand => cases hn
  · intro g s
    unfold writeInhibit
    split
    · omega
    · have := length_handedOn_le (modGroup g (fun r => { r with inhibited := set }) s) (inhibitHandoff s g)
      show (s.work ++ _).length ≤ _
      rw [List.length_append]
      omega
  · intro g s
    unfold writeInhibit
    split <;> rfl

/-- PRIORITY_INHIBIT writes its flag and leaves the free order. -/
theorem writesFlag_writePriorityInhibit (set : Bool) :
    WritesFlag (fun r => { r with priorityInhibited := set }) (writePriorityInhibit set) ∧
      ∀ g s, (writePriorityInhibit set g s).order = s.order := by
  refine ⟨⟨?_, ?_, ?_, ?_, ?_, ?_⟩, ?_⟩
  · intro g s
    simp only [writePriorityInhibit]
    split <;> simp
  · intro g h s hgh
    simp only [writePriorityInhibit]
    split <;> simp [hgh]
  · intro g s
    simp only [writePriorityInhibit]
    split <;> rfl
  · intro g s x hx
    simp only [writePriorityInhibit] at hx
    split at hx
    · rcases List.mem_append.1 hx with hx | hx
      · exact .inl hx
      · rw [List.mem_singleton.1 hx]
        exact .inr fun _ => trivial
    · exact .inl hx
  · intro g s
    simp only [writePriorityInhibit]
    split
    · show (s.work ++ _).length ≤ _
      simp
    · exact Nat.le_add_right _ _
  · intro g s
    simp only [writePriorityInhibit]
    split <;> rfl
  · intro g s
    simp only [writePriorityInhibit]
    split <;> rfl

/-! ### The two requests -/

/-- A list that the owner refuses is answered REFUSED_PARAM and does nothing else. -/
theorem takeRequest_refused {role : Role} {params : List Byte} {owner : State → State × Reply} {s : State}
    (h : Answerable role params s) (ho : owner (setSeen role s) = refuse .refusedParam (setSeen role s)) :
    Replied role (plain .refusedParam) s (takeRequest role true params owner s) :=
  takeRequest_replied role params owner _ s s h ho h.work

/-- Settles O44: the refusals, and the flags of the groups named. -/
theorem inhibitsWriteTheirFlags : Obligations.InhibitsWriteTheirFlags := by
  intro action s
  refine ⟨fun bs => ⟨fun h hrefused => ?_, fun h hrefused => ?_⟩, fun gs hq ha hne hgs =>
    ⟨fun h hused => ?_, fun h hkind => ?_⟩⟩
  · refine ⟨_, rfl, takeRequest_refused h ?_⟩
    unfold groupInhibitOwner
    rw [actionOnGroups_of_refused (fit := used (setSeen .central s)) hrefused]
  · refine ⟨_, rfl, takeRequest_refused h ?_⟩
    unfold priorityInhibitOwner
    rw [actionOnGroups_of_refused (fit := fun g => kind (setSeen .plan s) g == .tram) hrefused]
  · have ho : groupInhibitOwner (action :: gs.map groupByte) (setSeen .central s) =
        (forEach gs (writeInhibit (action == 1#8)) (setSeen .central s), plain .done) := by
      unfold groupInhibitOwner
      rw [actionOnGroups_of_fit (fit := used (setSeen .central s)) ha hne hgs hused]
    have hflags := takeRequest_flags h hq (writesFlag_writeInhibit _) hgs ho
    exact ⟨_, rfl, hflags.replied, hflags.items, hflags.others, hflags.named⟩
  · have ho : priorityInhibitOwner (action :: gs.map groupByte) (setSeen .plan s) =
        (forEach gs (writePriorityInhibit (action == 1#8)) (setSeen .plan s), plain .done) := by
      unfold priorityInhibitOwner
      rw [actionOnGroups_of_fit (fit := fun g => kind (setSeen .plan s) g == .tram) ha hne hgs
        fun g hg => beq_iff_eq.2 (hkind g hg)]
    obtain ⟨hwrites, hkeeps⟩ := writesFlag_writePriorityInhibit (action == 1#8)
    have hflags := takeRequest_flags h hq hwrites hgs ho
    have horder := hflags.order.trans
      (forEach_keeps (fun t => t.order = s.order) gs _ (fun g _ t ht => (hkeeps g t).trans ht) (setSeen .plan s) rfl)
    have hreplied := hflags.replied
    rw [horder] at hreplied
    exact ⟨_, rfl, hreplied, hflags.others, hflags.named⟩

end Sys2Proof.Machine
end

section
/-! PROOF. CANCEL_TRANSITION in a junction with one live record and no tram (R16, R41, R52, R54). -/

namespace Sys2Proof.Machine

open Sys2Proof

/-! ### The withdrawal of a claim (R16) -/

/-- A withdrawal writes groups, lamps, hand-offs and the free order, and nothing else. -/
theorem withdrawClaim_frame (id : TransId) (g : GroupId) (s : State) :
    withdrawClaim id g s =
      { s with
        groups := (withdrawClaim id g s).groups, lamps := (withdrawClaim id g s).lamps,
        work := (withdrawClaim id g s).work, order := (withdrawClaim id g s).order } := by
  unfold withdrawClaim
  split
  · rfl
  · split
    · dsimp only
      split
      · rw [enterState_frame]
        rfl
      · rfl
    · rfl

theorem grp_withdrawClaim_of_ne (id : TransId) (g h : GroupId) (s : State) (hgh : g ≠ h) :
    grp (withdrawClaim id g s) h = grp s h := by
  unfold withdrawClaim
  split
  · rfl
  · split
    · dsimp only
      split <;> simp [hgh]
    · rfl

/-- A group whose claim is withdrawn: out of RED_WAIT it returns to RED with S and T dropped (R16). -/
structure ClaimWithdrawn (r q : GroupRec) : Prop where
  claim : q.claim = none
  waiting : r.state = .redWait → q.state = .red ∧ q.schedule = none
  other : r.state ≠ .redWait → q.state = r.state

theorem claimWithdrawn_withdrawClaim {id : TransId} {g : GroupId} {s : State} {c : Claim}
    (hc : (grp s g).claim = some c) (hid : c.id = id) : ClaimWithdrawn (grp s g) (grp (withdrawClaim id g s) g) := by
  unfold withdrawClaim
  by_cases hw : (grp s g).state = .redWait
  · simp only [hc, hid, hw, if_true]
    exact
      { claim := by simp [enteredRecord, hw]
        waiting := fun _ => by simp [enteredRecord, hw]
        other := fun h => absurd hw h }
  · simp only [hc, hid, hw, if_true, if_false]
    exact
      { claim := by simp
        waiting := fun h => absurd h hw
        other := fun _ => by simp }

/-- A withdrawal outside CLEARING hands on nothing that acts in a still junction, and five hand-offs at most. -/
theorem withdrawClaim_work (id : TransId) (g : GroupId) (s : State) (hm : s.mode ≠ .clearing) :
    (withdrawClaim id g s).work.length ≤ s.work.length + 5 ∧
      ∀ x ∈ (withdrawClaim id g s).work, x ∈ s.work ∨ ∀ v, idle v x := by
  unfold withdrawClaim
  split
  · exact ⟨Nat.le_add_right _ _, fun x hx => .inl hx⟩
  · split
    · next hid =>
      dsimp only
      split
      · next c _ _ hw =>
        generalize hu : Machine.modGroup g (fun r => { r with schedule := none })
          (Machine.modGroup g (fun r => { r with claim := none, pendingTerm := withdrawTerm id r.pendingTerm }) s) = u
        have huw : u.work = s.work := by rw [← hu]; rfl
        have hum : u.mode = s.mode := by rw [← hu]; rfl
        rw [← huw]
        refine ⟨length_enterState_work_le g .red u, fun x hx => ?_⟩
        by_cases hst : (grp u g).state = .red
        · rw [enterState, if_pos hst] at hx
          exact .inl hx
        · rw [enterState_work g .red u hst] at hx
          rcases List.mem_append.1 hx with hx | hx
          · exact .inl hx
          · obtain ⟨n, hn⟩ := exists_of_mem_handedOn hx
            exact .inr fun v => idle_of_entryHandoff hn (by simp) fun _ hc => absurd (hum ▸ hc) hm
      · exact ⟨Nat.le_add_right _ _, fun x hx => .inl hx⟩
    · exact ⟨Nat.le_add_right _ _, fun x hx => .inl hx⟩

/-- The withdrawals of a finished record, group by group. -/
structure ClaimsWithdrawn (id : TransId) (l : List GroupId) (s t : State) : Prop where
  claims : ∀ g ∈ l, ∀ c, (grp s g).claim = some c → c.id = id → ClaimWithdrawn (grp s g) (grp t g)
  length : t.work.length ≤ s.work.length + 5 * l.length
  work : ∀ x ∈ t.work, x ∈ s.work ∨ ∀ v, idle v x
  rest : t = { s with groups := t.groups, lamps := t.lamps, work := t.work, order := t.order }

theorem claimsWithdrawn (id : TransId) (l : List GroupId) (hl : l.Nodup) (s : State) (hm : s.mode ≠ .clearing) :
    ClaimsWithdrawn id l s (forEach l (withdrawClaim id) s) := by
  refine ⟨fun g hg c hc hid => ?_, ?_, ?_, ?_⟩
  · obtain ⟨u, _, hug, hfu⟩ := (grp_forEach (I := fun _ => True) (fun _ _ _ => trivial)
      (fun g h t hgh => grp_withdrawClaim_of_ne id g h t hgh) g l hl s trivial).2 hg
    rw [hfu, ← hug]
    exact claimWithdrawn_withdrawClaim (by rw [hug]; exact hc) hid
  · clear hl
    induction l generalizing s with
    | nil => exact Nat.le_add_right _ _
    | cons g l ih =>
      have h1 := (withdrawClaim_work id g s hm).1
      have h2 := ih (withdrawClaim id g s) (by rw [withdrawClaim_frame]; exact hm)
      rw [forEach_cons, List.length_cons]
      omega
  · have hkeep := forEach_keeps
      (fun t : State => t.mode ≠ .clearing ∧ ∀ x ∈ t.work, x ∈ s.work ∨ ∀ v, idle v x) l (withdrawClaim id)
      (fun g _ t ht => ?_) s ⟨hm, fun x hx => .inl hx⟩
    · exact hkeep.2
    · obtain ⟨htm, htw⟩ := ht
      refine ⟨by rw [withdrawClaim_frame]; exact htm, fun x hx => ?_⟩
      rcases (withdrawClaim_work id g t htm).2 x hx with hx | hx
      · exact htw x hx
      · exact .inr hx
  · exact forEach_keeps (fun t => t = { s with groups := t.groups, lamps := t.lamps, work := t.work, order := t.order })
      l _ (fun g _ t ht => by rw [withdrawClaim_frame, ht]) s rfl

/-! ### The record that finishes (R52) -/

/-- What the end of a record leaves: its place in the table, its claims, and hand-offs of which nothing comes when
nothing else is live. -/
structure RecordFinished (k : SlotId) (r : TransRec) (st : TState) (cause : EndCause) (s t : State) : Prop where
  slot : Machine.slot t k = some { r with state := st, finishedAt := some s.now, endCause := some cause }
  slots : ∀ j, j ≠ k → Machine.slot t j = Machine.slot s j
  claims : r.state = .active → ∀ g, named r g = true → ∀ c, (grp s g).claim = some c → c.id = r.id →
    ClaimWithdrawn (grp s g) (grp t g)
  length : t.work.length ≤ s.work.length + 122
  work : ∀ x ∈ t.work, x ∈ s.work ∨ ∀ v, idle v x
  rest : t =
    { s with
      slots := t.slots, finishOrder := t.finishOrder, acceptOrder := t.acceptOrder, groups := t.groups,
      lamps := t.lamps, work := t.work, order := t.order }

theorem recordFinished {k : SlotId} {r : TransRec} {s : State} (hs : slot s k = some r) (hm : s.mode ≠ .clearing)
    (st : TState) (cause : EndCause) : RecordFinished k r st cause s (finishRecord k st cause s) := by
  unfold finishRecord
  rw [hs]
  dsimp only
  generalize hu : ({ s with
      slots := put s.slots k (some { r with state := st, finishedAt := some s.now, endCause := some cause })
      finishOrder := s.finishOrder.filter (· != k) ++ [k]
      acceptOrder := s.acceptOrder.filter (· != k) } : State) = u
  have huslot : ∀ j, slot u j =
      if k = j then some { r with state := st, finishedAt := some s.now, endCause := some cause } else slot s j := by
    intro j
    rw [← hu]
    exact look_put _ _ _ _
  have hurest : u = { s with slots := u.slots, finishOrder := u.finishOrder, acceptOrder := u.acceptOrder } := by
    rw [← hu]
  have hl24 : (allGroups.filter (named r)).length ≤ 24 := length_le_of_nodup (nodup_allGroups.filter _)
  have hw := claimsWithdrawn r.id (allGroups.filter (named r)) (nodup_allGroups.filter _) u
    (by rw [hurest]; exact hm)
  generalize forEach (allGroups.filter (named r)) (withdrawClaim r.id) u = w at hw ⊢
  have hv : ∃ v, v = (if r.state = .active then w else u) ∧
      v = { u with groups := v.groups, lamps := v.lamps, work := v.work, order := v.order } ∧
      v.work.length ≤ s.work.length + 120 ∧ ∀ x ∈ v.work, x ∈ s.work ∨ ∀ v, idle v x := by
    have huw : u.work = s.work := by rw [hurest]
    refine ⟨_, rfl, ?_⟩
    split
    · refine ⟨hw.rest, ?_, fun x hx => by rw [← huw]; exact hw.work x hx⟩
      have := hw.length
      rw [huw] at this
      omega
    · exact ⟨rfl, by rw [huw]; omega, fun x hx => .inl (by rw [← huw]; exact hx)⟩
  obtain ⟨v, hv, hvrest, hvlen, hvwork⟩ := hv
  rw [← hv]
  have hvslot : ∀ j, slot (emitAll [.arbiterExamine, .slotFree] v) j = slot u j := fun j =>
    slot_congr (show v.slots = u.slots by rw [hvrest]) j
  refine ⟨(hvslot k).trans ((huslot k).trans (if_pos rfl)),
    fun j hj => (hvslot j).trans ((huslot j).trans (if_neg (Ne.symm hj))), fun ha g hg c hc hid => ?_, ?_,
    fun x hx => ?_, ?_⟩
  · rw [if_pos ha] at hv
    show ClaimWithdrawn (grp s g) (grp v g)
    rw [hv, ← grp_congr (s := s) (t := u) (by rw [hurest])]
    refine hw.claims g (by simp [hg]) c ?_ hid
    rw [grp_congr (s := s) (t := u) (by rw [hurest])]
    exact hc
  · show (v.work ++ _).length ≤ _
    rw [List.length_append]
    simp only [List.length_cons, List.length_nil]
    omega
  · rcases List.mem_append.1 hx with hx | hx
    · exact hvwork x hx
    · refine .inr fun _ => ?_
      rcases List.mem_cons.1 hx with rfl | hx
      · trivial
      · rw [List.mem_singleton.1 hx]
        trivial
  · show ({ v with work := _ } : State) = _
    rw [hvrest, hurest]
    rfl

/-! ### The cancellation (R41, R54) -/

/-- The end cause of a cancellation that a role has the right to. -/
def cancelCause (role : Role) (r : TransRec) : EndCause :=
  if r.origin = .role role then .originCancel else .centralCancel

/-- A cancellation by its origin, or by CENTRAL, of a record that is not a tram's: the origin has the notice unless it
is the one that cancels. -/
theorem handCancelled_eq {role : Role} {r : TransRec} (hcls : r.cls ≠ .tram) (s : State) :
    handCancelled r (cancelCause role r) s = if r.origin = .role role then s else noticeOrigin r s := by
  unfold handCancelled cancelCause
  by_cases ho : r.origin = .role role
  · cases hc : r.cls with
    | tram => exact absurd hc hcls
    | plan => simp [ho]
    | central => simp [ho]
  · cases hc : r.cls with
    | tram => exact absurd hc hcls
    | plan => simp [ho]
    | central => simp [ho]

/-- The id names the slot of the one live record that holds it. -/
theorem liveSlotOf_of_only {s : State} {k : SlotId} {r : TransRec} {id : Byte} (hk : slot s k = some r)
    (hl : isLive r = true) (hid : r.id = id) (honly : ∀ j q, j ≠ k → slot s j = some q → isLive q = false) :
    liveSlotOf s id = some k := by
  unfold liveSlotOf
  cases hf : allSlots.find? fun k => (slot s k).any fun r => isLive r && r.id == id with
  | none =>
    have := List.find?_eq_none.1 hf k (List.mem_finRange k)
    simp [hk, hl, hid] at this
  | some j =>
    have hj := List.find?_some hf
    simp only [Option.any_eq_true, Bool.and_eq_true] at hj
    obtain ⟨q, hq, hql, _⟩ := hj
    by_cases hjk : j = k
    · rw [hjk]
    · rw [honly j q hjk hq] at hql
      cases hql

theorem liveSlotOf_of_none {s : State} {id : Byte} (h : ∀ k r, slot s k = some r → isLive r = true → r.id ≠ id) :
    liveSlotOf s id = none := by
  unfold liveSlotOf
  rw [List.find?_eq_none]
  intro k _
  simp only [Option.any_eq_true, Bool.and_eq_true, beq_iff_eq, not_exists, not_and]
  exact fun r hr hl => h k r hr hl

@[simp] theorem repliedLink_slot (reply : Reply) (l : LinkRec) : (repliedLink reply l).slot = slotOf reply false := by
  unfold repliedLink
  split <;> rfl

@[simp] theorem repliedLink_seen (reply : Reply) (l : LinkRec) : (repliedLink reply l).seen = true := by
  unfold repliedLink
  split <;> rfl

/-- The links after the reply of a request. -/
theorem link_superviseRestart (role : Role) (code : ReplyCode) (s : State) (r : Role) :
    link (superviseRestart role code s) r = link s r := by
  unfold superviseRestart
  split <;> rfl

/-- What the owner of a rightful cancellation leaves: the finished record, and the notice of its origin. -/
structure Cancelled (role : Role) (k : SlotId) (r : TransRec) (s f u : State) : Prop where
  finished : RecordFinished k r .cancelled (cancelCause role r) s f
  handed : u = if r.origin = .role role then f else noticeOrigin r f

theorem Cancelled.frame {role : Role} {k : SlotId} {r : TransRec} {s f u : State} (h : Cancelled role k r s f u) :
    u = { f with links := u.links } := by
  rw [h.handed]
  split
  · rfl
  · exact noticeOrigin_frame r f

theorem Cancelled.link_origin {role : Role} {k : SlotId} {r : TransRec} {s f u : State} (h : Cancelled role k r s f u)
    (origin : Role) (ho : r.origin = .role origin) (hne : origin ≠ role) :
    link u origin = noticedLink .transition true (link s origin) := by
  have hrole : r.origin ≠ .role role := by
    rw [ho]
    exact fun hr => hne (Origin.role.inj hr)
  rw [h.handed, if_neg hrole, link_noticeOrigin, link_congr (s := s) (t := f) (by rw [h.finished.rest]), ho]
  simp

theorem cancelled_cancelRecord {role : Role} {k : SlotId} {r : TransRec} {s : State} (hs : slot s k = some r)
    (hl : isLive r = true) (hcls : r.cls ≠ .tram) (hm : s.mode ≠ .clearing) :
    ∃ f, Cancelled role k r s f (cancelRecord (cancelCause role r) k s) := by
  refine ⟨finishRecord k .cancelled (cancelCause role r) s, recordFinished hs hm _ _, ?_⟩
  unfold cancelRecord
  rw [hs]
  dsimp only
  rw [if_pos hl, handCancelled_eq hcls]

/-- Nothing is live once the only live record is cancelled. -/
theorem Cancelled.still {role : Role} {k : SlotId} {r : TransRec} {s f u : State} (h : Cancelled role k r s f u)
    (honly : ∀ j q, j ≠ k → slot s j = some q → isLive q = false) (hc : s.commit ≠ .waitingApply)
    (htrams : ∀ j, tram s j = none) : Still u where
  records j q hq := by
    rw [slot_congr (s := f) (t := u) (by rw [h.frame])] at hq
    by_cases hjk : j = k
    · rw [hjk, h.finished.slot] at hq
      obtain rfl := Option.some.inj hq
      rfl
    · rw [h.finished.slots j hjk] at hq
      exact honly j q hjk hq
  trams j := by
    rw [tram_congr (s := s) (t := u) (by rw [h.frame, h.finished.rest])]
    exact htrams j
  commit := by
    rw [h.frame, h.finished.rest]
    exact hc

/-- Settles O48: the refusals, and the end of the one live record. -/
theorem cancelEndsALiveTransition : Obligations.CancelEndsALiveTransition := by
  intro role id s hrole h
  have hgrant : planOrCentral role = true := by rcases hrole with rfl | rfl <;> rfl
  have hexec : exec (.cancelTransition role [id]) s =
      .next (takeRequest role true [id] (cancelTransitionOwner role [id]) s) := by
    rw [← hgrant]
    rfl
  refine ⟨fun hnone => ⟨_, hexec, ?_⟩, fun k r hk hl hid honly => ?_⟩
  · refine takeRequest_refused h ?_
    simp only [cancelTransitionOwner, show liveSlotOf (setSeen role s) id = none from liveSlotOf_of_none hnone]
  have hslot : liveSlotOf (setSeen role s) id = some k := liveSlotOf_of_only (s := setSeen role s) hk hl hid honly
  have hk' : slot (setSeen role s) k = some r := hk
  refine ⟨fun ho hc => ⟨_, hexec, ?_⟩, fun hright hcls hm hcommit htrams => ⟨_, hexec, ?_⟩⟩
  · refine takeRequest_replied role [id] _ _ s s h ?_ h.work
    simp only [cancelTransitionOwner, hslot, hk', Option.bind_some, cancelRight, if_neg ho, if_neg hc, refuse]
  obtain ⟨f, hcancelled⟩ := cancelled_cancelRecord (role := role) hk' hl hcls hm
  have ho : cancelTransitionOwner role [id] (setSeen role s) =
      (cancelRecord (cancelCause role r) k (setSeen role s), plain .done) := by
    have hcause : cancelRight role r = some (cancelCause role r) := by
      unfold cancelRight cancelCause
      split
      · rfl
      · next hor => rw [if_pos (hright.resolve_left hor)]
    simp only [cancelTransitionOwner, hslot, hk', Option.bind_some, hcause]
  generalize cancelRecord (cancelCause role r) k (setSeen role s) = u at hcancelled ho
  have hframe := hcancelled.frame
  have hfin := hcancelled.finished
  have hwork : (setSeen role s).work = [] := h.work
  have huwork : u.work = f.work := by rw [hframe]
  have hseen : (link u role).seen = true := by
    have hf : link f role = link (setSeen role s) role := link_congr (by rw [hfin.rest]) role
    rw [hcancelled.handed]
    split
    · rw [hf]; simp [setSeen]
    · rw [link_noticeOrigin, noticedLink_seen, hf]; simp [setSeen]
  rw [takeRequest_of_idle h ho hseen (hcancelled.still honly hcommit htrams)
    (by
      have := hfin.length
      rw [hwork] at this
      rw [huwork]
      exact this.trans (by decide))
    fun x hx => (hfin.work x (by rwa [huwork] at hx)).resolve_left (by rw [hwork]; exact List.not_mem_nil)]
  generalize ht : superviseRestart role (plain ReplyCode.done).code
    (modLink role (repliedLink (plain .done)) { u with work := [] }) = t
  have htframe : t = { u with work := [], links := t.links, supervision := t.supervision } := by
    rw [← ht, superviseRestart_eq]
    rfl
  have htlink : ∀ x, link t x = if role = x then repliedLink (plain .done) (link u role) else link u x := by
    intro x
    rw [← ht, link_superviseRestart, link_modLink]
    rfl
  have htslot : ∀ j, slot t j = slot f j := slot_congr (by rw [htframe, hframe])
  have htgrp : ∀ g, grp t g = grp f g := grp_congr (by rw [htframe, hframe])
  refine ⟨⟨?_, ?_⟩, ?_, fun j hj => ?_, fun ha g hg c hc hcid => ?_, fun origin horigin hne hs => ?_⟩
  · rw [htlink, if_pos rfl, repliedLink_slot]
    rfl
  · rw [htlink, if_pos rfl, repliedLink_seen]
  · rw [htslot, hfin.slot]
    rfl
  · rw [htslot, hfin.slots j hj]
    rfl
  · have hw := hfin.claims ha g hg c hc (by rw [hcid, hid])
    rw [htgrp]
    exact ⟨hw.claim, hw.waiting, hw.other⟩
  · have hne' : role ≠ origin := Ne.symm hne
    unfold hasNotice
    rw [htlink, if_neg hne', hcancelled.link_origin origin horigin hne]
    simp [setSeen, hne', noticedLink, hs]

end Sys2Proof.Machine
end

section
/-! PROOF. A TRANSITION that releases one red group of a quiet junction: the latest term of R28, the activation of the
only record (R44, R45) and the scheduling of its group (R48). -/

namespace Sys2Proof.Machine

open Sys2Proof

/-! ### The latest term (R2, R28) -/

/-- How far a time stands after the oldest age that R8 keeps. -/
def offset (now x : Time) : Nat := (x - (now - 65535#32)).toNat

/-- A time no older than R8 keeps, or at most a configured byte ahead of now. -/
def Recent (now x : Time) : Prop := offset now x ≤ 65535 + 255

/-- Recent times are compared by their offsets. -/
theorem atOrAfter_iff_offset {now a b : Time} (ha : Recent now a) (hb : Recent now b) :
    atOrAfter a b = true ↔ offset now b ≤ offset now a := by
  unfold Recent offset at *
  rw [atOrAfter, decide_eq_true_iff]
  simp only [BitVec.toNat_sub, BitVec.toNat_ofNat] at *
  omega

theorem recent_plusDs {now x : Time} {d : Nat} (hx : age now x ≤ 65535) (hd : d ≤ 255) : Recent now (plusDs x d) := by
  unfold Recent offset plusDs age at *
  simp only [BitVec.toNat_sub, BitVec.toNat_add, BitVec.toNat_ofNat] at *
  omega

/-- The later of two recent times is one of them and at or after both. -/
theorem later_spec {now a b : Time} (ha : Recent now a) (hb : Recent now b) :
    (later a b = a ∨ later a b = b) ∧ atOrAfter (later a b) a = true ∧ atOrAfter (later a b) b = true := by
  have hself : ∀ x : Time, atOrAfter x x = true := by
    intro x
    simp [atOrAfter]
  unfold later
  cases hab : after a b with
  | true =>
    rw [if_pos rfl]
    have : atOrAfter a b = true := by
      rw [after, Bool.and_eq_true] at hab
      exact hab.1
    exact ⟨.inl rfl, hself a, this⟩
  | false =>
    rw [if_neg Bool.false_ne_true]
    refine ⟨.inr rfl, ?_, hself b⟩
    rw [after, Bool.and_eq_false_iff] at hab
    rcases hab with h | h
    · rw [atOrAfter_iff_offset hb ha]
      have : ¬ offset now b ≤ offset now a := fun hle => by
        rw [(atOrAfter_iff_offset ha hb).2 hle] at h
        cases h
      omega
    · rw [bne_eq_false_iff_eq] at h
      rw [h]
      exact hself b

/-- The latest of a list of recent times is one of them and at or after all (R28). -/
theorem foldl_later_spec {now : Time} (l : List Time) : ∀ a, Recent now a → (∀ x ∈ l, Recent now x) →
    (l.foldl later a = a ∨ l.foldl later a ∈ l) ∧ Recent now (l.foldl later a) ∧
      atOrAfter (l.foldl later a) a = true ∧ ∀ x ∈ l, atOrAfter (l.foldl later a) x = true := by
  induction l with
  | nil => exact fun a ha _ => ⟨.inl rfl, ha, by simp [atOrAfter], by simp⟩
  | cons b l ih =>
    intro a ha hl
    have hb := hl b List.mem_cons_self
    obtain ⟨hone, hla, hlb⟩ := later_spec ha hb
    have hrec : Recent now (later a b) := by rcases hone with h | h <;> rw [h] <;> assumption
    obtain ⟨hmem, hr, hge, hall⟩ := ih (later a b) hrec fun x hx => hl x (List.mem_cons_of_mem b hx)
    rw [List.foldl_cons]
    have htrans : ∀ x, Recent now x → atOrAfter (later a b) x = true →
        atOrAfter (l.foldl later (later a b)) x = true := by
      intro x hx h
      rw [atOrAfter_iff_offset hr hx]
      rw [atOrAfter_iff_offset hrec hx] at h
      rw [atOrAfter_iff_offset hr hrec] at hge
      exact h.trans hge
    refine ⟨?_, hr, htrans a ha hla, fun x hx => ?_⟩
    · rcases hmem with h | h
      · rcases hone with h' | h'
        · exact .inl (h.trans h')
        · exact .inr (by rw [h, h']; exact List.mem_cons_self)
      · exact .inr (List.mem_cons_of_mem b h)
    · rcases List.mem_cons.1 hx with rfl | hx
      · exact htrans x hb hlb
      · exact hall x hx

/-- The terms of R28, as the model lists them. -/
theorem isGreenTerm_iff (s : State) (j : GroupId) (x : Time) :
    IsGreenTerm s j x ↔ x = plusDs s.now (prepareIn (cfg s) j) ∨ x ∈ greenTerms s j := by
  have hred : x ∈ (minimumRedTerm s j).toList ↔
      ∃ r, (grp s j).redEntry = some r ∧ x = plusDs r (minRedIn (cfg s) j) := by
    rw [Option.mem_toList, minimumRedTerm, Option.map_eq_some_iff]
    exact exists_congr fun r => and_congr_right fun _ => eq_comm
  have hig : x ∈ allGroups.filterMap (intergreenTerm s j) ↔
      ∃ i e, conflicts s i j = true ∧ (grp s i).greenEnd = some e ∧ x = plusDs e (igIn (cfg s) i j) := by
    simp only [List.mem_filterMap, mem_allGroups, true_and, intergreenTerm]
    refine exists_congr fun i => ?_
    split
    · next hc =>
      rw [Option.map_eq_some_iff]
      exact exists_congr fun e => by simp [hc, eq_comm]
    · next hc => simp [hc]
  rw [IsGreenTerm, greenTerms, List.mem_append, hred, hig]

/-- The scheduled green is the latest term, when no stamp is older than R8 keeps it (R28, R29). -/
theorem scheduledGreen_spec {s : State} {j : GroupId}
    (hend : ∀ i e, (grp s i).greenEnd = some e → age s.now e ≤ 65535)
    (hred : ∀ r, (grp s j).redEntry = some r → age s.now r ≤ 65535) :
    IsGreenTerm s j (scheduledGreen s j) ∧ ∀ x, IsGreenTerm s j x → atOrAfter (scheduledGreen s j) x = true := by
  have hbyte : ∀ b : Byte, b.toNat ≤ 255 := fun b => Nat.le_of_lt_succ b.isLt
  have hprepare : prepareIn (cfg s) j ≤ 255 := by
    unfold prepareIn
    split
    · exact Nat.zero_le _
    · exact hbyte _
  have hnow : age s.now s.now ≤ 65535 := by simp [age]
  have hterm : ∀ x, IsGreenTerm s j x → Recent s.now x := by
    rintro x (rfl | ⟨r, hr, rfl⟩ | ⟨i, e, _, he, rfl⟩)
    · exact recent_plusDs hnow hprepare
    · exact recent_plusDs (hred r hr) (hbyte _)
    · exact recent_plusDs (hend i e he) (hbyte _)
  have hfirst : IsGreenTerm s j (plusDs s.now (prepareIn (cfg s) j)) := .inl rfl
  obtain ⟨hmem, _, hge, hall⟩ := foldl_later_spec (greenTerms s j) _ (hterm _ hfirst)
    fun x hx => hterm x ((isGreenTerm_iff s j x).2 (.inr hx))
  refine ⟨?_, fun x hx => ?_⟩
  · rw [isGreenTerm_iff]
    exact hmem
  · rcases (isGreenTerm_iff s j x).1 hx with rfl | hx
    · exact hge
    · exact hall x hx

/-! ### The only record of a junction (R43 to R45) -/

/-- A pass in which one element alone has something done. -/
theorem forEach_single {α : Type} [DecidableEq α] {I : State → Prop} {f : α → State → State} {g : α}
    (hf : ∀ j s, j ≠ g → I s → f j s = s) (l : List α) (hl : l.Nodup) :
    ∀ s, I s → I (f g s) → forEach l f s = if g ∈ l then f g s else s := by
  induction l with
  | nil => exact fun s _ _ => rfl
  | cons a l ih =>
    intro s hs hg
    obtain ⟨ha, hl'⟩ := List.nodup_cons.1 hl
    rw [forEach_cons]
    by_cases hag : a = g
    · subst hag
      have hrest : ∀ t, I t → forEach l f t = t := fun t ht => by
        clear ih hl hl' hs hg
        induction l with
        | nil => rfl
        | cons b l ih =>
          rw [forEach_cons, hf b t (fun h => ha (h ▸ List.mem_cons_self)) ht]
          exact ih fun h => ha (List.mem_cons_of_mem b h)
      rw [hrest _ hg, if_pos List.mem_cons_self]
    · rw [hf a s hag hs, ih hl' s hs hg]
      by_cases hgl : g ∈ l
      · rw [if_pos hgl, if_pos (List.mem_cons_of_mem a hgl)]
      · rw [if_neg hgl, if_neg fun h => by
          rcases List.mem_cons.1 h with h | h
          · exact hag h.symm
          · exact hgl h]

/-- A junction in NORMAL whose one live record is QUEUED and releases one red group that nothing keeps. -/
structure OneQueued (k : SlotId) (r : TransRec) (g : GroupId) (s : State) : Prop where
  slot : Machine.slot s k = some r
  queued : r.state = .queued
  item : ∀ j, itemOf r j = if j = g then some { kind := .release, outcome := .waiting } else none
  others : ∀ j q, j ≠ k → Machine.slot s j = some q → isLive q = false
  order : liveInOrder s = [k]
  mode : s.mode = .normal
  red : (grp s g).state = .red
  unscheduled : (grp s g).schedule = none
  allowed : (grp s g).inhibited = false
  claims : ∀ h, (grp s h).claim = none
  terms : ∀ h, (grp s h).pendingTerm = none
  free : ∀ i, conflicts s i g = true → inProceed s i = false ∧ (grp s i).redLost = false

/-- The record as it becomes ACTIVE. -/
def activated (r : TransRec) : TransRec := { r with state := .active }

/-- The group with the claim of the record's release item (R45). -/
def claimFor (id : TransId) (r : GroupRec) : GroupRec := { r with claim := some { id := id, kind := .release } }

/-- The record passes the conditions of R44. -/
theorem OneQueued.mayActivate {k : SlotId} {r : TransRec} {g : GroupId} {s : State} (h : OneQueued k r g s) :
    Machine.mayActivate s [] r = true := by
  have hlive : ∀ q ∈ liveRecs s, q.state ≠ .active := by
    intro q hq
    obtain ⟨j, _, hj⟩ := List.mem_filterMap.1 hq
    obtain ⟨hslot, hl⟩ := Option.filter_eq_some_iff.1 hj
    by_cases hjk : j = k
    · rw [hjk, h.slot] at hslot
      obtain rfl := Option.some.inj hslot
      rw [h.queued]
      decide
    · rw [h.others j q hjk hslot] at hl
      cases hl
  have hred : ∀ j, named r j = false ∨ (grp s j).state ≠ .prepare := by
    intro j
    by_cases hj : j = g
    · right
      rw [hj, h.red]
      decide
    · left
      simp [named, h.item, hj]
  simp only [Machine.mayActivate, Bool.and_eq_true, List.all_eq_true, Bool.or_eq_true, Bool.not_eq_true',
    bne_iff_ne, Option.isNone_iff_eq_none]
  exact ⟨⟨⟨fun j _ => .inr (h.claims j), fun q hq => .inl (hlive q hq)⟩, fun q hq => absurd hq List.not_mem_nil⟩,
    fun j _ => hred j⟩

/-- The items of the record are settled: its group alone has its claim and enters RED_WAIT (R45). -/
theorem OneQueued.settleItems {k : SlotId} {r : TransRec} {g : GroupId} {s : State} (h : OneQueued k r g s) :
    forEach allGroups (settleItem k) (modSlot k activated s) =
      enterState g .redWait (Machine.modGroup g (claimFor r.id) (modSlot k activated s)) := by
  have hslot : Machine.slot (modSlot k activated s) k = some (activated r) := by
    rw [slot_modSlot, if_pos rfl, h.slot]
    rfl
  have hg : settleItem k g (modSlot k activated s) =
      enterState g .redWait (Machine.modGroup g (claimFor r.id) (modSlot k activated s)) := by
    have hitem : itemOf (activated r) g = some { kind := .release, outcome := .waiting } :=
      (h.item g).trans (if_pos rfl)
    have hgreen : isGreen (modSlot k activated s) g = false := by simp [isGreen, h.red]
    have hred : (grp (modSlot k activated s) g).state = .red := h.red
    simp only [settleItem, hslot, hitem, hgreen, hred, if_true, Bool.false_eq_true, if_false]
    rfl
  rw [forEach_single (I := fun t => Machine.slot t k = some (activated r)) (g := g) (fun j t hj ht => ?_) allGroups
    nodup_allGroups _ hslot, if_pos (mem_allGroups g), hg]
  · rw [hg, slot_congr (enterState_slots _ _ _)]
    exact hslot
  · have hitem : itemOf (activated r) j = none := (h.item j).trans (if_neg hj)
    simp only [settleItem, ht, hitem]

/-- The junction once the record is ACTIVE and its group in RED_WAIT. -/
def activatedState (k : SlotId) (r : TransRec) (g : GroupId) (s : State) : State :=
  enterState g .redWait (Machine.modGroup g (claimFor r.id) (modSlot k activated s))

theorem grp_activatedState (k : SlotId) (r : TransRec) (g h : GroupId) (s : State) :
    grp (activatedState k r g s) h =
      if g = h then enteredRecord s.now .redWait (claimFor r.id (grp s g)) else grp s h := by
  unfold activatedState
  rw [grp_enterState]
  by_cases hg : g = h <;> simp [hg]

theorem activatedState_frame (k : SlotId) (r : TransRec) (g : GroupId) (s : State) :
    activatedState k r g s =
      { s with
        slots := (modSlot k activated s).slots
        groups := (activatedState k r g s).groups, lamps := (activatedState k r g s).lamps,
        work := (activatedState k r g s).work, order := (activatedState k r g s).order } := by
  unfold activatedState
  rw [enterState_frame]
  rfl

theorem OneQueued.slot_activatedState {k : SlotId} {r : TransRec} {g : GroupId} {s : State} (h : OneQueued k r g s)
    (j : SlotId) :
    Machine.slot (activatedState k r g s) j = if k = j then some (activated r) else Machine.slot s j := by
  rw [slot_congr (s := modSlot k activated s) (by rw [activatedState_frame]), slot_modSlot]
  split
  · rw [h.slot]
    rfl
  · rfl

/-- No red near the group is lost, so nothing is dropped from the record (R50). -/
theorem OneQueued.dropLostReleases {k : SlotId} {r : TransRec} {g : GroupId} {s : State} (h : OneQueued k r g s) :
    Machine.dropLostReleases k (activatedState k r g s) = activatedState k r g s := by
  refine forEach_id _ _ _ fun j _ => ?_
  have hslot := (h.slot_activatedState k).trans (if_pos rfl)
  rw [if_neg]
  simp only [Bool.and_eq_true, not_and, Bool.not_eq_true]
  intro hwaiting
  obtain rfl : j = g := by
    by_contra hj
    have hitem : itemOf (activated r) j = none := (h.item j).trans (if_neg hj)
    simp [waitingRelease, hslot, hitem] at hwaiting
  unfold lostNear
  rw [List.any_eq_false]
  intro i _
  have hlost : (grp (activatedState k r j s) i).redLost = (grp s i).redLost := by
    rw [grp_activatedState]
    split
    · next hi =>
      rw [enteredRecord_redLost, ← hi]
      rfl
    · rfl
  rw [conflicts_congr (s := s) (by rw [activatedState_frame]), hlost]
  cases hc : conflicts s i j with
  | false => simp
  | true => simp [(h.free i hc).2]

/-- The activation of the record, which waits for its one group (R45). -/
theorem OneQueued.activate {k : SlotId} {r : TransRec} {g : GroupId} {s : State} (h : OneQueued k r g s) :
    Machine.activate k s = activatedState k r g s := by
  have hslot := (h.slot_activatedState k).trans (if_pos rfl)
  have hwaiting : hasWaiting (activated r) = true :=
    (hasWaiting_iff _).2 ⟨g, { kind := .release, outcome := .waiting }, (h.item g).trans (if_pos rfl), rfl⟩
  have hplaced : takePlaced r.id (activatedState k r g s) = activatedState k r g s := by
    refine forEach_id _ _ _ fun j _ => ?_
    have hterm : (grp (activatedState k r g s) j).pendingTerm = none := by
      rw [grp_activatedState]
      split
      · unfold enteredRecord
        split <;> exact h.terms g
      · exact h.terms j
    rw [if_neg]
    simp [pendingOf, hterm]
  show Machine.activate k s = _
  simp only [Machine.activate, h.slot]
  rw [show (fun q : TransRec => { q with state := TState.active }) = activated from rfl, h.settleItems,
    show enterState g .redWait (Machine.modGroup g (claimFor r.id) (modSlot k activated s)) =
      activatedState k r g s from rfl, h.dropLostReleases, hplaced, completeIfDone_of_waiting hslot hwaiting]

/-- The one group that may be scheduled (R48). -/
theorem OneQueued.maySchedule_activatedState {k : SlotId} {r : TransRec} {g : GroupId} {s : State}
    (h : OneQueued k r g s) (j : GroupId) : maySchedule (activatedState k r g s) j = decide (j = g) := by
  have hactive : (activatedState k r g s).active = s.active := by rw [activatedState_frame]
  have hown : grp (activatedState k r g s) g =
      { claimFor r.id (grp s g) with state := .redWait, enteredAt := s.now } := by
    rw [grp_activatedState, if_pos rfl, enteredRecord, if_neg]
    show (grp s g).state ≠ _
    rw [h.red]
    decide
  have hother : ∀ i, i ≠ g → grp (activatedState k r g s) i = grp s i := fun i hi => by
    rw [grp_activatedState, if_neg (Ne.symm hi)]
  by_cases hj : j = g
  · subst hj
    rw [decide_eq_true rfl, maySchedule_iff]
    refine ⟨⟨by rw [hown], by rw [hown]; exact h.unscheduled, k, activated r,
      (h.slot_activatedState k).trans (if_pos rfl), rfl, by rw [hown]; rfl⟩, fun i hi => ?_,
      by rw [hown]; exact h.allowed⟩
    rw [conflicts_congr hactive] at hi
    by_cases hig : i = j
    · rw [hig, inProceed, hown]
      exact ⟨rfl, (h.free j (hig ▸ hi)).2⟩
    · rw [inProceed, hother i hig]
      exact h.free i hi
  · rw [decide_eq_false hj, Bool.eq_false_iff]
    intro hm
    obtain ⟨_, q, _, _, hclaim⟩ := ((maySchedule_iff _ j).1 hm).1.claim
    rw [hother j hj, h.claims j] at hclaim
    cases hclaim

/-- When one group alone may be scheduled, its record alone is written (R48). -/
theorem examineScheduling_single (s : State) (g : GroupId) (h : ∀ j, maySchedule s j = decide (j = g)) :
    examineScheduling s = Machine.modGroup g (fun q => { q with schedule := some (earliestGreen s g) }) s := by
  have hgroups : tabulate (examinedRecord s) =
      (Machine.modGroup g (fun q => { q with schedule := some (earliestGreen s g) }) s).groups := by
    refine table_ext fun j => ?_
    show _ = grp (Machine.modGroup g (fun q => { q with schedule := some (earliestGreen s g) }) s) j
    rw [look_tabulate, examinedRecord, h, grp_modGroup]
    by_cases hj : j = g
    · simp [hj]
    · rw [if_neg (Ne.symm hj), decide_eq_false hj]
      rfl
  rw [examineScheduling_eq, hgroups]
  rfl

/-- The junction with its group scheduled. -/
def scheduledState (k : SlotId) (r : TransRec) (g : GroupId) (s : State) : State :=
  Machine.modGroup g (fun q => { q with schedule := some (earliestGreen s g) }) (activatedState k r g s)

/-- The arbiter's examination activates the record and schedules its group (R44, R45, R48). -/
theorem OneQueued.examineArbiter {k : SlotId} {r : TransRec} {g : GroupId} {s : State} (h : OneQueued k r g s) :
    Machine.examineArbiter s = scheduledState k r g s := by
  have hqueue : queueOrder s = [k] := by
    unfold queueOrder
    rw [h.order]
    rfl
  have hearliest : earliestGreen (activatedState k r g s) g = earliestGreen s g := by
    refine earliestGreen_congr g (by rw [activatedState_frame]) (by rw [activatedState_frame]) ?_ fun i => ?_
    · rw [grp_activatedState, if_pos rfl]
      unfold enteredRecord
      split <;> rfl
    · rw [grp_activatedState]
      split
      · next hi =>
        rw [← hi]
        unfold enteredRecord
        split <;> rfl
      · rfl
  unfold Machine.examineArbiter
  rw [if_pos h.mode, hqueue]
  simp only [activationPass, h.slot, if_pos h.queued, h.mayActivate, if_true]
  rw [h.activate, examineScheduling_single _ g h.maySchedule_activatedState, hearliest]
  rfl

/-- Nothing follows the scheduling: the group's entry to RED_WAIT finds the arbiter done (R9, R48). -/
theorem OneQueued.work_scheduledState {k : SlotId} {r : TransRec} {g : GroupId} {s : State} (h : OneQueued k r g s)
    (hw : s.work = []) (hc : s.commit ≠ .waitingApply) :
    (scheduledState k r g s).work.length ≤ 5 ∧
      ∀ x ∈ (scheduledState k r g s).work, Inert (scheduledState k r g s) x := by
  have hne : (grp (Machine.modGroup g (claimFor r.id) (modSlot k activated s)) g).state ≠ .redWait := by
    rw [grp_modGroup, if_pos rfl]
    show (grp s g).state ≠ _
    rw [h.red]
    decide
  have hwork : (scheduledState k r g s).work =
      (neighbourOrder s).filterMap
        (entryHandoff (Machine.modGroup g (claimFor r.id) (modSlot k activated s)) g .redWait) := by
    show (enterState g .redWait (Machine.modGroup g (claimFor r.id) (modSlot k activated s))).work = _
    rw [enterState_work g .redWait _ hne]
    show s.work ++ _ = _
    rw [hw]
    rfl
  have hqueued : ∀ j q, Machine.slot (scheduledState k r g s) j = some q → q.state ≠ .queued := by
    intro j q hq
    have hq' : Machine.slot (activatedState k r g s) j = some q := hq
    rw [h.slot_activatedState] at hq'
    split at hq'
    · obtain rfl := Option.some.inj hq'
      simp [activated]
    · next hkj =>
      have := h.others j q (Ne.symm hkj) hq'
      intro hqq
      simp [isLive, hqq] at this
  have hmay : ∀ j, maySchedule (scheduledState k r g s) j = false := by
    intro j
    rw [Bool.eq_false_iff]
    intro hm
    obtain ⟨_, hsch, _, q, _, _, hclaim⟩ := ((maySchedule_iff _ j).1 hm).1
    by_cases hj : j = g
    · rw [hj, scheduledState, grp_modGroup, if_pos rfl] at hsch
      cases hsch
    · rw [scheduledState, grp_modGroup, if_neg (Ne.symm hj), grp_activatedState, if_neg (Ne.symm hj),
        h.claims j] at hclaim
      cases hclaim
  refine ⟨?_, fun x hx => ?_⟩
  · rw [hwork]
    exact length_handedOn_le s _
  · rw [hwork] at hx
    obtain ⟨n, hn⟩ := exists_of_mem_handedOn hx
    rcases entryHandoff_eq_some hn with ⟨_, rfl⟩ | ⟨_, _, hst⟩ | ⟨_, _, hcommit⟩ | ⟨_, _, hm, _⟩ | ⟨_, _, hst⟩
    · exact examineArbiter_of_none { scheduledState k r g s with work := [] } hqueued hmay
    · simp at hst
    · exact absurd hcommit hc
    · rw [show (Machine.modGroup g (claimFor r.id) (modSlot k activated s)).mode = .normal from h.mode] at hm
      cases hm
    · cases hst

/-! ### The acceptance (R37, R38) -/

/-- A quiet junction has a place for a record (R35, R37). -/
theorem freeSlot_of_quiet {s : State} (hq : Quiet s) (hf : FinishLaw s) : ∃ k, freeSlot s = some k := by
  unfold freeSlot
  cases hfind : allSlots.find? fun k => (slot s k).isNone with
  | some k => exact ⟨k, rfl⟩
  | none =>
    have hall := List.find?_eq_none.1 hfind 0 (List.mem_finRange 0)
    rw [Option.isNone_iff_eq_none] at hall
    obtain ⟨r, hr⟩ := Option.ne_none_iff_exists'.1 hall
    have hmem := (hf 0).2 ⟨r, hr, hq.records 0 r hr⟩
    cases hl : s.finishOrder with
    | nil => rw [hl] at hmem; cases hmem
    | cons k rest => exact ⟨k, rfl⟩

/-- The record of an accepted release of one group (R34, R38). -/
def releaseRecord (role : Role) (g : GroupId) (s : State) : TransRec :=
  { id := nextId s, cls := requestClass role, origin := .role role, items := newItems [] [g],
    hadRelease := true, tram := none, acceptedAt := s.now, state := .queued, finishedAt := none, endCause := none }

theorem itemOf_releaseRecord (role : Role) (g j : GroupId) (s : State) :
    itemOf (releaseRecord role g s) j = if j = g then some { kind := .release, outcome := .waiting } else none := by
  simp [itemOf, releaseRecord, newItems]

/-- The release passes the checks of R37 in a quiet junction. -/
theorem transitionOwner_release {role : Role} {g : GroupId} {s : State} {k : SlotId} (hq : Quiet s)
    (hm : s.mode = .normal) (hk : freeSlot s = some k) (hu : used s g = true) (hinh : (grp s g).inhibited = false)
    (hself : conflicts s g g = false) (hfree : ∀ i, conflicts s i g = true → inProceed s i = false) :
    transitionOwner role [0#8, groupByte g] s =
      (writeRecordAt k (requestClass role) (.role role) [] [g] none s, { code := .accepted, data := [nextId s] }) := by
  have hbytes : transitionBytes [0#8, groupByte g] = some ([], [groupByte g]) := rfl
  have hlists : transitionLists (used s) [] [groupByte g] = some ([], [g]) := by
    have hnamed : namedGroups [groupByte g] = some [g] := namedGroups_groupByte [g] (List.nodup_singleton g)
    simp [transitionLists, hnamed, hu]
  have hrf : releaseFree s [g] = true := by simp [releaseFree, hself]
  have hra : releaseAllowed s [g] = true := by simp [releaseAllowed, hinh]
  have hlive : liveRecs s = [] := hq.still.liveRecs
  have hcov : covered s [] [g] = true := by
    simp only [covered, List.all_eq_true, hlive, List.any_nil, Bool.or_false, Bool.or_eq_true, Bool.not_eq_true',
      List.any_cons]
    intro i _
    cases hc : conflicts s i g with
    | false => exact .inl (.inl rfl)
    | true => exact .inl (.inr (hfree i hc))
  have hroom : roomFor s = true := by simp [roomFor, cardRecords, hlive, hk]
  simp [transitionOwner, hbytes, hm, hlists, hrf, hra, hcov, hroom, acceptTransition, hk]

/-- The junction with the QUEUED record, before the arbiter examines it. -/
structure Accepted (role : Role) (k : SlotId) (g : GroupId) (s w : State) : Prop where
  slots : w.slots = put s.slots k (some (releaseRecord role g s))
  acceptOrder : w.acceptOrder = s.acceptOrder.filter (· != k) ++ [k]
  link : Machine.link w role = repliedLink { code := .accepted, data := [nextId s] } (Machine.link s role)
  rest : w =
    { s with
      slots := w.slots, acceptCounter := w.acceptCounter, finishOrder := w.finishOrder, acceptOrder := w.acceptOrder,
      links := w.links, supervision := w.supervision, work := [.arbiterExamine] }

theorem takeRequest_release {role : Role} {k : SlotId} {g : GroupId} {s : State}
    (h : Answerable role [0#8, groupByte g] s)
    (ho : transitionOwner role [0#8, groupByte g] (setSeen role s) =
      (writeRecordAt k (requestClass role) (.role role) [] [g] none (setSeen role s),
        { code := .accepted, data := [nextId s] })) :
    ∃ w, Accepted role k g s w ∧
      takeRequest role true [0#8, groupByte g] (transitionOwner role [0#8, groupByte g]) s = settled w := by
  refine ⟨_, ?_, takeRequest_eq h ho
    (show (link (setSeen role s) role).seen = true by simp [setSeen])⟩
  generalize hu : writeRecordAt k (requestClass role) (.role role) [] [g] none (setSeen role s) = u
  have hframe := superviseRestart_eq role ReplyCode.accepted
    (modLink role (repliedLink { code := .accepted, data := [nextId s] }) u)
  have hlink : link (superviseRestart role ReplyCode.accepted
      (modLink role (repliedLink { code := .accepted, data := [nextId s] }) u)) role =
      repliedLink { code := .accepted, data := [nextId s] } (link s role) := by
    rw [link_superviseRestart, link_modLink, if_pos rfl, ← hu]
    show repliedLink _ (link (setSeen role s) role) = _
    rw [setSeen, link_modLink, if_pos rfl, repliedLink_setSeen]
  generalize superviseRestart role ReplyCode.accepted
    (modLink role (repliedLink { code := .accepted, data := [nextId s] }) u) = w at hframe hlink
  refine ⟨by rw [hframe, ← hu]; rfl, by rw [hframe, ← hu]; rfl, hlink, ?_⟩
  have hwork : u.work = [.arbiterExamine] := by
    rw [← hu]
    show s.work ++ [.arbiterExamine] = _
    rw [h.work]
    rfl
  have hurest : u =
      { s with
        slots := u.slots, acceptCounter := u.acceptCounter, finishOrder := u.finishOrder, acceptOrder := u.acceptOrder,
        links := u.links, work := [.arbiterExamine] } := by
    rw [← hwork, ← hu]
    rfl
  rw [hframe, hurest]
  rfl

/-- The accepted record is the only one of a quiet junction. -/
theorem Accepted.oneQueued {role : Role} {k : SlotId} {g : GroupId} {s w : State} (h : Accepted role k g s w)
    (hq : Quiet s) (hm : s.mode = .normal) (hred : (grp s g).state = .red) (hsch : (grp s g).schedule = none)
    (hinh : (grp s g).inhibited = false) (hclaims : ∀ h, (grp s h).claim = none ∧ (grp s h).pendingTerm = none)
    (hfree : ∀ i, conflicts s i g = true → inProceed s i = false ∧ (grp s i).redLost = false) :
    OneQueued k (releaseRecord role g s) g { w with work := [] } := by
  have hslot : ∀ j, Machine.slot w j = if k = j then some (releaseRecord role g s) else Machine.slot s j := by
    intro j
    unfold Machine.slot
    rw [h.slots, look_put]
  have hgrp : ∀ j, grp w j = grp s j := grp_congr (by rw [h.rest])
  have hconf : ∀ i, conflicts w i g = conflicts s i g := fun i => conflicts_congr (by rw [h.rest]) i g
  refine
    { slot := (hslot k).trans (if_pos rfl)
      queued := rfl
      item := fun j => itemOf_releaseRecord role g j s
      others := fun j q hj hjq => hq.records j q ?_
      order := ?_
      mode := (show w.mode = _ by rw [h.rest]; exact hm)
      red := (congrArg GroupRec.state (hgrp g)).trans hred
      unscheduled := (congrArg GroupRec.schedule (hgrp g)).trans hsch
      allowed := (congrArg GroupRec.inhibited (hgrp g)).trans hinh
      claims := fun i => (congrArg GroupRec.claim (hgrp i)).trans (hclaims i).1
      terms := fun i => (congrArg GroupRec.pendingTerm (hgrp i)).trans (hclaims i).2
      free := fun i hi => ?_ }
  · have hjq' : Machine.slot w j = some q := hjq
    rwa [hslot, if_neg (Ne.symm hj)] at hjq'
  · show w.acceptOrder.filter (fun j => (Machine.slot w j).any isLive) = [k]
    rw [h.acceptOrder, List.filter_append]
    have hold : (s.acceptOrder.filter (· != k)).filter (fun j => (Machine.slot w j).any isLive) = [] := by
      rw [List.filter_eq_nil_iff]
      intro j hj
      have hjk : j ≠ k := by simpa using (List.mem_filter.1 hj).2
      rw [hslot, if_neg (Ne.symm hjk), hq.still.no_live j]
      simp
    have hnew : (Machine.slot w k).any isLive = true := by
      rw [hslot, if_pos rfl]
      rfl
    rw [hold, List.nil_append, List.filter_cons, hnew]
    rfl
  · have hi' : conflicts w i g = true := hi
    rw [hconf] at hi'
    obtain ⟨hproceed, hlost⟩ := hfree i hi'
    refine ⟨?_, ?_⟩
    · show inProceed w i = false
      rw [inProceed, hgrp]
      exact hproceed
    · show (grp w i).redLost = false
      rw [hgrp]
      exact hlost

/-- Settles O47: the checks, the activation and the latest term. -/
theorem acceptedReleaseIsScheduled : Obligations.AcceptedReleaseIsScheduled := by
  intro role g s hrole hq hm hf h hu hred hsch hinh hself hclaims hfree hend hentry
  have hgrant : planOrCentral role = true := by rcases hrole with rfl | rfl <;> rfl
  obtain ⟨k, hk⟩ := freeSlot_of_quiet hq hf
  have hq' : Quiet (setSeen role s) := ⟨hq.work, hq.records, hq.trams, hq.commit⟩
  have ho := transitionOwner_release (role := role) (g := g) hq' hm hk hu hinh hself fun i hi => (hfree i hi).1
  obtain ⟨w, hw, htake⟩ := takeRequest_release h ho
  have hexec : exec (.transition role [0#8, groupByte g]) s = .next (settled w) := by
    rw [← htake, ← hgrant]
    rfl
  have hone := hw.oneQueued hq hm hred hsch hinh hclaims hfree
  have hwcommit : w.commit ≠ .waitingApply := by rw [hw.rest]; exact hq.commit
  obtain ⟨hlen, hinert⟩ := hone.work_scheduledState rfl hwcommit
  have hwork : w.work = [.arbiterExamine] := by rw [hw.rest]
  have hend' : settled w = { scheduledState k (releaseRecord role g s) g { w with work := [] } with work := [] } :=
    settled_of_one (a := .arbiterExamine) (rest := []) (by rw [hwork])
      (by rw [hwork]; exact (Nat.add_le_add_left hlen 1).trans (by decide)) hone.examineArbiter (by simp)
      (by simp) hinert
  have hearliest : earliestGreen { w with work := [] } g = earliestGreen s g := by
    have hgroups : w.groups = s.groups := by rw [hw.rest]
    refine earliestGreen_congr g (show w.now = _ by rw [hw.rest]) (show w.active = _ by rw [hw.rest]) ?_ fun i => ?_
    · exact congrArg GroupRec.redEntry (grp_congr hgroups g)
    · exact congrArg GroupRec.greenEnd (grp_congr hgroups i)
  have hwgrp : ∀ i, grp { w with work := [] } i = grp s i := grp_congr (show w.groups = _ by rw [hw.rest])
  rw [hend'] at hexec
  obtain ⟨hterm, hlatest⟩ := scheduledGreen_spec hend hentry
  refine ⟨_, k, activated (releaseRecord role g s), earliestGreen s g, hexec, ?_, rfl, ?_, ?_, fun i hi => ?_, hterm,
    hlatest, rfl⟩
  · exact (hone.slot_activatedState k).trans (if_pos rfl)
  · show (link (activatedState k (releaseRecord role g s) g { w with work := [] }) role).slot = _
    rw [link_congr (s := w) (by rw [activatedState_frame]), hw.link, repliedLink_slot]
    rfl
  · show grp (scheduledState k (releaseRecord role g s) g { w with work := [] }) g = _
    rw [scheduledState, grp_modGroup, if_pos rfl, grp_activatedState, if_pos rfl, hearliest, hwgrp, enteredRecord,
      if_neg (by show (grp s g).state ≠ _; rw [hred]; decide), show w.now = s.now by rw [hw.rest]]
    rfl
  · show grp (scheduledState k (releaseRecord role g s) g { w with work := [] }) i = _
    rw [scheduledState, grp_modGroup, if_neg (Ne.symm hi), grp_activatedState, if_neg (Ne.symm hi), hwgrp]

end Sys2Proof.Machine
end

section
/-! PROOF. The CLEAR entry of a TRAM group whose hold has run out, with a spent tram on it and the ACTIVE record whose
terminate waited: what each of the three neighbours makes of it, in whatever order they take it (R9, R47, R48, R112,
R135, R140). -/

namespace Sys2Proof.Machine

open Sys2Proof

/-! ### The junction at the CLEAR entry -/

/-- A junction in which a group with a spent tram and a waiting terminate has just entered CLEAR. -/
structure HeldCleared (k : SlotId) (r : TransRec) (g : GroupId) (e : EntryId) (m : TramRec) (v : State) : Prop where
  work : v.work = []
  mode : v.mode = .normal
  used : Machine.used v g = true
  queued : ∀ j q, slot v j = some q → q.state ≠ .queued
  state : (grp v g).state = .clear
  term : (grp v g).pendingTerm = none
  hold : (grp v g).holdUntil = none
  carries : Carries k r g .terminate v
  waiting : OthersWait r g
  tram : Machine.tram v e = some m
  group : m.group = g
  held : m.state = .holding ∨ m.state = .overdue
  call : m.transition = none
  calls : 2 ≤ m.calls
  alone : ∀ e' q, e' ≠ e → Machine.tram v e' = some q → q.group ≠ g

/-- The tram as its evaluation leaves it: OBSERVED without a hold end (R135). -/
def observedTram (m : TramRec) : TramRec := { m with state := .observed, holdEnd := none, awaitsSlot := false }

/-- A group record when the arbiter, and the demand logic, have or have not taken the entry. -/
def takenRecord (g : GroupId) (v : State) (arbiter demand : Bool) (j : GroupId) : GroupRec :=
  let q := if arbiter then examinedRecord v j else grp v j
  if demand ∧ j = g then clearDemanded v g q else q

/-- The junction when some of the three neighbours have taken the entry. -/
def takenState (k : SlotId) (r : TransRec) (g : GroupId) (e : EntryId) (m : TramRec) (v : State)
    (arbiter tram demand : Bool) : State :=
  { v with
    slots := if arbiter then put v.slots k (some (setOutcome g .reached r)) else v.slots
    trams := if tram then put v.trams e (some (observedTram m)) else v.trams
    groups := tabulate (takenRecord g v arbiter demand)
    work := [] }

section
variable {k : SlotId} {r : TransRec} {g : GroupId} {e : EntryId} {m : TramRec} {v : State}

/-- The neighbours write S and T, and the demand, of a record, and nothing else of it. -/
theorem takenRecord_eq (g : GroupId) (v : State) (a c : Bool) (j : GroupId) :
    ∃ sch d, takenRecord g v a c j = { grp v j with schedule := sch, demand := d } := by
  have hexamined : ∃ sch, (if a then examinedRecord v j else grp v j) = { grp v j with schedule := sch } := by
    cases a with
    | false => exact ⟨(grp v j).schedule, rfl⟩
    | true =>
      cases hm : maySchedule v j with
      | true => exact ⟨some (earliestGreen v j), by simp [examinedRecord, hm]⟩
      | false => exact ⟨(grp v j).schedule, by simp [examinedRecord, hm]⟩
  obtain ⟨sch, hsch⟩ := hexamined
  unfold takenRecord
  simp only [hsch]
  split
  · exact ⟨sch, _, rfl⟩
  · exact ⟨sch, _, rfl⟩

theorem grp_takenState (a b c : Bool) (j : GroupId) :
    grp (takenState k r g e m v a b c) j = takenRecord g v a c j := look_tabulate _ j

theorem slot_takenState (a b c : Bool) (j : SlotId) :
    slot (takenState k r g e m v a b c) j =
      if a = true ∧ k = j then some (setOutcome g .reached r) else slot v j := by
  unfold slot takenState
  cases a with
  | false => simp
  | true => simp

theorem tram_takenState (a b c : Bool) (e' : EntryId) :
    tram (takenState k r g e m v a b c) e' = if b = true ∧ e = e' then some (observedTram m) else tram v e' := by
  unfold tram takenState
  cases b with
  | false => simp
  | true => simp

/-- Of the group in CLEAR nothing is scheduled (R48). -/
theorem maySchedule_of_clear {s : State} {g : GroupId} (h : (grp s g).state = .clear) : maySchedule s g = false := by
  rw [Bool.eq_false_iff]
  intro hm
  have := ((maySchedule_iff s g).1 hm).1.state
  rw [h] at this
  cases this

/-! ### The arbiter -/

/-- What the other neighbours make of the entry changes nothing that R28 and R48 read of a conflicting group. -/
theorem sameCourse_takenState (a b c : Bool) (j : GroupId) :
    SameCourse (grp (takenState k r g e m v a b c) j) (grp v j) := by
  obtain ⟨sch, d, hrec⟩ := takenRecord_eq g v a c j
  rw [grp_takenState, hrec]
  exact ⟨rfl, rfl, rfl⟩

/-- The record still waits for the group while the arbiter has not taken the entry. -/
theorem HeldCleared.carries_takenState (h : HeldCleared k r g e m v) (b c : Bool) :
    Carries k r g .terminate (takenState k r g e m v false b c) := by
  have hslot : ∀ j, slot (takenState k r g e m v false b c) j = slot v j := fun j => by simp [slot_takenState]
  exact
    { slot := (hslot k).trans h.carries.slot
      active := h.carries.active
      alone := fun j q hq hid => h.carries.alone j q ((hslot j).symm.trans hq) hid
      claim := by
        obtain ⟨sch, d, hrec⟩ := takenRecord_eq g v false c g
        rw [grp_takenState, hrec]
        exact h.carries.claim
      item := h.carries.item }

/-- The junction with the item REACHED, before the arbiter examines scheduling. -/
def reachedState (k : SlotId) (r : TransRec) (g : GroupId) (e : EntryId) (m : TramRec) (v : State) (b c : Bool) :
    State :=
  modSlot k (setOutcome g .reached) (takenState k r g e m v false b c)

theorem HeldCleared.slot_reachedState (h : HeldCleared k r g e m v) (b c : Bool) (j : SlotId) :
    slot (reachedState k r g e m v b c) j = if k = j then some (setOutcome g .reached r) else slot v j := by
  rw [reachedState, slot_reached (h.carries_takenState b c).slot]
  simp [slot_takenState]

theorem grp_reachedState (b c : Bool) (j : GroupId) :
    grp (reachedState k r g e m v b c) j = takenRecord g v false c j := by
  rw [reachedState, grp_modSlot, grp_takenState]

theorem sameCourse_reachedState (b c : Bool) (j : GroupId) :
    SameCourse (grp (reachedState k r g e m v b c) j) (grp v j) := by
  rw [reachedState, grp_modSlot]
  exact sameCourse_takenState false b c j

theorem grp_reachedState_of_ne (b c : Bool) {j : GroupId} (hj : j ≠ g) :
    grp (reachedState k r g e m v b c) j = grp v j := by
  rw [grp_reachedState]
  simp [takenRecord, hj]

/-- The item REACHED, and what the other neighbours have made of the entry, decide on no group's scheduling (R48). -/
theorem HeldCleared.maySchedule_reachedState (h : HeldCleared k r g e m v) (b c : Bool) {j : GroupId} (hj : j ≠ g) :
    maySchedule (reachedState k r g e m v b c) j = maySchedule v j := by
  have hsame := sameCourse_reachedState (k := k) (r := r) (g := g) (e := e) (m := m) (v := v) b c
  have hown := grp_reachedState_of_ne (k := k) (r := r) (e := e) (m := m) (v := v) b c hj
  rw [Bool.eq_iff_iff]
  constructor
  · refine maySchedule_of_after hown (fun i q hq ha => ?_) rfl
      (fun i hi => by rw [inProceed, (hsame i).state]; exact hi) fun i => (hsame i).lost
    rw [h.slot_reachedState] at hq
    split at hq
    · next hi =>
      obtain rfl := Option.some.inj hq
      exact ⟨r, hi ▸ h.carries.slot, ha, rfl⟩
    · exact ⟨q, hq, ha, rfl⟩
  · refine maySchedule_of_after hown.symm (fun i q hq ha => ?_) rfl
      (fun i hi => by rw [inProceed, ← (hsame i).state]; exact hi) fun i => (hsame i).lost.symm
    by_cases hi : k = i
    · rw [← hi, h.carries.slot] at hq
      obtain rfl := Option.some.inj hq
      exact ⟨setOutcome g .reached r, by rw [h.slot_reachedState, if_pos hi], ha, rfl⟩
    · exact ⟨q, by rw [h.slot_reachedState, if_neg hi]; exact hq, ha, rfl⟩

/-- The groups that the arbiter schedules are the same whether or not the others have taken the entry. -/
theorem HeldCleared.examined_reachedState (h : HeldCleared k r g e m v) (b c : Bool) :
    tabulate (examinedRecord (reachedState k r g e m v b c)) = tabulate (takenRecord g v true c) := by
  have hsame := sameCourse_reachedState (k := k) (r := r) (g := g) (e := e) (m := m) (v := v) b c
  refine table_ext fun j => ?_
  rw [look_tabulate, look_tabulate]
  by_cases hj : j = g
  · subst hj
    have hmv := maySchedule_of_clear h.state
    have hmw : maySchedule (reachedState k r j e m v b c) j = false :=
      maySchedule_of_clear ((hsame j).state.trans h.state)
    simp [examinedRecord, hmw, hmv, grp_reachedState, takenRecord]
  · have hown := grp_reachedState_of_ne (k := k) (r := r) (e := e) (m := m) (v := v) b c hj
    have hearliest : earliestGreen (reachedState k r g e m v b c) j = earliestGreen v j :=
      earliestGreen_congr j rfl rfl (by rw [hown]) fun i => (hsame i).ended
    simp [examinedRecord, h.maySchedule_reachedState b c hj, hown, hearliest, takenRecord, hj]

/-- The arbiter marks the item REACHED and schedules what the group alone kept waiting (R47, R48). -/
theorem HeldCleared.arbiterEntry (h : HeldCleared k r g e m v) (b c : Bool) :
    handle (.arbiterEntry g .clear) (takenState k r g e m v false b c) = takenState k r g e m v true b c := by
  have hqueued : ∀ j q, slot (reachedState k r g e m v b c) j = some q → q.state ≠ .queued := by
    intro j q hq
    rw [h.slot_reachedState] at hq
    split at hq
    · obtain rfl := Option.some.inj hq
      rw [show (setOutcome g .reached r).state = .active from h.carries.active]
      decide
    · exact h.queued j q hq
  have hslots : (reachedState k r g e m v b c).slots = put v.slots k (some (setOutcome g .reached r)) := by
    refine table_ext fun j => ?_
    rw [look_put]
    exact h.slot_reachedState b c j
  show examineArbiter (markReached g .terminate (takenState k r g e m v false b c)) = _
  rw [markReached_of_carries (h.carries_takenState b c), ← reachedState,
    completeIfDone_of_waiting ((h.slot_reachedState b c k).trans (if_pos rfl)) ((hasWaiting_reached g r).2 h.waiting),
    examineArbiter_of_no_queued _ hqueued h.mode, h.examined_reachedState]
  show ({ takenState k r g e m v false b c with
    slots := (reachedState k r g e m v b c).slots, groups := tabulate (takenRecord g v true c) } : State) = _
  rw [hslots]
  rfl

/-! ### The tram -/

/-- A write that leaves the record as it is. -/
theorem modGroup_of_eq {g : GroupId} {f : GroupRec → GroupRec} {s : State} (h : f (grp s g) = grp s g) :
    modGroup g f s = s := by
  have h' : f (look s.groups g) = look s.groups g := h
  simp [modGroup, h']

/-- The entry as the tram on the group meets it: its hold end goes, and it is to be evaluated (R140). -/
def droppedState (k : SlotId) (r : TransRec) (g : GroupId) (e : EntryId) (m : TramRec) (v : State) (a c : Bool) :
    State :=
  modTram e (fun q => { q with holdEnd := none }) (takenState k r g e m v a false c)

theorem HeldCleared.tram_droppedState (h : HeldCleared k r g e m v) (a c : Bool) (e' : EntryId) :
    Machine.tram (droppedState k r g e m v a c) e' =
      if e = e' then some { m with holdEnd := none } else Machine.tram v e' := by
  unfold droppedState
  rw [tram_modTram]
  split
  · rw [tram_takenState, if_neg (by simp), h.tram]
    rfl
  · rw [tram_takenState, if_neg (by simp)]

/-- The tram is the only one with a hold to end on the group (R140). -/
theorem HeldCleared.tramOrder_droppedState (h : HeldCleared k r g e m v) (a c : Bool) :
    tramOrder (heldOn g) (droppedState k r g e m v a c) = [e] := by
  have hfilter : (allEntries.filter fun e' => (Machine.tram (droppedState k r g e m v a c) e').any (heldOn g)) =
      allEntries.filter fun e' => e' == e := by
    refine List.filter_congr fun e' _ => ?_
    rw [h.tram_droppedState]
    by_cases he : e = e'
    · have hheld : heldOn g { m with holdEnd := none } = true := by
        rcases h.held with hm | hm <;> simp [heldOn, h.group, hm]
      simp [he, hheld]
    · rw [if_neg he]
      cases hq : Machine.tram v e' with
      | none => simp [Ne.symm he]
      | some q =>
        have := h.alone e' q (Ne.symm he) hq
        simp [heldOn, beq_false_of_ne this, beq_false_of_ne (Ne.symm he)]
  have hone : ∀ e : EntryId, (allEntries.filter fun e' => e' == e) = [e] := by decide
  rw [tramOrder, hfilter, hone]
  rfl

theorem HeldCleared.tramEntry (h : HeldCleared k r g e m v) (a c : Bool) :
    handle (.tramEntry g .clear) (takenState k r g e m v a false c) =
      { droppedState k r g e m v a c with work := [.tramEvaluate e false] } := by
  have hdrop : dropHold g e (takenState k r g e m v a false c) = droppedState k r g e m v a c := by
    have htram : Machine.tram (takenState k r g e m v a false c) e = some m := by
      rw [tram_takenState, if_neg (by simp), h.tram]
    unfold dropHold
    simp only [htram]
    rw [if_pos ⟨h.group, h.held⟩]
    rfl
  have hpass : forEach allEntries (dropHold g) (takenState k r g e m v a false c) = droppedState k r g e m v a c := by
    rw [forEach_single (I := fun t => ∀ e', e' ≠ e → Machine.tram t e' = Machine.tram v e') (g := e) ?_ allEntries
      (List.nodup_finRange _) _ (fun e' _ => by rw [tram_takenState, if_neg (by simp)]) ?_, hdrop,
      if_pos (show e ∈ allEntries from List.mem_finRange e)]
    · intro e' t he ht
      unfold dropHold
      rw [ht e' he]
      cases hq : Machine.tram v e' with
      | none => rfl
      | some q =>
        dsimp only
        rw [if_neg fun hc => h.alone e' q he hq hc.1]
    · intro e' he
      rw [hdrop, h.tram_droppedState, if_neg (Ne.symm he)]
  show evaluateWhere (heldOn g) false (forEach allEntries (dropHold g) (takenState k r g e m v a false c)) = _
  rw [hpass, evaluateWhere, h.tramOrder_droppedState]
  rfl

/-- The fields of the group that the tram's evaluation reads. -/
theorem HeldCleared.grp_takenState_clear (h : HeldCleared k r g e m v) (a b c : Bool) :
    (grp (takenState k r g e m v a b c) g).state = .clear ∧
      (grp (takenState k r g e m v a b c) g).pendingTerm = none ∧
      (grp (takenState k r g e m v a b c) g).holdUntil = none := by
  obtain ⟨sch, d, hrec⟩ := takenRecord_eq g v a c g
  rw [grp_takenState, hrec]
  exact ⟨h.state, h.term, h.hold⟩

/-- With the tram OBSERVED, nothing holds the group (R138). -/
theorem HeldCleared.recomputeHold (h : HeldCleared k r g e m v) (a c : Bool) :
    recomputeHold g (takenState k r g e m v a true c) = takenState k r g e m v a true c := by
  obtain ⟨_, hterm, hhold⟩ := h.grp_takenState_clear a true c
  have hlatest : latestHold (takenState k r g e m v a true c) g = none := by
    unfold latestHold
    rw [List.filterMap_eq_nil_iff.2 fun e' _ => ?_]
    · rfl
    · rw [tram_takenState]
      by_cases he : e = e'
      · simp [he, observedTram]
      · rw [if_neg fun hc => he hc.2]
        cases hq : Machine.tram v e' with
        | none => rfl
        | some q =>
          dsimp only
          rw [if_neg fun hc => h.alone e' q (Ne.symm he) hq hc.1]
  have hself : modGroup g (fun q => { q with holdUntil := none }) (takenState k r g e m v a true c) =
      takenState k r g e m v a true c := modGroup_of_eq (by rw [← hhold])
  unfold Machine.recomputeHold setHoldUntil
  rw [hlatest, if_pos (by simp), hself]
  exact takeTerminate_of_none g _ hterm

/-- A tram that has spent its calls is OBSERVED at a group in CLEAR, by row 1 of R135 or by the last. -/
theorem evaluate_of_spent {s : State} {e : EntryId} {q : TramRec} (ht : Machine.tram s e = some q)
    (hcall : q.transition = none) (hcalls : 2 ≤ q.calls) (hst : (grp s q.group).state = .clear) :
    evaluate e false s = Machine.recomputeHold q.group (setTramState e .observed s) := by
  unfold evaluate
  rw [ht]
  dsimp only
  congr 1
  by_cases hmust : mustObserve s q = true
  · rw [if_pos hmust, cancelCall, hcall]
  · rw [if_neg hmust, if_neg (by simp [isGreen, hst]), if_neg (by simp [hcall]), if_neg (by simp [hst]),
      if_neg (Nat.not_lt.2 hcalls)]

/-- The spent tram is OBSERVED, without a hold end (R135). -/
theorem HeldCleared.tramEvaluate (h : HeldCleared k r g e m v) (a c : Bool) :
    handle (.tramEvaluate e false) (droppedState k r g e m v a c) = takenState k r g e m v a true c := by
  have htram := (h.tram_droppedState a c e).trans (if_pos rfl)
  have hobserved : setTramState e .observed (droppedState k r g e m v a c) = takenState k r g e m v a true c := by
    have htrams : (setTramState e .observed (droppedState k r g e m v a c)).trams =
        put v.trams e (some (observedTram m)) := by
      refine table_ext fun e' => ?_
      show Machine.tram (modTram e _ (droppedState k r g e m v a c)) e' = _
      rw [tram_modTram, look_put, htram]
      by_cases he : e = e'
      · rw [if_pos he, if_pos he]
        rfl
      · rw [if_neg he, if_neg he, h.tram_droppedState, if_neg he]
        rfl
    show ({ takenState k r g e m v a false c with
      trams := (setTramState e .observed (droppedState k r g e m v a c)).trams } : State) = _
    rw [htrams]
    rfl
  obtain ⟨hclear, _, _⟩ := h.grp_takenState_clear a false c
  have hstate : (grp (droppedState k r g e m v a c) g).state = .clear := by
    rw [droppedState, grp_modTram]
    exact hclear
  have hgroup : ({ m with holdEnd := none } : TramRec).group = g := h.group
  show evaluate e false (droppedState k r g e m v a c) = _
  rw [evaluate_of_spent htram h.call h.calls (by rw [hgroup]; exact hstate), hgroup, hobserved]
  exact h.recomputeHold a c

/-! ### The demand logic -/

/-- The demand logic registers what occupies the group (R112). -/
theorem HeldCleared.clearDemand (h : HeldCleared k r g e m v) (a b : Bool) :
    handle (.clearDemand g) (takenState k r g e m v a b false) = takenState k r g e m v a b true := by
  show takeClearEntry g (takenState k r g e m v a b false) = _
  rw [takeClearEntry_eq g (takenState k r g e m v a b false) h.used,
    clearDemanded_congr (s := v) (t := takenState k r g e m v a b false) g rfl rfl rfl rfl]
  have hgroups : (modGroup g (clearDemanded v g) (takenState k r g e m v a b false)).groups =
      tabulate (takenRecord g v a true) := by
    refine table_ext fun j => ?_
    show grp (modGroup g (clearDemanded v g) (takenState k r g e m v a b false)) j = _
    rw [grp_modGroup, look_tabulate, grp_takenState, grp_takenState]
    by_cases hj : g = j
    · simp [takenRecord, hj]
    · simp [takenRecord, hj, Ne.symm hj]
  show ({ takenState k r g e m v a b false with
    groups := (modGroup g (clearDemanded v g) (takenState k r g e m v a b false)).groups } : State) = _
  rw [hgroups]
  rfl

/-! ### All three, in whatever order -/

/-- What the CLEAR entry of a TRAM group hands on (R9). -/
def clearHandoffs (g : GroupId) : List Handoff := [.arbiterEntry g .clear, .tramEntry g .clear, .clearDemand g]

/-- The junction when the hand-offs of a set have been taken. -/
def takenBy (k : SlotId) (r : TransRec) (g : GroupId) (e : EntryId) (m : TramRec) (v : State) (d : Handoff → Bool) :
    State :=
  takenState k r g e m v (d (.arbiterEntry g .clear)) (d (.tramEntry g .clear)) (d (.clearDemand g))

/-- A hand-off that leads to a state from which the rest is settled. -/
theorem settle_taken {s u t : State} {x : Handoff} {l : List Handoff} {n : Nat} (hstep : handle x s = u)
    (hw : u.work = []) (hrest : ∀ n', 2 * l.length ≤ n' → Machine.settle n' { u with work := l } = t)
    (hn : 2 * l.length + 1 ≤ n) (hs : s.work = [] := by rfl) : Machine.settle n { s with work := x :: l } = t := by
  obtain ⟨n', rfl⟩ := Nat.exists_eq_add_of_le' (Nat.le_trans (Nat.le_add_left 1 _) hn)
  rw [settle_cons n' _ x l rfl, show ({ s with work := [] } : State) = s by rw [← hs], hstep, hw, List.nil_append]
  exact hrest n' (by omega)

/-- Each hand-off is taken once, and the order makes no difference. -/
theorem HeldCleared.settle (h : HeldCleared k r g e m v) (l : List Handoff) : ∀ (d : Handoff → Bool) (n : Nat),
    l.Nodup → (∀ x ∈ l, x ∈ clearHandoffs g) → (∀ x ∈ l, d x = false) → 2 * l.length ≤ n →
    Machine.settle n { takenBy k r g e m v d with work := l } =
      takenBy k r g e m v (fun x => d x || decide (x ∈ l)) := by
  induction l with
  | nil =>
    intro d n _ _ _ _
    rw [settle_of_no_work n _ rfl]
    simp [takenBy]
    rfl
  | cons x l ih =>
    intro d n hnodup hmem hd hn
    obtain ⟨hx, hnodup'⟩ := List.nodup_cons.1 hnodup
    have hdx := hd x List.mem_cons_self
    rw [List.length_cons] at hn
    have hrest := fun n' (hn' : 2 * l.length ≤ n') =>
      ih (fun y => d y || decide (y = x)) n' hnodup' (fun y hy => hmem y (List.mem_cons_of_mem x hy))
        (fun y hy => by
          have hyx : y ≠ x := fun hyx => hx (hyx ▸ hy)
          simp [hd y (List.mem_cons_of_mem x hy), hyx]) hn'
    have hdone : (fun y => (d y || decide (y = x)) || decide (y ∈ l)) = fun y => d y || decide (y ∈ x :: l) := by
      funext y
      simp [Bool.or_assoc]
    rw [hdone] at hrest
    have hx3 := hmem x List.mem_cons_self
    simp only [clearHandoffs, List.mem_cons, List.not_mem_nil, or_false] at hx3
    rcases hx3 with rfl | rfl | rfl
    · have hstep : handle (.arbiterEntry g .clear) (takenBy k r g e m v d) =
          takenBy k r g e m v (fun y => d y || decide (y = .arbiterEntry g .clear)) := by
        unfold takenBy
        rw [hdx, h.arbiterEntry]
        simp
      exact settle_taken hstep rfl hrest (by omega)
    · have hentry : handle (.tramEntry g .clear) (takenBy k r g e m v d) =
          { droppedState k r g e m v (d (.arbiterEntry g .clear)) (d (.clearDemand g)) with
            work := [.tramEvaluate e false] } := by
        unfold takenBy
        rw [hdx, h.tramEntry]
      have hstep : handle (.tramEvaluate e false)
          (droppedState k r g e m v (d (.arbiterEntry g .clear)) (d (.clearDemand g))) =
          takenBy k r g e m v (fun y => d y || decide (y = .tramEntry g .clear)) := by
        rw [h.tramEvaluate]
        unfold takenBy
        simp
      obtain ⟨n', rfl⟩ := Nat.exists_eq_add_of_le' (show 1 ≤ n by omega)
      calc Machine.settle (n' + 1) { takenBy k r g e m v d with work := .tramEntry g .clear :: l }
        _ = Machine.settle n'
            { handle (.tramEntry g .clear) (takenBy k r g e m v d) with
              work := (handle (.tramEntry g .clear) (takenBy k r g e m v d)).work ++ l } :=
          settle_cons n' _ _ l rfl
        _ = Machine.settle n'
            { droppedState k r g e m v (d (.arbiterEntry g .clear)) (d (.clearDemand g)) with
              work := .tramEvaluate e false :: l } := by
          rw [hentry]
          rfl
        _ = _ := settle_taken hstep rfl hrest (by omega)
    · have hstep : handle (.clearDemand g) (takenBy k r g e m v d) =
          takenBy k r g e m v (fun y => d y || decide (y = .clearDemand g)) := by
        unfold takenBy
        rw [hdx, h.clearDemand]
        simp
      exact settle_taken hstep rfl hrest (by omega)

end

/-! ### The entry and what it leaves -/

/-- The junction in which the deferred terminate takes effect. -/
structure HeldUp (k : SlotId) (r : TransRec) (g : GroupId) (e : EntryId) (m : TramRec) (s : State) : Prop where
  steady : Steady s
  mode : s.mode = .normal
  used : Machine.used s g = true
  kind : Machine.kind s g = .tram
  state : (grp s g).state = .green
  carries : Carries k r g .terminate s
  waiting : OthersWait r g
  tram : Machine.tram s e = some m
  group : m.group = g
  held : m.state = .holding ∨ m.state = .overdue
  call : m.transition = none
  calls : 2 ≤ m.calls
  alone : ∀ e' q, e' ≠ e → Machine.tram s e' = some q → q.group ≠ g

section
variable {k : SlotId} {r : TransRec} {g : GroupId} {e : EntryId} {m : TramRec} {s v : State}

theorem HeldUp.heldCleared (h : HeldUp k r g e m s) (hv : GroupMoved g (endedRecord s.now) s v) :
    HeldCleared k r g e m v := by
  have hrest := hv.rest
  have hslots : v.slots = s.slots := by rw [hrest]
  have htrams : v.trams = s.trams := by rw [hrest]
  exact
    { work := by rw [hrest]; exact h.steady.work
      mode := by rw [hrest]; exact h.mode
      used := (used_congr (by rw [hrest]) g).trans h.used
      queued := fun j q hq => h.steady.queued j q ((slot_congr hslots j).symm.trans hq)
      state := by rw [hv.own]; rfl
      term := by rw [hv.own]; rfl
      hold := by rw [hv.own]; rfl
      carries := h.carries.of_moved hv rfl
      waiting := h.waiting
      tram := (tram_congr htrams e).trans h.tram
      group := h.group
      held := h.held
      call := h.call
      calls := h.calls
      alone := fun e' q he hq => h.alone e' q he ((tram_congr htrams e').symm.trans hq) }

/-- The entry is handed to the arbiter, the tram priority engine and the demand logic (R9). -/
theorem HeldUp.work (h : HeldUp k r g e m s) : (enterClear g s).work.Perm (clearHandoffs g) := by
  have hne : (grp s g).state ≠ .clear := by simp [h.state]
  generalize hu : modGroup g (fun r => { r with greenEnd := some s.now, pendingTerm := none, holdUntil := none }) s = u
  have hwork : (enterClear g s).work = (neighbourOrder u).filterMap (entryHandoff u g .clear) := by
    rw [enterClear, hu, enterState_work g .clear u (by rw [← hu]; simpa using hne), show u.work = [] by
      rw [← hu]; exact h.steady.work]
    rfl
  have hkind : Machine.kind u g = .tram := by rw [← hu]; exact h.kind
  have hcommit : u.commit ≠ .waitingApply := by rw [← hu]; exact h.steady.commit
  have hlist : allNeighbours.filterMap (entryHandoff u g .clear) = clearHandoffs g := by
    simp [allNeighbours, entryHandoff, hkind, hcommit, clearHandoffs]
  rw [hwork, ← hlist]
  exact handedOn_perm u _

/-- Before any neighbour has taken the entry. -/
theorem takenBy_none (hw : v.work = []) : takenBy k r g e m v (fun _ => false) = v := by
  have hgroups : tabulate (takenRecord g v false false) = v.groups := table_ext fun j => by
    rw [look_tabulate]
    rfl
  show ({ v with groups := tabulate (takenRecord g v false false), work := [] } : State) = v
  rw [hgroups, ← hw]

/-- All three neighbours take the entry. -/
theorem HeldUp.settled (h : HeldUp k r g e m s) (hv : { enterClear g s with work := [] } = v)
    (hm : GroupMoved g (endedRecord s.now) s v) :
    Machine.settled (enterClear g s) = takenState k r g e m v true true true := by
  have hperm := h.work
  have hcleared := h.heldCleared hm
  have hstart : enterClear g s = { takenBy k r g e m v (fun _ => false) with work := (enterClear g s).work } := by
    rw [takenBy_none hcleared.work, ← hv]
  have hnodup : (clearHandoffs g).Nodup := by simp [clearHandoffs]
  have hlen : (enterClear g s).work.length = 3 := hperm.length_eq
  have hall : ∀ x ∈ clearHandoffs g, decide (x ∈ (enterClear g s).work) = true :=
    fun x hx => decide_eq_true (hperm.mem_iff.2 hx)
  have hsettle := hcleared.settle (enterClear g s).work (fun _ => false) settleFuel (hperm.nodup_iff.2 hnodup)
    (fun x hx => hperm.mem_iff.1 hx) (fun _ _ => rfl) (by rw [hlen]; decide)
  rw [← hstart] at hsettle
  rw [Machine.settled, hsettle]
  simp only [takenBy, Bool.false_or]
  rw [hall _ (by simp [clearHandoffs]), hall _ (by simp [clearHandoffs]), hall _ (by simp [clearHandoffs])]

/-- After the entry R48 lets exactly those groups be scheduled that this green alone kept waiting. -/
theorem HeldUp.maySchedule_iff (hv : GroupMoved g (endedRecord s.now) s v) {j : GroupId} (hj : j ≠ g) :
    maySchedule v j = true ↔ AwaitsSchedule j s ∧ FreeBut g j s := by
  have hrest := hv.rest
  have hslots : v.slots = s.slots := by rw [hrest]
  have hlost : ∀ i, (grp v i).redLost = (grp s i).redLost := by
    intro i
    by_cases hi : i = g
    · rw [hi, hv.own]
      rfl
    · rw [hv.others i hi]
  have hconf : ∀ i, conflicts v i j = conflicts s i j := fun i => conflicts_congr (by rw [hrest]) i j
  rw [Machine.maySchedule_iff]
  constructor
  · rintro ⟨⟨hst, hsch, i, q, hq, hact, hc⟩, hfree, hinh⟩
    rw [hv.others j hj] at hst hsch hc hinh
    refine ⟨⟨hst, hsch, i, q, (slot_congr hslots i).symm.trans hq, hact, hc⟩, fun i hi hc => ?_, fun i hc => ?_, hinh⟩
    · have := (hfree i (by rw [hconf]; exact hc)).1
      rwa [inProceed, hv.others i hi] at this
    · have := (hfree i (by rw [hconf]; exact hc)).2
      rwa [hlost] at this
  · rintro ⟨⟨hst, hsch, i, q, hq, hact, hc⟩, hproceed, hl, hinh⟩
    rw [← hv.others j hj] at hst hsch hc hinh
    refine ⟨⟨hst, hsch, i, q, (slot_congr hslots i).trans hq, hact, hc⟩, fun i hc => ?_, hinh⟩
    rw [hconf] at hc
    refine ⟨?_, by rw [hlost]; exact hl i hc⟩
    by_cases hi : i = g
    · rw [hi, inProceed, hv.own]
      rfl
    · rw [inProceed, hv.others i hi]
      exact hproceed i hi hc

/-- What the three neighbours leave of every group but the one in CLEAR (R48). -/
theorem HeldUp.grp_other (hv : GroupMoved g (endedRecord s.now) s v) {j : GroupId} (hj : j ≠ g) :
    (AwaitsSchedule j s ∧ FreeBut g j s →
      grp (takenState k r g e m v true true true) j =
        { grp s j with schedule := some (earliestGreen (takenState k r g e m v true true true) j) }) ∧
    (¬ (AwaitsSchedule j s ∧ FreeBut g j s) → grp (takenState k r g e m v true true true) j = grp s j) := by
  have hgrp : grp (takenState k r g e m v true true true) j = examinedRecord v j := by
    rw [grp_takenState]
    simp [takenRecord, hj]
  have hfields : ∀ i, (grp (takenState k r g e m v true true true) i).redEntry = (grp v i).redEntry ∧
      (grp (takenState k r g e m v true true true) i).greenEnd = (grp v i).greenEnd := by
    intro i
    obtain ⟨sch, d, hrec⟩ := takenRecord_eq g v true true i
    rw [grp_takenState, hrec]
    exact ⟨rfl, rfl⟩
  have hearliest : earliestGreen (takenState k r g e m v true true true) j = earliestGreen v j :=
    earliestGreen_congr j rfl rfl (hfields j).1 fun i => (hfields i).2
  rw [hgrp, hearliest, ← HeldUp.maySchedule_iff hv hj]
  refine ⟨fun hm => ?_, fun hm => ?_⟩
  · rw [examinedRecord, if_pos hm, hv.others j hj]
  · rw [examinedRecord, if_neg hm, hv.others j hj]

end

end Sys2Proof.Machine
end

section
/-! PROOF. A group that has entered CLEAR stays there, whatever the hand-offs of the entry bring in NORMAL: none of the
blocks moves it on, and a CLEARING that lost reds bring waits for it (R14, R15, R65, R66). -/

namespace Sys2Proof.Machine

open Sys2Proof

/-- A group record as its CLEAR entry at a time leaves it, but for its demand and its claim (R14, R15). -/
structure ClearRecord (u : Time) (r : GroupRec) : Prop where
  state : r.state = .clear
  entered : r.enteredAt = u
  ended : r.greenEnd = some u
  term : r.pendingTerm = none
  hold : r.holdUntil = none

/-- A used group has entered CLEAR at a time, in NORMAL or in a CLEARING that lost reds have brought. -/
structure InClear (g : GroupId) (u : Time) (s : State) : Prop where
  used : Machine.used s g = true
  record : ClearRecord u (grp s g)
  mode : s.mode = .normal ∨ s.mode = .clearing
  commit : s.commit ≠ .waitingApply

namespace InClear

variable {g : GroupId} {u : Time} {s t : State}

theorem of_eq (h : InClear g u s) (hg : grp t g = grp s g) (ha : t.active = s.active) (hm : t.mode = s.mode)
    (hc : t.commit = s.commit) : InClear g u t where
  used := (used_congr ha g).trans h.used
  record := hg ▸ h.record
  mode := hm ▸ h.mode
  commit := hc ▸ h.commit

/-! ### Primitive updates -/

theorem emit (h : InClear g u s) (x : Handoff) : InClear g u (Machine.emit x s) := h.of_eq rfl rfl rfl rfl

theorem emitAll (h : InClear g u s) (xs : List Handoff) : InClear g u (Machine.emitAll xs s) := h.of_eq rfl rfl rfl rfl

theorem handOn (h : InClear g u s) (f : Neighbour → Option Handoff) : InClear g u (Machine.handOn f s) :=
  h.of_eq rfl rfl rfl rfl

theorem raise (h : InClear g u s) (n : Notice) (r : Role) : InClear g u (Machine.raise n r s) := by
  have hf := raise_frame n r s
  exact h.of_eq (grp_congr (by rw [hf]) g) (by rw [hf]) (by rw [hf]) (by rw [hf])

theorem modSlot (h : InClear g u s) (k : SlotId) (f : TransRec → TransRec) : InClear g u (Machine.modSlot k f s) :=
  h.of_eq rfl rfl rfl rfl

theorem modTram (h : InClear g u s) (e : EntryId) (f : TramRec → TramRec) : InClear g u (Machine.modTram e f s) :=
  h.of_eq rfl rfl rfl rfl

theorem modStats (h : InClear g u s) (a : ApproachId) (f : TramStats → TramStats) :
    InClear g u (Machine.modStats a f s) := h.of_eq rfl rfl rfl rfl

theorem modGroup (h : InClear g u s) (j : GroupId) (f : GroupRec → GroupRec)
    (hf : j = g → ClearRecord u (f (grp s g))) : InClear g u (Machine.modGroup j f s) where
  used := h.used
  record := by
    rw [grp_modGroup]
    split
    · next hj =>
      subst hj
      exact hf rfl
    · exact h.record
  mode := h.mode
  commit := h.commit

/-- Writes to the claim, the schedule, the demand and the flags leave the entry as it is. -/
theorem modGroup_of_same (h : InClear g u s) (j : GroupId) (f : GroupRec → GroupRec)
    (hf : ∀ r, ClearRecord u r → ClearRecord u (f r)) : InClear g u (Machine.modGroup j f s) :=
  h.modGroup j f fun _ => hf _ h.record

theorem ne_of_state (h : InClear g u s) {j : GroupId} {st : GState} (hst : (grp s j).state = st) (hne : st ≠ .clear) :
    j ≠ g := by
  rintro rfl
  exact hne (hst.symm.trans h.record.state)

theorem enterState (h : InClear g u s) {j : GroupId} (hj : j ≠ g) (st : GState) :
    InClear g u (Machine.enterState j st s) :=
  h.of_eq (by rw [grp_enterState, if_neg hj]) (by simp) (by simp) (by simp)

theorem enterClear (h : InClear g u s) {j : GroupId} (hj : j ≠ g) : InClear g u (Machine.enterClear j s) :=
  (h.modGroup j _ fun hjg => absurd hjg hj).enterState hj .clear

/-! ### Signal group table -/

theorem takeTerminate (h : InClear g u s) (j : GroupId) : InClear g u (Machine.takeTerminate j s) := by
  unfold Machine.takeTerminate
  split
  · next hc => exact h.enterClear (h.ne_of_state hc.1 (by decide))
  · exact h

theorem withdrawClaim (h : InClear g u s) (id : TransId) (j : GroupId) :
    InClear g u (Machine.withdrawClaim id j s) := by
  unfold Machine.withdrawClaim
  split
  · exact h
  · split
    · have h1 : InClear g u (Machine.modGroup j
          (fun r => { r with claim := none, pendingTerm := withdrawTerm id r.pendingTerm }) s) :=
        h.modGroup_of_same j _ fun r hr => ⟨hr.state, hr.entered, hr.ended, by simp [hr.term, withdrawTerm], hr.hold⟩
      dsimp only
      split
      · next hw =>
        have hj := h.ne_of_state hw (by decide)
        exact (h1.modGroup j _ fun hjg => absurd hjg hj).enterState hj .red
      · exact h1
    · exact h

theorem setHoldUntil (h : InClear g u s) (j : GroupId) (x : Option Time) :
    InClear g u (Machine.setHoldUntil j x s) := by
  unfold Machine.setHoldUntil
  split
  · next hc =>
    refine takeTerminate (h.modGroup j _ fun hjg => ?_) j
    have hgreen : isGreen s j = false := by rw [hjg]; simp [isGreen, h.record.state]
    rw [hgreen, Bool.false_or, beq_iff_eq] at hc
    exact ⟨h.record.state, h.record.entered, h.record.ended, h.record.term, hc⟩
  · exact h

theorem junctionTerminate (h : InClear g u s) (j : GroupId) : InClear g u (Machine.junctionTerminate j s) := by
  unfold Machine.junctionTerminate
  split
  · next hc =>
    have hj : j ≠ g := by
      rintro rfl
      rw [Bool.and_eq_true, inProceed, h.record.state] at hc
      exact absurd hc.2 (by decide)
    exact (h.modGroup j _ fun hjg => absurd hjg hj).takeTerminate j
  · exact h

/-! ### Release arbiter -/

theorem finishRecord (h : InClear g u s) (k : SlotId) (st : TState) (cause : EndCause) :
    InClear g u (Machine.finishRecord k st cause s) := by
  unfold Machine.finishRecord
  split
  · exact h
  · next r _ =>
    refine emitAll ?_ _
    have h1 : InClear g u
        { s with
          slots := put s.slots k (some { r with state := st, finishedAt := some s.now, endCause := some cause })
          finishOrder := s.finishOrder.filter (· != k) ++ [k]
          acceptOrder := s.acceptOrder.filter (· != k) } := h.of_eq rfl rfl rfl rfl
    split
    · exact forEach_keeps (InClear g u) _ _ (fun j _ _ ht => ht.withdrawClaim r.id j) _ h1
    · exact h1

theorem noticeOrigin (h : InClear g u s) (r : TransRec) : InClear g u (Machine.noticeOrigin r s) := by
  unfold Machine.noticeOrigin
  split
  · exact h.raise _ _
  · exact h

theorem completeIfDone (h : InClear g u s) (k : SlotId) : InClear g u (Machine.completeIfDone k s) := by
  unfold Machine.completeIfDone
  split
  · exact h
  · split
    · exact (h.finishRecord k .done .completed).noticeOrigin _
    · exact h

theorem cancelRecord (h : InClear g u s) (cause : EndCause) (k : SlotId) :
    InClear g u (Machine.cancelRecord cause k s) := by
  unfold Machine.cancelRecord
  split
  · exact h
  · split
    · have h1 := h.finishRecord k .cancelled cause
      unfold handCancelled
      split
      · exact h1
      · exact h1.emit _
      · exact h1
      · exact h1.noticeOrigin _
    · exact h

theorem dropRelease (h : InClear g u s) (k : SlotId) (j : GroupId) : InClear g u (Machine.dropRelease k j s) := by
  unfold Machine.dropRelease
  split
  · exact h
  · next r _ =>
    have h1 := (h.modSlot k (dropItem j)).withdrawClaim r.id j
    dsimp only
    split
    · exact h1.cancelRecord .redLost k
    · exact (h1.noticeOrigin r).completeIfDone k

theorem takeLostMarking (h : InClear g u s) (i : GroupId) : InClear g u (Machine.takeLostMarking i s) := by
  refine forEach_keeps (InClear g u) _ _ (fun j _ t ht => ?_) s h
  split
  · exact ht
  · split
    · exact ht
    · split
      · exact ht.dropRelease _ j
      · exact ht

theorem dropLostReleases (h : InClear g u s) (k : SlotId) : InClear g u (Machine.dropLostReleases k s) := by
  refine forEach_keeps (InClear g u) _ _ (fun j _ t ht => ?_) s h
  split
  · exact ht.dropRelease k j
  · exact ht

theorem settleItem (h : InClear g u s) (k : SlotId) (j : GroupId) : InClear g u (Machine.settleItem k j s) := by
  unfold Machine.settleItem
  split
  · exact h
  · next r _ =>
    split
    · exact h
    · next it _ =>
      have h1 : InClear g u
          (Machine.modGroup j (fun q => { q with claim := some { id := r.id, kind := it.kind } }) s) :=
        h.modGroup_of_same j _ fun _ hr => ⟨hr.state, hr.entered, hr.ended, hr.term, hr.hold⟩
      dsimp only
      split
      · split
        · next hgreen =>
          refine h1.modGroup j _ fun hjg => ?_
          rw [hjg, isGreen, h.record.state] at hgreen
          exact absurd hgreen (by decide)
        · exact h1.modSlot k _
      · split
        · exact h1.modSlot k _
        · split
          · next hred => exact h1.enterState (h.ne_of_state hred (by decide)) .redWait
          · exact h1

theorem takePlaced (h : InClear g u s) (id : TransId) : InClear g u (Machine.takePlaced id s) := by
  refine forEach_keeps (InClear g u) _ _ (fun j _ t ht => ?_) s h
  split
  · exact ht.takeTerminate j
  · exact ht

theorem activate (h : InClear g u s) (k : SlotId) : InClear g u (Machine.activate k s) := by
  unfold Machine.activate
  split
  · exact h
  · next r _ =>
    have h1 := forEach_keeps (InClear g u) allGroups (Machine.settleItem k) (fun j _ _ ht => ht.settleItem k j) _
      (h.modSlot k fun q => { q with state := .active })
    exact ((h1.dropLostReleases k).takePlaced r.id).completeIfDone k

theorem activationPass (ks : List SlotId) : ∀ (sup : List TransRec) (s : State), InClear g u s →
    InClear g u (Machine.activationPass ks sup s) := by
  induction ks with
  | nil => exact fun _ _ h => h
  | cons k rest ih =>
    intro sup s h
    unfold Machine.activationPass
    split
    · exact ih _ _ h
    · split
      · split
        · exact ih _ _ (h.activate k)
        · exact ih _ _ h
      · exact ih _ _ h

theorem examineScheduling (h : InClear g u s) : InClear g u (Machine.examineScheduling s) := by
  refine forEach_keeps (InClear g u) _ _ (fun j _ t ht => ?_) s h
  unfold Machine.scheduleGroup
  split
  · exact ht.modGroup_of_same j _ fun _ hr => ⟨hr.state, hr.entered, hr.ended, hr.term, hr.hold⟩
  · exact ht

theorem examineSchedule (h : InClear g u s) : InClear g u (Machine.examineSchedule s) := by
  unfold Machine.examineSchedule
  split
  · exact h.examineScheduling
  · exact h

theorem examineArbiter (h : InClear g u s) : InClear g u (Machine.examineArbiter s) := by
  unfold Machine.examineArbiter
  split
  · exact (activationPass _ _ s h).examineScheduling
  · exact h

theorem markReached (h : InClear g u s) (j : GroupId) (kd : ItemKind) : InClear g u (Machine.markReached j kd s) := by
  unfold Machine.markReached
  split
  · exact h
  · split
    · split
      · exact h
      · dsimp only
        split
        · exact (h.modSlot _ _).completeIfDone _
        · exact h
    · exact h

theorem arbiterEntry (h : InClear g u s) (j : GroupId) (st : GState) : InClear g u (Machine.arbiterEntry j st s) := by
  unfold Machine.arbiterEntry
  dsimp only
  split
  · exact (h.markReached j .release).examineArbiter
  · exact (h.markReached j .terminate).examineArbiter
  · exact h.examineArbiter

theorem cancelTramCall (h : InClear g u s) (id : TransId) : InClear g u (Machine.cancelTramCall id s) := by
  unfold Machine.cancelTramCall
  split
  · exact h
  · exact h.cancelRecord .tramEngine _

/-! ### Tram priority engine -/

theorem takeHold (h : InClear g u s) (e : EntryId) (r : TramRec) (x : Time) (capped : Bool) :
    InClear g u (Machine.takeHold e r x capped s) := by
  unfold Machine.takeHold
  generalize (if after x s.now = true then TramState.holding else TramState.overdue) = st
  have h1 := h.modTram e (fun r => { r with holdEnd := some x, capped := capped, state := st, awaitsSlot := false })
  dsimp only
  split
  · exact h1.modStats _ _
  · exact h1

theorem computeHold (h : InClear g u s) (e : EntryId) (r : TramRec) : InClear g u (Machine.computeHold e r s) := by
  unfold Machine.computeHold
  dsimp only
  split
  · exact (h.takeHold e r _ _).modStats _ _
  · exact h.takeHold e r _ _

theorem postCall (h : InClear g u s) (e : EntryId) (r : TramRec) : InClear g u (Machine.postCall e r s) := by
  unfold Machine.postCall
  split
  · exact h.modTram e _
  · refine modStats (modTram ?_ e _) _ _
    exact h.of_eq rfl rfl rfl rfl

theorem cancelCall (h : InClear g u s) (e : EntryId) (r : TramRec) : InClear g u (Machine.cancelCall e r s) := by
  unfold Machine.cancelCall
  split
  · exact h
  · exact (h.cancelTramCall _).modTram e _

theorem setTramState (h : InClear g u s) (e : EntryId) (st : TramState) :
    InClear g u (Machine.setTramState e st s) := h.modTram e _

theorem evaluate (h : InClear g u s) (e : EntryId) (anew : Bool) : InClear g u (Machine.evaluate e anew s) := by
  unfold Machine.evaluate
  split
  · exact h
  · next r _ =>
    refine setHoldUntil ?_ _ _
    split
    · exact (h.cancelCall e r).setTramState e _
    · split
      · split
        · exact h.takeHold e r _ _
        · exact h.takeHold e r _ _
        · exact h.computeHold e r
      · split
        · exact h.setTramState e _
        · split
          · exact h.setTramState e _
          · split
            · exact (h.setTramState e _).postCall e r
            · exact h.setTramState e _

theorem takeSlotFree (h : InClear g u s) : InClear g u (Machine.takeSlotFree s) := by
  unfold Machine.takeSlotFree
  split
  · exact h
  · split
    · exact h.postCall _ _
    · exact h

theorem dropAtGreen (h : InClear g u s) (j : GroupId) (e : EntryId) : InClear g u (Machine.dropAtGreen j e s) := by
  unfold Machine.dropAtGreen
  split
  · exact h
  · split
    · split
      · exact h
      · refine modTram ?_ e _
        split
        · exact h.cancelTramCall _
        · exact h
    · exact h

theorem dropHold (h : InClear g u s) (j : GroupId) (e : EntryId) : InClear g u (Machine.dropHold j e s) := by
  unfold Machine.dropHold
  split
  · exact h
  · split
    · exact h.modTram e _
    · exact h

theorem tramEntry (h : InClear g u s) (j : GroupId) (st : GState) : InClear g u (Machine.tramEntry j st s) := by
  unfold Machine.tramEntry
  split
  · exact (forEach_keeps (InClear g u) _ _ (fun e _ _ ht => ht.dropAtGreen j e) s h).emitAll _
  · exact (forEach_keeps (InClear g u) _ _ (fun e _ _ ht => ht.dropHold j e) s h).emitAll _
  · exact h

theorem tramCancelled (h : InClear g u s) (id : TransId) : InClear g u (Machine.tramCancelled id s) := by
  unfold Machine.tramCancelled
  split
  · exact h
  · exact (h.modTram _ _).evaluate _ _

/-! ### Demand logic, junction mode controller and configuration -/

theorem takeClearEntry (h : InClear g u s) (j : GroupId) : InClear g u (Machine.takeClearEntry j s) := by
  unfold Machine.takeClearEntry
  split
  · split
    · exact h.modGroup_of_same j _ fun _ hr => ⟨hr.state, hr.entered, hr.ended, hr.term, hr.hold⟩
    · exact h
  · exact h

/-- A waiting commit alone is applied (R168). -/
theorem examineCommit (h : InClear g u s) : InClear g u (Machine.examineCommit s) := by
  unfold Machine.examineCommit
  rw [if_neg fun hc => h.commit hc.1]
  exact h

/-- The group in CLEAR keeps CLEARING from its end (R65). -/
theorem examineClearing (h : InClear g u s) : InClear g u (Machine.examineClearing s) := by
  have hdone : clearingDone s = false :=
    clearingDone_eq_false h.used (by simp [h.record.state]) (by simp [h.record.state])
  unfold Machine.examineClearing
  rw [if_neg fun hc => by rw [hdone] at hc; exact absurd hc.2 (by decide)]
  exact h

theorem examineLost (h : InClear g u s) : InClear g u (Machine.examineLost s) := by
  unfold Machine.examineLost
  split
  · have hmoded := enterMode_frame .clearing { s with clearTarget := some .flash, supervision := none }
    unfold enterClearing
    generalize enterMode .clearing { s with clearTarget := some .flash, supervision := none } = m at hmoded
    have h1 : InClear g u m :=
      { used := (used_congr (by rw [hmoded]) g).trans h.used
        record := by
          rw [grp_congr (s := s) (t := m) (by rw [hmoded])]
          exact h.record
        mode := .inr (by rw [hmoded])
        commit := by rw [hmoded]; exact h.commit }
    refine handOn ?_ _
    refine forEach_keeps (InClear g u) _ _ (fun j _ _ ht => ht.junctionTerminate j) _ ?_
    exact forEach_keeps (InClear g u) _ _ (fun k _ _ ht => ht.cancelRecord .mode k) _ h1
  · exact h

theorem handle (h : InClear g u s) (x : Handoff) : InClear g u (Machine.handle x s) := by
  cases x with
  | arbiterEntry j st => exact h.arbiterEntry j st
  | tramEntry j st => exact h.tramEntry j st
  | configExamine => exact h.examineCommit
  | clearingExamine => exact h.examineClearing
  | clearDemand j => exact h.takeClearEntry j
  | arbiterExamine => exact h.examineArbiter
  | scheduleExamine => exact h.examineSchedule
  | arbiterLost i => exact h.takeLostMarking i
  | lostExamine => exact h.examineLost
  | slotFree => exact h.takeSlotFree
  | tramCancelled id => exact h.tramCancelled id
  | tramEvaluate e anew => exact h.evaluate e anew
  | tramEvaluateAll => exact h.emitAll _
  | tramEvaluateGroup j => exact h.emitAll _

/-- Whatever the hand-offs bring, the group stays in CLEAR. -/
theorem settled (h : InClear g u s) : InClear g u (Machine.settled s) :=
  settled_keeps (InClear g u) (fun _ _ ht => ht.of_eq rfl rfl rfl rfl) (fun x _ ht => ht.handle x) s h

end InClear

/-- The CLEAR entry of a used group in NORMAL (R14). -/
theorem inClear_enterClear {g : GroupId} {s : State} (hu : used s g = true) (hne : (grp s g).state ≠ .clear)
    (hm : s.mode = .normal) (hc : s.commit ≠ .waitingApply) : InClear g s.now (enterClear g s) where
  used := by rw [enterClear, used_enterState]; exact hu
  record := by
    have hgrp : grp (enterClear g s) g = endedRecord s.now (grp s g) := by
      rw [enterClear, grp_enterState, if_pos rfl, grp_modGroup, if_pos rfl, enteredRecord, if_neg hne]
      rfl
    rw [hgrp]
    exact ⟨rfl, rfl, rfl, rfl, rfl⟩
  mode := .inl (by rw [enterClear, enterState_mode]; exact hm)
  commit := by rw [enterClear, enterState_commit]; exact hc

/-! ### NOW_REACHES_HOLD_UNTIL -/

/-- The event of a used green group whose hold has run out (R14). -/
theorem execNowReachesHoldUntil_of_due {g : GroupId} {s : State} {h : Time} (hu : used s g = true)
    (hst : (grp s g).state = .green) (hh : (grp s g).holdUntil = some h) (ht : atOrAfter s.now h = true) :
    exec (.nowReachesHoldUntil g) s = .next (settled (takeTerminate g s)) := by
  have hdue : holdUntilDue s g = true := by simp [holdUntilDue, hu, hst, hh, ht]
  show Host.Outcome.next (if holdUntilDue s g then _ else s) = _
  rw [if_pos hdue]

/-- A terminate of any class takes effect at the end of the hold (R14). -/
theorem takeTerminate_of_reached {g : GroupId} {s : State} {h : Time} (hst : (grp s g).state = .green)
    (hh : (grp s g).holdUntil = some h) (ht : atOrAfter s.now h = true) (hp : (grp s g).pendingTerm.isSome = true) :
    takeTerminate g s = enterClear g s := by
  have hallowed : terminateAllowed s.now (grp s g) = true := by
    obtain ⟨p, hp⟩ := Option.isSome_iff_exists.1 hp
    cases p with
    | junction => simp [terminateAllowed, hp]
    | transition cls id => simp [terminateAllowed, hp, hh, ht]
  rw [takeTerminate, if_pos ⟨hst, hallowed⟩]

/-- Settles O12: the group in CLEAR in any state, the whole effect for a spent tram, and no pending terminate. -/
theorem reachedHoldLetsTheTerminateThrough : Obligations.ReachedHoldLetsTheTerminateThrough := by
  intro g s h hu hst hh ht
  have hexec := execNowReachesHoldUntil_of_due hu hst hh ht
  refine ⟨fun hp _ hm hc => ⟨_, hexec, ?_⟩, fun k r e m hs hm hk hcar hw hterm htram hgroup hheld hcall hcalls halone =>
    ⟨_, hexec, ?_⟩, fun hp hw => ?_⟩
  · rw [takeTerminate_of_reached hst hh ht hp]
    have hclear := (inClear_enterClear hu (by simp [hst]) hm hc).settled.record
    exact ⟨hclear.state, hclear.entered, hclear.ended, hclear.term, hclear.hold⟩
  · have hheldUp : HeldUp k r g e m s := ⟨hs, hm, hu, hk, hst, hcar, hw, htram, hgroup, hheld, hcall, hcalls, halone⟩
    have hv := groupMoved_enterClear g s hs.work (by simp [hst])
    have hend := hheldUp.settled rfl hv
    generalize { enterClear g s with work := [] } = v at hv hend
    have hrest := hv.rest
    rw [takeTerminate_of_reached hst hh ht (by rw [hterm]; rfl), hend]
    refine ⟨?_, fun j hj => HeldUp.grp_other hv hj, ?_, fun j hj => ?_, ?_, fun e' he => ?_, fun which => ?_,
      fun j hj => ?_, ?_, ?_⟩
    · have hmay : maySchedule v g = false := maySchedule_of_clear (by rw [hv.own]; rfl)
      rw [grp_takenState, clearedRecord_eq,
        ← clearDemanded_congr (s := s) (t := v) g (by rw [hrest]) (by rw [hrest]) (by rw [hrest]) (by rw [hrest]),
        ← hv.own]
      simp [takenRecord, examinedRecord, hmay]
    · rw [slot_takenState, if_pos ⟨rfl, rfl⟩]
    · rw [slot_takenState, if_neg fun hc => hj hc.2.symm]
      exact slot_congr (by rw [hrest]) j
    · rw [tram_takenState, if_pos ⟨rfl, rfl⟩]
      rfl
    · rw [tram_takenState, if_neg fun hc => he hc.2.symm]
      exact tram_congr (by rw [hrest]) e'
    · exact hv.ownLamps which
    · exact hv.otherLamps j hj
    · exact hv.order
    · rw [takenState, hrest, ← hs.work]
  · rw [takeTerminate_of_none g s hp, settled_of_no_work s hw] at hexec
    exact hexec

end Sys2Proof.Machine
end

section
/-! SUPPORT. The laws of release in the form that every operation keeps (R31, R44, R48): what they say of the image, of
the groups, of the records and of the claims, with the parts of them that an apply or a change of mode suspends; and
what each primitive update of groups and records does to them. -/

namespace Sys2Proof.Machine

open Sys2Proof

/-! ### The conflict relation of a valid image (R25) -/

theorem eq_none_of_orElse {α : Type} {o : Option α} {f : Unit → Option α} (h : o.orElse f = none) :
    o = none ∧ f () = none := (Option.orElse_eq_none o (f ())).1 h

theorem eq_none_of_firstFailure {n : Nat} {check : Fin n → Option CheckCode} (h : firstFailure n check = none)
    (i : Fin n) : check i = none := by
  unfold firstFailure at h
  rw [List.findSome?_eq_none_iff] at h
  exact Option.map_eq_none_iff.1 (h i (List.mem_finRange i))

theorem checkMatrix_matrixIndex (img : Image) (i j : GroupId) :
    checkMatrix img (matrixIndex i j) = checkEntry img i j := by
  have hi : (i.val * 24 + j.val) / 24 = i.val := by omega
  have hj : (i.val * 24 + j.val) % 24 = j.val := by omega
  simp only [checkMatrix, matrixIndex, hi, hj]

/-- A valid image passes the check of every matrix entry (R25, R26). -/
theorem checkEntry_of_valid {img : Image} (h : validate img = none) (i j : GroupId) : checkEntry img i j = none := by
  have hmatrix := (eq_none_of_orElse (eq_none_of_orElse h).2).2
  rw [← checkMatrix_matrixIndex]
  exact eq_none_of_firstFailure (eq_none_of_orElse hmatrix).1 _

/-- No group conflicts with itself (R25 check 1). -/
theorem conflictIn_self {img : Image} (h : validate img = none) (i : GroupId) : conflictIn img i i = false := by
  have hentry := checkEntry_of_valid h i i
  by_contra hc
  have hig : igIn img i i ≠ 255 := by simpa [conflictIn] using hc
  simp [checkEntry, hig] at hentry

/-- Conflicts are mutual (R25 checks 2 and 3). -/
theorem conflictIn_symm {img : Image} (h : validate img = none) {i j : GroupId} (hc : conflictIn img i j = true) :
    conflictIn img j i = true := by
  have hentry := checkEntry_of_valid h i j
  have hne : i ≠ j := by
    rintro rfl
    rw [conflictIn_self h] at hc
    cases hc
  have hig : igIn img i j ≠ 255 := by simpa [conflictIn] using hc
  by_contra hji
  cases hi : usedIn img i <;> cases hj : usedIn img j <;> simp [checkEntry, hne, hig, hi, hj, hc, hji] at hentry

/-! ### The laws -/

/-- Which laws hold while a command is taken part by part: that groups rest outside NORMAL and CLEARING, for which
slots the releases of a live record have been tested under the matrix, and for which pairs those of two ACTIVE ones. -/
structure Scope where
  rests : Prop
  tested : SlotId → Prop
  paired : SlotId → SlotId → Prop

/-- All laws hold. -/
def Scope.all : Scope where
  rests := True
  tested _ := True
  paired _ _ := True

/-- All laws hold but for groups at rest: the junction is changing its mode. -/
def Scope.moving : Scope := { Scope.all with rests := False }

/-- No claim is stale. -/
def noStale : GroupId → TransId → Prop := fun _ _ => False

/-- The active image is valid, and so is the one that waits to be applied (R61, R168). -/
structure ConfigSafe (s : State) : Prop where
  valid : ∀ img, s.active = some img → validate img = none
  staged : s.commit = .waitingApply → validate s.staging = none

/-- What the group records keep to (R3, R31, R48). -/
structure GroupsSafe (rests : Prop) (s : State) : Prop where
  unused : UnusedLaw s
  apart : ∀ i j, conflicts s i j = true → ¬ (inProceed s i = true ∧ inProceed s j = true)
  waits : ∀ g, (grp s g).state = .redWait → (grp s g).schedule.isSome = true →
    (∃ c, (grp s g).claim = some c ∧ c.kind = .release) ∧ ∀ i, conflicts s i g = true → inProceed s i = false
  schedules : ∀ g, (grp s g).schedule.isSome = true → (grp s g).state = .redWait ∨ (grp s g).state = .prepare
  resting : rests → s.mode ≠ .normal → s.mode ≠ .clearing →
    ∀ g, (grp s g).state = .dark ∨ (grp s g).state = .redMin

/-- What the transition table keeps to (R35, R36, R44). -/
structure RecordsSafe (c : Scope) (s : State) : Prop where
  finish : FinishLaw s
  ids : ∀ j k q r, slot s j = some q → slot s k = some r → q.id = r.id → j = k
  accepted : ∀ k r, slot s k = some r → isLive r = true → k ∈ s.acceptOrder
  releases : ∀ k r, c.tested k → slot s k = some r → isLive r = true → ∀ i j, inSet .release r i = true →
    inSet .release r j = true → conflicts s i j = false
  active : ∀ j k q r, c.paired j k → slot s j = some q → slot s k = some r → q.state = .active → r.state = .active →
    ∀ g h, inSet .release q g = true → inSet .release r h = true → conflicts s g h = false

/-- Every claim that is not stale names an ACTIVE record with that item (R6, R45). -/
def ClaimsSafe (stale : GroupId → TransId → Prop) (s : State) : Prop :=
  ∀ g c, (grp s g).claim = some c →
    stale g c.id ∨ ∃ k r, slot s k = some r ∧ r.state = .active ∧ r.id = c.id ∧ inSet c.kind r g = true

/-- The laws of release within a scope, but for stale claims. -/
structure Safe (c : Scope) (stale : GroupId → TransId → Prop) (s : State) : Prop where
  config : ConfigSafe s
  groups : GroupsSafe c.rests s
  records : RecordsSafe c s
  claims : ClaimsSafe stale s

/-- With every law in force these are the release laws and those they rest on. -/
theorem Safe.releaseLaws {s : State} (h : Safe .all noStale s) : ReleaseLaws s where
  apart := h.groups.apart
  waits := h.groups.waits
  schedules := h.groups.schedules
  resting := h.groups.resting trivial
  claims g c hc := (h.claims g c hc).resolve_left id
  ids := h.records.ids
  accepted := h.records.accepted
  releases k r := h.records.releases k r trivial
  active j k q r := h.records.active j k q r trivial

theorem safe_of_laws {s : State} (hc : ConfigLaw s) (hu : UnusedLaw s) (hf : FinishLaw s) (h : ReleaseLaws s) :
    Safe .all noStale s where
  config := ⟨hc.valid, hc.staged⟩
  groups := ⟨hu, h.apart, h.waits, h.schedules, fun _ => h.resting⟩
  records := ⟨hf, h.ids, h.accepted, fun k r _ => h.releases k r, fun j k q r _ => h.active j k q r⟩
  claims g c hc := .inr (h.claims g c hc)

/-! ### The conflicts of a safe configuration -/

theorem ConfigSafe.conflicts_self {s : State} (h : ConfigSafe s) (i : GroupId) : conflicts s i i = false := by
  unfold conflicts cfg
  cases ha : s.active with
  | none => simp [conflictIn, igIn, defaultImage]
  | some img => exact conflictIn_self (h.valid img ha) i

theorem ConfigSafe.conflicts_symm {s : State} (h : ConfigSafe s) {i j : GroupId} (hc : conflicts s i j = true) :
    conflicts s j i = true := by
  unfold conflicts cfg at hc ⊢
  cases ha : s.active with
  | none => simp [ha, conflictIn, igIn, defaultImage] at hc
  | some img =>
    rw [ha] at hc
    exact conflictIn_symm (h.valid img ha) hc

/-! ### States that agree on what the laws read -/

/-- What the laws read of the configuration manager. -/
def imagesOf (s : State) : Option Image × Image × CommitState := (s.active, s.staging, s.commit)

/-- What the laws read of the transition table. -/
def tableOf (s : State) : Vector (Option TransRec) 8 × List SlotId × List SlotId :=
  (s.slots, s.finishOrder, s.acceptOrder)

theorem ConfigSafe.of_eq {s t : State} (h : ConfigSafe s) (hi : imagesOf t = imagesOf s) : ConfigSafe t := by
  simp only [imagesOf, Prod.mk.injEq] at hi
  obtain ⟨ha, hs, hc⟩ := hi
  exact ⟨ha ▸ h.valid, by rw [hs, hc]; exact h.staged⟩

theorem active_of_imagesOf {s t : State} (hi : imagesOf t = imagesOf s) : t.active = s.active :=
  congrArg Prod.fst hi

theorem slots_of_tableOf {s t : State} (ht : tableOf t = tableOf s) : t.slots = s.slots := congrArg Prod.fst ht

theorem RecordsSafe.of_eq {c : Scope} {s t : State} (h : RecordsSafe c s) (ha : t.active = s.active)
    (ht : tableOf t = tableOf s) : RecordsSafe c t := by
  simp only [tableOf, Prod.mk.injEq] at ht
  obtain ⟨hslots, hfinish, haccept⟩ := ht
  have hs := fun k => slot_congr hslots k
  have hc := fun i j => conflicts_congr ha i j
  constructor
  · intro k
    rw [hfinish, hs]
    exact h.finish k
  · simp only [hs]
    exact h.ids
  · simp only [hs, haccept]
    exact h.accepted
  · simp only [hs, hc]
    exact h.releases
  · simp only [hs, hc]
    exact h.active

/-- A smaller scope asks less of the records. -/
theorem RecordsSafe.of_scope {c d : Scope} {s : State} (h : RecordsSafe c s) (ht : ∀ k, d.tested k → c.tested k)
    (hp : ∀ j k, d.paired j k → c.paired j k) : RecordsSafe d s :=
  { h with
    releases := fun k r hk => h.releases k r (ht k hk)
    active := fun j k q r hjk => h.active j k q r (hp j k hjk) }

/-! ### Group records -/

/-- A group record keeps its state, its schedule or none, and its claim while it waits with a schedule. -/
structure Eased (r q : GroupRec) : Prop where
  state : q.state = r.state
  schedule : q.schedule = none ∨ q.schedule = r.schedule
  waiting : r.state = .redWait → q.schedule.isSome = true → q.claim = r.claim

theorem Eased.refl (r : GroupRec) : Eased r r := ⟨rfl, .inr rfl, fun _ _ => rfl⟩

/-- A write to other fields. -/
theorem eased_of_same {r q : GroupRec} (hs : q.state = r.state) (hsch : q.schedule = r.schedule)
    (hc : q.claim = r.claim) : Eased r q := ⟨hs, .inr hsch, fun _ _ => hc⟩

/-- With the schedule gone the claim is free. -/
theorem eased_of_unscheduled {r q : GroupRec} (hs : q.state = r.state) (hsch : q.schedule = none) : Eased r q :=
  ⟨hs, .inl hsch, fun _ h => by rw [hsch] at h; cases h⟩

theorem Eased.scheduled {r q : GroupRec} (h : Eased r q) (hq : q.schedule.isSome = true) :
    r.schedule.isSome = true := by
  rcases h.schedule with hn | he
  · rw [hn] at hq
    cases hq
  · exact he ▸ hq

namespace GroupsSafe

variable {R : Prop} {s t : State}

theorem of_groups (h : GroupsSafe R s) (ha : t.active = s.active) (hm : t.mode = s.mode)
    (hg : ∀ g, Eased (grp s g) (grp t g)) : GroupsSafe R t := by
  have hproceed : ∀ i, inProceed t i = inProceed s i := fun i => by rw [inProceed, (hg i).state, inProceed]
  refine ⟨h.unused.of_states ha fun g => .inl (hg g).state, fun i j hc => ?_, fun g hst hsch => ?_, fun g hsch => ?_,
    fun hR h1 h2 g => ?_⟩
  · rw [hproceed, hproceed]
    exact h.apart i j (by rw [← conflicts_congr ha]; exact hc)
  · rw [(hg g).state] at hst
    obtain ⟨hclaim, hfree⟩ := h.waits g hst ((hg g).scheduled hsch)
    rw [(hg g).waiting hst hsch]
    refine ⟨hclaim, fun i hi => ?_⟩
    rw [hproceed]
    exact hfree i (by rw [← conflicts_congr ha]; exact hi)
  · rw [(hg g).state]
    exact h.schedules g ((hg g).scheduled hsch)
  · rw [hm] at h1 h2
    rw [(hg g).state]
    exact h.resting hR h1 h2 g

/-- Groups that are all red and without a schedule oppose no one, whatever the matrix. -/
theorem of_allRed (hu : UnusedLaw t) (hred : ∀ g, allRedState (grp t g).state = true ∧ (grp t g).schedule = none)
    (hrest : R → t.mode ≠ .normal → t.mode ≠ .clearing → ∀ g, (grp t g).state = .dark ∨ (grp t g).state = .redMin) :
    GroupsSafe R t := by
  refine ⟨hu, fun i j _ hp => ?_, fun g _ hsch => ?_, fun g hsch => ?_, hrest⟩
  · have hstate := (hred i).1
    have hproceed := hp.1
    unfold inProceed at hproceed
    cases hst : (grp t i).state <;> rw [hst] at hstate hproceed <;> simp [allRedState, proceedState] at hstate hproceed
  · rw [(hred g).2] at hsch
    cases hsch
  · rw [(hred g).2] at hsch
    cases hsch

/-- S and T stand in RED_WAIT and PREPARE only. -/
theorem unscheduled (h : GroupsSafe R s) {g : GroupId} (hw : (grp s g).state ≠ .redWait)
    (hp : (grp s g).state ≠ .prepare) : (grp s g).schedule = none := by
  by_contra hne
  rcases h.schedules g (Option.isSome_iff_ne_none.2 hne) with hst | hst
  · exact hw hst
  · exact hp hst

/-- A group that is not at rest is in NORMAL or CLEARING. -/
theorem mode_of_not_resting (h : GroupsSafe R s) {g : GroupId} (hd : (grp s g).state ≠ .dark)
    (hr : (grp s g).state ≠ .redMin) (hR : R) : s.mode = .normal ∨ s.mode = .clearing := by
  by_contra hm
  rw [not_or] at hm
  rcases h.resting hR hm.1 hm.2 g with hst | hst
  · exact hd hst
  · exact hr hst

end GroupsSafe

/-- No group that conflicts with the group is in proceed, or about to be (R31). -/
def Unopposed (s : State) (g : GroupId) : Prop :=
  ∀ i, conflicts s i g = true → inProceed s i = false ∧ ((grp s i).state = .redWait → (grp s i).schedule = none)

@[simp] theorem enteredRecord_schedule (now : Time) (st : GState) (r : GroupRec) :
    (enteredRecord now st r).schedule = r.schedule := by
  unfold enteredRecord
  split <;> rfl

@[simp] theorem enteredRecord_claim (now : Time) (st : GState) (r : GroupRec) :
    (enteredRecord now st r).claim = r.claim := by
  unfold enteredRecord
  split <;> rfl

theorem inProceed_enterState (g i : GroupId) (st : GState) (s : State) :
    inProceed (enterState g st s) i = if g = i then proceedState st else inProceed s i := by
  unfold inProceed
  rw [grp_enterState]
  split <;> simp

/-- A used group may enter a state that does not proceed, or proceed unopposed. -/
theorem GroupsSafe.enterState {R : Prop} {s : State} (h : GroupsSafe R s) (hcfg : ConfigSafe s) (g : GroupId)
    (st : GState) (hu : used s g = true ∨ st = .dark) (hfree : proceedState st = true → Unopposed s g)
    (hsch : (grp s g).schedule = none ∨ st = .prepare)
    (hrest : R → (s.mode = .normal ∨ s.mode = .clearing) ∨ st = .dark ∨ st = .redMin) :
    GroupsSafe R (Machine.enterState g st s) := by
  have hconf := fun i j => conflicts_congr (enterState_active g st s) i j
  refine ⟨h.unused.enterState g st hu, fun i j hc => ?_, fun x hst hx => ?_, fun x hx => ?_, fun hR h1 h2 x => ?_⟩
  · rw [hconf] at hc
    rw [inProceed_enterState, inProceed_enterState]
    rintro ⟨hi, hj⟩
    by_cases hgi : g = i <;> by_cases hgj : g = j
    · subst hgi hgj
      rw [hcfg.conflicts_self] at hc
      cases hc
    · subst hgi
      rw [if_pos rfl] at hi
      rw [if_neg hgj, (hfree hi j (hcfg.conflicts_symm hc)).1] at hj
      cases hj
    · subst hgj
      rw [if_pos rfl] at hj
      rw [if_neg hgi, (hfree hj i hc).1] at hi
      cases hi
    · rw [if_neg hgi] at hi
      rw [if_neg hgj] at hj
      exact h.apart i j hc ⟨hi, hj⟩
  · by_cases hgx : g = x
    · subst hgx
      rw [grp_enterState, if_pos rfl] at hst hx
      rw [enteredRecord_state] at hst
      rw [enteredRecord_schedule] at hx
      rcases hsch with hn | hp
      · rw [hn] at hx
        cases hx
      · rw [hp] at hst
        cases hst
    · rw [grp_enterState, if_neg hgx] at hst hx ⊢
      obtain ⟨hclaim, hothers⟩ := h.waits x hst hx
      refine ⟨hclaim, fun i hi => ?_⟩
      rw [hconf] at hi
      rw [inProceed_enterState]
      split
      · next hgi =>
        subst hgi
        by_contra hp
        rw [(hfree (by simpa using hp) x (hcfg.conflicts_symm hi)).2 hst] at hx
        cases hx
      · exact hothers i hi
  · rw [grp_enterState] at hx ⊢
    split at hx
    · next hgx =>
      rw [if_pos hgx, enteredRecord_state]
      rw [enteredRecord_schedule] at hx
      rcases hsch with hn | hp
      · rw [hn] at hx
        cases hx
      · exact .inr hp
    · next hgx =>
      rw [if_neg hgx]
      exact h.schedules x hx
  · rw [enterState_mode] at h1 h2
    rw [grp_enterState]
    split
    · rw [enteredRecord_state]
      exact (hrest hR).resolve_left fun hm => hm.elim h1 h2
    · exact h.resting hR h1 h2 x

/-! ### Transition records -/

theorem inSet_eq_true {kd : ItemKind} {r : TransRec} {g : GroupId} :
    inSet kd r g = true ↔ ∃ it, itemOf r g = some it ∧ it.kind = kd := by
  unfold inSet
  cases itemOf r g <;> simp

theorem named_of_inSet {kd : ItemKind} {r : TransRec} {g : GroupId} (h : inSet kd r g = true) : named r g = true := by
  obtain ⟨it, hit, _⟩ := inSet_eq_true.1 h
  simp [named, hit]

@[simp] theorem mem_releases {r : TransRec} {g : GroupId} : g ∈ releases r ↔ inSet .release r g = true := by
  simp [releases]

theorem mem_liveRecs {s : State} {r : TransRec} : r ∈ liveRecs s ↔ ∃ k, slot s k = some r ∧ isLive r = true := by
  simp [liveRecs, allSlots, List.mem_filterMap, Option.filter_eq_some_iff]

/-- The releases of two records conflict somewhere. -/
theorem releasesConflict_eq_false {s : State} {a b : TransRec} :
    releasesConflict s a b = false ↔
      ∀ i j, inSet .release a i = true → inSet .release b j = true → conflicts s i j = false := by
  simp only [releasesConflict, List.any_eq_false, mem_releases, Bool.not_eq_true]
  exact ⟨fun h i j hi => h i hi j, fun h i hi j => h i j hi⟩

theorem isLive_of_active {r : TransRec} (h : r.state = .active) : isLive r = true := by simp [isLive, h]

/-- A record keeps its id, its state and no more items than it had. -/
structure Narrowed (r q : TransRec) : Prop where
  id : q.id = r.id
  state : q.state = r.state
  sets : ∀ kd g, inSet kd q g = true → inSet kd r g = true

theorem Narrowed.refl (r : TransRec) : Narrowed r r := ⟨rfl, rfl, fun _ _ => fun h => h⟩

theorem Narrowed.isLive_eq {r q : TransRec} (h : Narrowed r q) : isLive q = isLive r := by simp [isLive, h.state]

@[simp] theorem inSet_setOutcome (g h : GroupId) (o : ItemOutcome) (r : TransRec) (kd : ItemKind) :
    inSet kd (setOutcome g o r) h = inSet kd r h := by
  unfold inSet
  rw [itemOf_setOutcome]
  by_cases hg : g = h
  · subst hg
    cases hit : itemOf r g <;> simp
  · rw [if_neg hg]

theorem narrowed_setOutcome (g : GroupId) (o : ItemOutcome) (r : TransRec) : Narrowed r (setOutcome g o r) :=
  ⟨rfl, rfl, fun _ _ h => by simpa using h⟩

theorem inSet_dropItem (g h : GroupId) (r : TransRec) (kd : ItemKind) :
    inSet kd (dropItem g r) h = if g = h then false else inSet kd r h := by
  unfold inSet itemOf dropItem
  rw [look_put]
  split <;> simp_all

theorem narrowed_dropItem (g : GroupId) (r : TransRec) : Narrowed r (dropItem g r) :=
  ⟨rfl, rfl, fun kd h hq => by
    rw [inSet_dropItem] at hq
    split at hq
    · cases hq
    · exact hq⟩

/-- A record of the table after one was changed. -/
theorem exists_of_slot_modSlot {k j : SlotId} {f : TransRec → TransRec} {s : State} {q : TransRec}
    (h : slot (modSlot k f s) j = some q) : ∃ r, slot s j = some r ∧ q = if k = j then f r else r := by
  rw [slot_modSlot] at h
  split at h
  · next hk =>
    subst hk
    obtain ⟨r, hr, hq⟩ := Option.map_eq_some_iff.1 h
    exact ⟨r, hr, by rw [if_pos rfl, hq]⟩
  · next hk => exact ⟨q, h, by rw [if_neg hk]⟩

theorem narrowed_of_slot_modSlot {k j : SlotId} {f : TransRec → TransRec} {s : State} {q : TransRec}
    (hf : ∀ r, Narrowed r (f r)) (h : slot (modSlot k f s) j = some q) :
    ∃ r, slot s j = some r ∧ Narrowed r q := by
  obtain ⟨r, hr, rfl⟩ := exists_of_slot_modSlot h
  refine ⟨r, hr, ?_⟩
  split
  · exact hf r
  · exact .refl r

/-- The finish order is right after a change that brings no record to life and ends none. -/
theorem finishLaw_modSlot {k : SlotId} {f : TransRec → TransRec} {s : State} (h : FinishLaw s)
    (hf : ∀ r, slot s k = some r → isLive (f r) = isLive r) : FinishLaw (modSlot k f s) := by
  intro j
  rw [modSlot_finishOrder, h j]
  constructor
  · rintro ⟨r, hr, hl⟩
    rw [slot_modSlot]
    split
    · next hk =>
      subst hk
      exact ⟨f r, by rw [hr]; rfl, by rw [hf r hr]; exact hl⟩
    · exact ⟨r, hr, hl⟩
  · rintro ⟨q, hq, hl⟩
    obtain ⟨r, hr, rfl⟩ := exists_of_slot_modSlot hq
    refine ⟨r, hr, ?_⟩
    split at hl
    · next hk =>
      subst hk
      rw [hf r hr] at hl
      exact hl
    · exact hl

theorem RecordsSafe.modSlot {c : Scope} {s : State} (h : RecordsSafe c s) (k : SlotId) {f : TransRec → TransRec}
    (hf : ∀ r, Narrowed r (f r)) : RecordsSafe c (Machine.modSlot k f s) := by
  have hslot := fun {j q} (hq : slot (Machine.modSlot k f s) j = some q) => narrowed_of_slot_modSlot hf hq
  refine ⟨finishLaw_modSlot h.finish fun r _ => (hf r).isLive_eq, fun j l q r hq hr hid => ?_, fun j q hq hl => ?_,
    fun j q ht hq hl i x hi hx => ?_, fun j l q r hp hq hr hqa hra i x hi hx => ?_⟩
  · obtain ⟨q', hq', hnq⟩ := hslot hq
    obtain ⟨r', hr', hnr⟩ := hslot hr
    exact h.ids j l q' r' hq' hr' (by rw [← hnq.id, ← hnr.id]; exact hid)
  · obtain ⟨q', hq', hnq⟩ := hslot hq
    exact h.accepted j q' hq' (hnq.isLive_eq ▸ hl)
  · obtain ⟨q', hq', hnq⟩ := hslot hq
    exact h.releases j q' ht hq' (hnq.isLive_eq ▸ hl) i x (hnq.sets _ _ hi) (hnq.sets _ _ hx)
  · obtain ⟨q', hq', hnq⟩ := hslot hq
    obtain ⟨r', hr', hnr⟩ := hslot hr
    exact h.active j l q' r' hp hq' hr' (hnq.state ▸ hqa) (hnr.state ▸ hra) i x (hnq.sets _ _ hi) (hnr.sets _ _ hx)

/-- A claim stands on while its record keeps its id, its state and the item; one whose item goes is stale. -/
theorem ClaimsSafe.modSlot {X Y : GroupId → TransId → Prop} {s : State} (h : ClaimsSafe X s) (k : SlotId)
    {f : TransRec → TransRec} (hXY : ∀ g id, X g id → Y g id)
    (hf : ∀ r, slot s k = some r → r.state = .active → (f r).state = .active ∧ (f r).id = r.id ∧
      ∀ kd g, inSet kd r g = true → inSet kd (f r) g = true ∨ Y g r.id) : ClaimsSafe Y (Machine.modSlot k f s) := by
  intro g c hc
  rcases h g c hc with hx | ⟨j, r, hr, hact, hid, hin⟩
  · exact .inl (hXY g c.id hx)
  · by_cases hk : k = j
    · subst hk
      obtain ⟨hs, hi, hset⟩ := hf r hr hact
      rcases hset c.kind g hin with hin' | hy
      · exact .inr ⟨k, f r, by rw [slot_modSlot, if_pos rfl, hr]; rfl, hs, hi.trans hid, hin'⟩
      · exact .inl (hid ▸ hy)
    · exact .inr ⟨j, r, by rw [slot_modSlot, if_neg hk]; exact hr, hact, hid, hin⟩

end Sys2Proof.Machine
end

section
/-! SUPPORT. The signal group table and the release arbiter keep the laws of release (R10 to R17, R44 to R55). -/

namespace Sys2Proof.Machine

open Sys2Proof

/-! ### The id of a new record (R36) -/

/-- The offsets of R36 give different ids. -/
theorem offset_injective (x : TransId) (a b : Fin 9)
    (h : x + BitVec.ofNat 8 a.val = x + BitVec.ofNat 8 b.val) : a = b := by
  have hval := congrArg BitVec.toNat (BitVec.add_right_inj x |>.1 h)
  rw [BitVec.toNat_ofNat, BitVec.toNat_ofNat] at hval
  omega

theorem idHeld_eq_true {s : State} {id : TransId} : idHeld s id = true ↔ ∃ k r, slot s k = some r ∧ r.id = id := by
  simp [idHeld, allSlots, Option.any_eq_true]

/-- Eight records leave one of nine ids free, so no record holds the id of a new one. -/
theorem idHeld_nextId (s : State) : idHeld s (nextId s) = false := by
  unfold nextId
  cases hfind : ((List.range 9).map fun n => s.acceptCounter + BitVec.ofNat 8 n).find? fun id => !idHeld s id with
  | some id => simpa using List.find?_some hfind
  | none =>
    exfalso
    have hheld : ∀ n : Fin 9, ∃ k r, slot s k = some r ∧ r.id = s.acceptCounter + BitVec.ofNat 8 n.val := by
      intro n
      have hn := List.find?_eq_none.1 hfind _ (List.mem_map.2 ⟨n.val, List.mem_range.2 n.isLt, rfl⟩)
      exact idHeld_eq_true.1 (by simpa using hn)
    choose place r hslot hid using hheld
    have hinj : Function.Injective place := by
      intro a b hab
      have hr : r a = r b := Option.some.inj (by rw [← hslot a, ← hslot b, hab])
      exact offset_injective s.acceptCounter a b (by rw [← hid a, ← hid b, hr])
    have hcard := Fintype.card_le_of_injective place hinj
    simp at hcard

/-- A new record takes an empty slot or that of a finished record (R35). -/
theorem not_isLive_of_freeSlot {s : State} {k : SlotId} {r : TransRec} (hf : FinishLaw s) (hk : freeSlot s = some k)
    (hr : slot s k = some r) : isLive r = false := by
  unfold freeSlot at hk
  split at hk
  · next j hj =>
    have hnone := List.find?_some hj
    obtain rfl := Option.some.inj hk
    rw [hr] at hnone
    cases hnone
  · obtain ⟨q, hq, hl⟩ := (hf k).1 (List.mem_of_head? hk)
    rw [hr] at hq
    obtain rfl := Option.some.inj hq
    exact hl

/-! ### Records that are written, that finish and that become ACTIVE -/

theorem inSet_release_newItems {te re : List GroupId} {r : TransRec} (h : r.items = newItems te re) {i : GroupId}
    (hi : inSet .release r i = true) : i ∈ re := by
  obtain ⟨it, hit, hkind⟩ := inSet_eq_true.1 hi
  rw [itemOf, h, newItems, look_tabulate] at hit
  by_contra hne
  rw [if_neg hne] at hit
  split at hit
  · obtain rfl := Option.some.inj hit
    cases hkind
  · cases hit

/-- A record of the table after a new one was written. -/
theorem slot_writeRecordAt (k : SlotId) (cls : TClass) (origin : Origin) (te re : List GroupId)
    (call : Option TramCall) (s : State) :
    ∃ n : TransRec, n.id = nextId s ∧ n.state = .queued ∧ n.items = newItems te re ∧
      ∀ j, slot (writeRecordAt k cls origin te re call s) j = if k = j then some n else slot s j :=
  ⟨{ id := nextId s, cls := cls, origin := origin, items := newItems te re, hadRelease := !re.isEmpty, tram := call,
     acceptedAt := s.now, state := .queued, finishedAt := none, endCause := none }, rfl, rfl, rfl,
    fun j => by simp [slot, writeRecordAt, Machine.emit]⟩

theorem RecordsSafe.writeRecordAt {c : Scope} {s : State} (h : RecordsSafe c s) (k : SlotId) (cls : TClass)
    (origin : Origin) (te re : List GroupId) (call : Option TramCall)
    (hre : ∀ i ∈ re, ∀ j ∈ re, conflicts s i j = false) :
    RecordsSafe c (Machine.writeRecordAt k cls origin te re call s) := by
  obtain ⟨n, hid, hstate, hitems, hslot⟩ := slot_writeRecordAt k cls origin te re call s
  have hfresh : ∀ {j q}, slot s j = some q → q.id ≠ n.id := by
    intro j q hq hqn
    have hheld := idHeld_eq_true.2 ⟨j, q, hq, hqn.trans hid⟩
    rw [idHeld_nextId] at hheld
    cases hheld
  have hfinish : (Machine.writeRecordAt k cls origin te re call s).finishOrder = s.finishOrder.filter (· != k) := rfl
  have haccept : (Machine.writeRecordAt k cls origin te re call s).acceptOrder =
      s.acceptOrder.filter (· != k) ++ [k] := rfl
  have hconf : ∀ i j, conflicts (Machine.writeRecordAt k cls origin te re call s) i j = conflicts s i j :=
    fun _ _ => rfl
  refine ⟨fun j => ?_, fun j l q r hq hr hqr => ?_, fun j q hq hl => ?_, fun j q ht hq hl i x hi hx => ?_,
    fun j l q r hp hq hr hqa hra i x hi hx => ?_⟩
  · rw [hfinish, hslot]
    by_cases hkj : k = j
    · subst hkj
      simp [isLive, hstate]
    · simp [hkj, Ne.symm hkj, h.finish j]
  · rw [hslot] at hq hr
    split at hq <;> split at hr
    · next hj hl => rw [← hj, hl]
    · obtain rfl := Option.some.inj hq
      exact absurd hqr.symm (hfresh hr)
    · obtain rfl := Option.some.inj hr
      exact absurd hqr (hfresh hq)
    · exact h.ids j l q r hq hr hqr
  · rw [hslot] at hq
    rw [haccept]
    split at hq
    · next hkj => simp [hkj]
    · next hkj => simp [Ne.symm hkj, h.accepted j q hq hl]
  · rw [hconf]
    rw [hslot] at hq
    split at hq
    · obtain rfl := Option.some.inj hq
      exact hre i (inSet_release_newItems hitems hi) x (inSet_release_newItems hitems hx)
    · exact h.releases j q ht hq hl i x hi hx
  · rw [hconf]
    rw [hslot] at hq hr
    have hnew : ∀ {q : TransRec}, some n = some q → q.state ≠ .active := by
      intro q hq
      rw [← Option.some.inj hq, hstate]
      decide
    split at hq
    · exact absurd hqa (hnew hq)
    · split at hr
      · exact absurd hra (hnew hr)
      · exact h.active j l q r hp hq hr hqa hra i x hi hx

theorem ClaimsSafe.writeRecordAt {X : GroupId → TransId → Prop} {s : State} (h : ClaimsSafe X s) {k : SlotId}
    (hk : ∀ r, slot s k = some r → isLive r = false) (cls : TClass) (origin : Origin) (te re : List GroupId)
    (call : Option TramCall) : ClaimsSafe X (Machine.writeRecordAt k cls origin te re call s) := by
  obtain ⟨n, _, _, _, hslot⟩ := slot_writeRecordAt k cls origin te re call s
  intro g cl hcl
  refine (h g cl hcl).imp_right ?_
  rintro ⟨j, r, hr, hact, hid, hin⟩
  have hkj : k ≠ j := by
    rintro rfl
    have hl := hk r hr
    rw [isLive_of_active hact] at hl
    cases hl
  exact ⟨j, r, by rw [hslot, if_neg hkj]; exact hr, hact, hid, hin⟩

/-- The table with a record finished, its claims still standing (R35). -/
def finishedTable (k : SlotId) (r : TransRec) (st : TState) (cause : EndCause) (s : State) : State :=
  { s with
    slots := put s.slots k (some { r with state := st, finishedAt := some s.now, endCause := some cause })
    finishOrder := s.finishOrder.filter (· != k) ++ [k]
    acceptOrder := s.acceptOrder.filter (· != k) }

/-- A record finishes: the table takes it, and an ACTIVE one's claims are withdrawn (R35, R51, R52). -/
theorem finishRecord_eq {k : SlotId} {r : TransRec} {s : State} (hr : slot s k = some r) (st : TState)
    (cause : EndCause) :
    finishRecord k st cause s =
      emitAll [.arbiterExamine, .slotFree]
        (if r.state = .active then
          forEach (allGroups.filter (named r)) (withdrawClaim r.id) (finishedTable k r st cause s)
        else finishedTable k r st cause s) := by
  unfold finishRecord
  rw [hr]
  rfl

theorem slot_finishedTable (k j : SlotId) (r : TransRec) (st : TState) (cause : EndCause) (s : State) :
    slot (finishedTable k r st cause s) j =
      if k = j then some { r with state := st, finishedAt := some s.now, endCause := some cause } else slot s j := by
  simp [slot, finishedTable]

/-- A live record after another one finished. -/
theorem live_of_slot_finishedTable {k j : SlotId} {r q : TransRec} {st : TState} {cause : EndCause} {s : State}
    (hst : st = .done ∨ st = .cancelled) (hq : slot (finishedTable k r st cause s) j = some q)
    (hl : isLive q = true) : k ≠ j ∧ slot s j = some q := by
  rw [slot_finishedTable] at hq
  split at hq
  · obtain rfl := Option.some.inj hq
    rcases hst with rfl | rfl <;> cases hl
  · next hkj => exact ⟨hkj, hq⟩

theorem RecordsSafe.finishedTable {c : Scope} {s : State} (h : RecordsSafe c s) {k : SlotId} {r : TransRec}
    (hr : slot s k = some r) {st : TState} (hst : st = .done ∨ st = .cancelled) (cause : EndCause) :
    RecordsSafe c (Machine.finishedTable k r st cause s) := by
  have hsame : ∀ {j q}, slot (Machine.finishedTable k r st cause s) j = some q →
      ∃ q', slot s j = some q' ∧ q'.id = q.id := by
    intro j q hq
    rw [slot_finishedTable] at hq
    split at hq
    · next hkj =>
      obtain rfl := Option.some.inj hq
      exact ⟨r, hkj ▸ hr, rfl⟩
    · exact ⟨q, hq, rfl⟩
  have hfinish : (Machine.finishedTable k r st cause s).finishOrder = s.finishOrder.filter (· != k) ++ [k] := rfl
  have haccept : (Machine.finishedTable k r st cause s).acceptOrder = s.acceptOrder.filter (· != k) := rfl
  have hconf : ∀ i j, conflicts (Machine.finishedTable k r st cause s) i j = conflicts s i j := fun _ _ => rfl
  refine ⟨fun j => ?_, fun j l q p hq hp hid => ?_, fun j q hq hl => ?_, fun j q ht hq hl i x => ?_,
    fun j l q p hjl hq hp hqa hpa => ?_⟩
  · rw [hfinish, slot_finishedTable]
    by_cases hkj : k = j
    · subst hkj
      rcases hst with rfl | rfl <;> simp [isLive]
    · simp [hkj, Ne.symm hkj, h.finish j]
  · obtain ⟨q', hq', hqid⟩ := hsame hq
    obtain ⟨p', hp', hpid⟩ := hsame hp
    exact h.ids j l q' p' hq' hp' (by rw [hqid, hpid]; exact hid)
  · obtain ⟨hkj, hq'⟩ := live_of_slot_finishedTable hst hq hl
    rw [haccept]
    simp [Ne.symm hkj, h.accepted j q hq' hl]
  · rw [hconf]
    exact h.releases j q ht (live_of_slot_finishedTable hst hq hl).2 hl i x
  · have hq' := (live_of_slot_finishedTable hst hq (isLive_of_active hqa)).2
    have hp' := (live_of_slot_finishedTable hst hp (isLive_of_active hpa)).2
    exact h.active j l q p hjl hq' hp' hqa hpa

/-- The claims of the finished record alone are stale. -/
theorem ClaimsSafe.finishedTable {s : State} (h : ClaimsSafe noStale s) {k : SlotId} {r : TransRec}
    (hr : slot s k = some r) (st : TState) (cause : EndCause) :
    ClaimsSafe (fun g id => r.state = .active ∧ named r g = true ∧ id = r.id)
      (Machine.finishedTable k r st cause s) := by
  intro g cl hcl
  obtain ⟨j, q, hq, hact, hid, hin⟩ := (h g cl hcl).resolve_left fun hf => hf
  by_cases hkj : k = j
  · subst hkj
    rw [hr] at hq
    obtain rfl := Option.some.inj hq
    exact .inl ⟨hact, named_of_inSet hin, hid.symm⟩
  · exact .inr ⟨j, q, by rw [slot_finishedTable, if_neg hkj]; exact hq, hact, hid, hin⟩

/-- A record may become ACTIVE when its releases conflict with no ACTIVE one's (R44). -/
theorem RecordsSafe.activated {s : State} (h : RecordsSafe .all s) (hcfg : ConfigSafe s) {k : SlotId} {r : TransRec}
    (hr : slot s k = some r) (hq : r.state = .queued)
    (hfree : ∀ j q, slot s j = some q → q.state = .active → releasesConflict s q r = false) :
    RecordsSafe .all (Machine.modSlot k (fun q => { q with state := .active }) s) := by
  have hlive : isLive r = true := by simp [isLive, hq]
  have hsame : ∀ {j q}, slot (Machine.modSlot k (fun q => { q with state := .active }) s) j = some q →
      ∃ q', slot s j = some q' ∧ q.id = q'.id ∧ q.items = q'.items ∧ (isLive q = true → isLive q' = true) ∧
        ((k = j ∧ q' = r) ∨ q = q') := by
    intro j q hq
    obtain ⟨q', hq', rfl⟩ := exists_of_slot_modSlot hq
    by_cases hkj : k = j
    · subst hkj
      rw [hr] at hq'
      obtain rfl := Option.some.inj hq'
      rw [if_pos rfl]
      exact ⟨r, hr, rfl, rfl, fun _ => hlive, .inl ⟨rfl, rfl⟩⟩
    · rw [if_neg hkj]
      exact ⟨q', hq', rfl, rfl, fun hl => hl, .inr rfl⟩
  have hin : ∀ {q q' : TransRec} {i}, q.items = q'.items → inSet .release q i = true → inSet .release q' i = true := by
    intro q q' i hitems hi
    rw [inSet, itemOf, hitems] at hi
    exact hi
  have hown := h.releases k r trivial hr hlive
  refine ⟨finishLaw_modSlot h.finish fun q hq' => ?_, fun j l q p hq' hp hid => ?_, fun j q hq' hl => ?_,
    fun j q ht hq' hl i x hi hx => ?_, fun j l q p hjl hq' hp hqa hpa i x hi hx => ?_⟩
  · rw [hr] at hq'
    obtain rfl := Option.some.inj hq'
    rw [hlive]
    rfl
  · obtain ⟨q', hq'', hqid, _⟩ := hsame hq'
    obtain ⟨p', hp', hpid, _⟩ := hsame hp
    exact h.ids j l q' p' hq'' hp' (by rw [← hqid, ← hpid]; exact hid)
  · obtain ⟨q', hq'', _, _, hl', _⟩ := hsame hq'
    exact h.accepted j q' hq'' (hl' hl)
  · obtain ⟨q', hq'', _, hitems, hl', _⟩ := hsame hq'
    exact h.releases j q' ht hq'' (hl' hl) i x (hin hitems hi) (hin hitems hx)
  · show conflicts s i x = false
    obtain ⟨q', hq'', _, hqi, _, hqc⟩ := hsame hq'
    obtain ⟨p', hp', _, hpi, _, hpc⟩ := hsame hp
    have hi' := hin hqi hi
    have hx' := hin hpi hx
    rcases hqc with ⟨_, rfl⟩ | rfl <;> rcases hpc with ⟨_, rfl⟩ | rfl
    · exact hown i x hi' hx'
    · by_contra hc
      have hback := hcfg.conflicts_symm (by simpa using hc)
      rw [releasesConflict_eq_false.1 (hfree l p hp' hpa) x i hx' hi'] at hback
      cases hback
    · exact releasesConflict_eq_false.1 (hfree j q hq'' hqa) i x hi' hx'
    · exact h.active j l q p trivial hq'' hp' hqa hpa i x hi' hx'

/-- What R44 asks of a record that may become ACTIVE: its groups are free of claims, and its releases conflict with
no ACTIVE one's. -/
theorem mayActivate_spec {s : State} {superiors : List TransRec} {r : TransRec}
    (h : mayActivate s superiors r = true) :
    (∀ g, named r g = true → (grp s g).claim = none) ∧
      ∀ j q, slot s j = some q → q.state = .active → releasesConflict s q r = false := by
  simp only [mayActivate, Bool.and_eq_true, List.all_eq_true, mem_allGroups, forall_const, Bool.or_eq_true,
    Bool.not_eq_true', Option.isNone_iff_eq_none, bne_iff_ne] at h
  obtain ⟨⟨⟨hclaims, hactive⟩, _⟩, _⟩ := h
  refine ⟨fun g hg => (hclaims g).resolve_left (by simp [hg]), fun j q hq ha => ?_⟩
  exact (hactive q (mem_liveRecs.2 ⟨j, hq, isLive_of_active ha⟩)).resolve_left fun hne => hne ha

/-- A group in RED_WAIT may be scheduled while no group that conflicts with it is in proceed (R48). -/
theorem GroupsSafe.scheduled {R : Prop} {s : State} (h : GroupsSafe R s) {j : GroupId}
    (hst : (grp s j).state = .redWait) (hclaim : ∃ c, (grp s j).claim = some c ∧ c.kind = .release)
    (hfree : ∀ i, conflicts s i j = true → inProceed s i = false) (sch : Schedule) :
    GroupsSafe R (modGroup j (fun r => { r with schedule := some sch }) s) := by
  have hstate : ∀ g, (grp (modGroup j (fun r => { r with schedule := some sch }) s) g).state = (grp s g).state := by
    intro g
    rw [grp_modGroup]
    split
    · next hg => rw [hg]
    · rfl
  have hproceed : ∀ g, inProceed (modGroup j (fun r => { r with schedule := some sch }) s) g = inProceed s g :=
    fun g => by rw [inProceed, hstate, inProceed]
  refine ⟨h.unused.modGroup j fun _ => rfl, fun i x hc => ?_, fun g hg hsch => ?_, fun g hsch => ?_,
    fun hR h1 h2 g => ?_⟩
  · rw [hproceed, hproceed]
    exact h.apart i x hc
  · simp only [hproceed]
    rw [hstate] at hg
    rw [grp_modGroup] at hsch ⊢
    split at hsch
    · next hjg =>
      subst hjg
      rw [if_pos rfl]
      exact ⟨hclaim, hfree⟩
    · next hjg =>
      rw [if_neg hjg]
      exact h.waits g hg hsch
  · rw [hstate]
    rw [grp_modGroup] at hsch
    split at hsch
    · next hjg => exact .inl (hjg ▸ hst)
    · exact h.schedules g hsch
  · rw [hstate]
    exact h.resting hR h1 h2 g

namespace Safe

variable {c d : Scope} {X Y : GroupId → TransId → Prop} {s t : State}

/-! ### Frames -/

theorem of_groups (h : Safe c X s) (hi : imagesOf t = imagesOf s) (ht : tableOf t = tableOf s)
    (hm : t.mode = s.mode) (hg : ∀ g, Eased (grp s g) (grp t g))
    (hc : ∀ g, (grp t g).claim = none ∨ (grp t g).claim = (grp s g).claim) : Safe c X t where
  config := h.config.of_eq hi
  groups := h.groups.of_groups (active_of_imagesOf hi) hm hg
  records := h.records.of_eq (active_of_imagesOf hi) ht
  claims g cl hcl := by
    simp only [slot_congr (slots_of_tableOf ht)]
    rcases hc g with hn | he
    · rw [hn] at hcl
      cases hcl
    · exact h.claims g cl (he ▸ hcl)

/-- The laws read the images, the table, the groups and the mode. -/
theorem of_eq (h : Safe c X s) (hi : imagesOf t = imagesOf s) (ht : tableOf t = tableOf s) (hm : t.mode = s.mode)
    (hg : t.groups = s.groups) : Safe c X t :=
  h.of_groups hi ht hm (fun g => by rw [grp_congr hg]; exact .refl _) fun g => .inr (by rw [grp_congr hg])

/-- A change of mode keeps the laws, where it leaves a junction at rest with groups at rest. -/
theorem of_mode (h : Safe c X s) (hi : imagesOf t = imagesOf s) (ht : tableOf t = tableOf s)
    (hg : t.groups = s.groups) (htested : ∀ k, d.tested k → c.tested k) (hpaired : ∀ j k, d.paired j k → c.paired j k)
    (hrest : d.rests → t.mode ≠ .normal → t.mode ≠ .clearing →
      ∀ g, (grp s g).state = .dark ∨ (grp s g).state = .redMin) : Safe d X t := by
  have hu : Safe c X { t with mode := s.mode } := h.of_eq hi ht rfl hg
  exact
    { config := hu.config.of_eq rfl
      groups :=
        { hu.groups with
          resting := fun hR h1 h2 g => by rw [grp_congr hg]; exact hrest hR h1 h2 g }
      records := RecordsSafe.of_scope (s := t) (hu.records.of_eq rfl rfl) htested hpaired
      claims := hu.claims }

theorem of_scope (h : Safe c X s) (hr : d.rests → c.rests) (ht : ∀ k, d.tested k → c.tested k)
    (hp : ∀ j k, d.paired j k → c.paired j k) : Safe d X s :=
  h.of_mode rfl rfl rfl ht hp fun hR => h.groups.resting (hr hR)

/-- The stale claims may be named otherwise, as long as each that stands is named. -/
theorem restale (h : Safe c X s) (hXY : ∀ g cl, (grp s g).claim = some cl → X g cl.id → Y g cl.id) : Safe c Y s :=
  { h with claims := fun g cl hcl => (h.claims g cl hcl).imp_left (hXY g cl hcl) }

theorem emit (h : Safe c X s) (x : Handoff) : Safe c X (Machine.emit x s) := h.of_eq rfl rfl rfl rfl

theorem emitAll (h : Safe c X s) (xs : List Handoff) : Safe c X (Machine.emitAll xs s) := h.of_eq rfl rfl rfl rfl

theorem handOn (h : Safe c X s) (f : Neighbour → Option Handoff) : Safe c X (Machine.handOn f s) :=
  h.of_eq rfl rfl rfl rfl

theorem raise (h : Safe c X s) (n : Notice) (r : Role) : Safe c X (Machine.raise n r s) := by
  rw [raise_frame]
  exact h.of_eq rfl rfl rfl rfl

theorem raiseFor (h : Safe c X s) (n : Notice) (rs : List Role) : Safe c X (Machine.raiseFor n rs s) := by
  rw [raiseFor_frame]
  exact h.of_eq rfl rfl rfl rfl

theorem modTram (h : Safe c X s) (k : EntryId) (f : TramRec → TramRec) : Safe c X (Machine.modTram k f s) :=
  h.of_eq rfl rfl rfl rfl

theorem modStats (h : Safe c X s) (a : ApproachId) (f : TramStats → TramStats) : Safe c X (Machine.modStats a f s) :=
  h.of_eq rfl rfl rfl rfl

/-! ### Signal group table -/

theorem modGroup (h : Safe c X s) (g : GroupId) {f : GroupRec → GroupRec} (hf : Eased (grp s g) (f (grp s g)))
    (hc : (f (grp s g)).claim = none ∨ (f (grp s g)).claim = (grp s g).claim) :
    Safe c X (Machine.modGroup g f s) := by
  refine h.of_groups rfl rfl rfl (fun i => ?_) fun i => ?_
  · rw [grp_modGroup]
    split
    · next hg => exact hg ▸ hf
    · exact .refl _
  · rw [grp_modGroup]
    split
    · next hg => exact hg ▸ hc
    · exact .inr rfl

/-- A write to a group record but for its state, its schedule and its claim. -/
theorem modGroup_of_same (h : Safe c X s) (g : GroupId) {f : GroupRec → GroupRec}
    (hf : ∀ r, (f r).state = r.state ∧ (f r).schedule = r.schedule ∧ (f r).claim = r.claim) :
    Safe c X (Machine.modGroup g f s) := by
  obtain ⟨hs, hsch, hc⟩ := hf (grp s g)
  exact h.modGroup g (eased_of_same hs hsch hc) (.inr hc)

theorem enterState (h : Safe c X s) (g : GroupId) (st : GState) (hu : used s g = true ∨ st = .dark)
    (hfree : proceedState st = true → Unopposed s g) (hsch : (grp s g).schedule = none ∨ st = .prepare)
    (hrest : c.rests → (s.mode = .normal ∨ s.mode = .clearing) ∨ st = .dark ∨ st = .redMin) :
    Safe c X (Machine.enterState g st s) where
  config := h.config.of_eq (by rw [enterState_frame]; rfl)
  groups := h.groups.enterState h.config g st hu hfree hsch hrest
  records := h.records.of_eq (enterState_active g st s) (by rw [enterState_frame]; rfl)
  claims i cl hcl := by
    have hsame : (grp (Machine.enterState g st s) i).claim = (grp s i).claim := by
      rw [grp_enterState]
      split
      · next hg => rw [enteredRecord_claim, hg]
      · rfl
    simp only [slot_congr (enterState_slots g st s)]
    exact h.claims i cl (hsame ▸ hcl)

theorem unscheduled (h : Safe c X s) {g : GroupId} {st : GState} (hst : (grp s g).state = st)
    (hw : st ≠ .redWait := by decide) (hp : st ≠ .prepare := by decide) : (grp s g).schedule = none :=
  h.groups.unscheduled (hst ▸ hw) (hst ▸ hp)

/-- A group that is neither DARK nor in RED_MIN, and has no schedule, may enter a state that does not proceed. -/
theorem leaveState (h : Safe c X s) (g : GroupId) {st : GState} (hst : proceedState st = false)
    (hsch : (grp s g).schedule = none) (hd : (grp s g).state ≠ .dark) (hr : (grp s g).state ≠ .redMin) :
    Safe c X (Machine.enterState g st s) :=
  h.enterState g st (.inl (h.groups.unused.used_of_ne_dark hd)) (fun hp => by rw [hst] at hp; cases hp) (.inl hsch)
    fun hR => .inl (h.groups.mode_of_not_resting hd hr hR)

theorem enterClear (h : Safe c X s) {g : GroupId} (hst : (grp s g).state = .greenMin ∨ (grp s g).state = .green) :
    Safe c X (Machine.enterClear g s) := by
  have hsch : (grp s g).schedule = none := hst.elim (fun hst => h.unscheduled hst) fun hst => h.unscheduled hst
  refine leaveState ?_ g rfl (by simpa using hsch) ?_ ?_
  · exact h.modGroup_of_same g fun _ => ⟨rfl, rfl, rfl⟩
  · rcases hst with hst | hst <;> simp [hst]
  · rcases hst with hst | hst <;> simp [hst]

theorem takeTerminate (h : Safe c X s) (g : GroupId) : Safe c X (Machine.takeTerminate g s) := by
  unfold Machine.takeTerminate
  split
  · next hc => exact h.enterClear (.inr hc.1)
  · exact h

theorem withdrawClaim (h : Safe c X s) (id : TransId) (g : GroupId) : Safe c X (Machine.withdrawClaim id g s) := by
  unfold Machine.withdrawClaim
  split
  · exact h
  · split
    · dsimp only
      split
      · next hw =>
        refine leaveState ?_ g rfl (by simp) (by simp [hw]) (by simp [hw])
        refine h.of_groups rfl rfl rfl (fun i => ?_) fun i => ?_ <;> rw [grp_modGroup]
        · split
          · next hg => subst hg; exact eased_of_unscheduled (by simp) rfl
          · next hg => rw [grp_modGroup, if_neg hg]; exact .refl _
        · split
          · next hg => subst hg; exact .inl (by simp)
          · next hg => rw [grp_modGroup, if_neg hg]; exact .inr rfl
      · next hw => exact h.modGroup g ⟨rfl, .inr rfl, fun hst => absurd hst hw⟩ (.inl rfl)
    · exact h

/-- After a withdrawal the group has no claim of the id. -/
theorem claim_ne_of_withdrawClaim {id : TransId} {g : GroupId} {s : State} {cl : Claim}
    (h : (grp (Machine.withdrawClaim id g s) g).claim = some cl) : cl.id ≠ id := by
  cases hc : (grp s g).claim with
  | none =>
    rw [Machine.withdrawClaim, hc] at h
    rw [hc] at h
    cases h
  | some c =>
    by_cases hid : c.id = id
    · rw [(claimWithdrawn_withdrawClaim hc hid).claim] at h
      cases h
    · simp only [Machine.withdrawClaim, hc, hid, if_false] at h
      rw [← Option.some.inj h]
      exact hid

/-- The withdrawals of an id leave no stale claim of it on the groups gone through. -/
theorem withdrawClaims (id : TransId) (l : List GroupId) : ∀ (X : GroupId → TransId → Prop) (s : State), Safe c X s →
    Safe c (fun g i => X g i ∧ ¬ (g ∈ l ∧ i = id)) (forEach l (Machine.withdrawClaim id) s) := by
  induction l with
  | nil => exact fun X s h => h.restale fun g cl _ hx => ⟨hx, fun hm => absurd hm.1 List.not_mem_nil⟩
  | cons a l ih =>
    intro X s h
    have h1 : Safe c (fun g i => X g i ∧ ¬ (g = a ∧ i = id)) (Machine.withdrawClaim id a s) :=
      (h.withdrawClaim id a).restale fun g cl hcl hx =>
        ⟨hx, fun hg => claim_ne_of_withdrawClaim (hg.1 ▸ hcl) hg.2⟩
    refine (ih _ _ h1).restale fun g cl _ hx => ?_
    obtain ⟨⟨hx, hne⟩, hnl⟩ := hx
    refine ⟨hx, fun hm => ?_⟩
    rcases List.mem_cons.1 hm.1 with hg | hg
    · exact hne ⟨hg, hm.2⟩
    · exact hnl ⟨hg, hm.2⟩

theorem setHoldUntil (h : Safe c X s) (g : GroupId) (x : Option Time) : Safe c X (Machine.setHoldUntil g x s) := by
  unfold Machine.setHoldUntil
  split
  · refine takeTerminate (h.modGroup_of_same g ?_) g
    exact fun _ => ⟨rfl, rfl, rfl⟩
  · exact h

theorem junctionTerminate (h : Safe c X s) (g : GroupId) : Safe c X (Machine.junctionTerminate g s) := by
  unfold Machine.junctionTerminate
  split
  · refine takeTerminate (h.modGroup_of_same g ?_) g
    exact fun _ => ⟨rfl, rfl, rfl⟩
  · exact h

/-! ### Records -/

/-- A record whose sets stay as they are. -/
theorem modSlot (h : Safe c X s) (k : SlotId) {f : TransRec → TransRec} (hf : ∀ r, Narrowed r (f r))
    (hset : ∀ r kd g, inSet kd r g = true → inSet kd (f r) g = true) : Safe c X (Machine.modSlot k f s) where
  config := h.config.of_eq rfl
  groups := h.groups.of_groups rfl rfl fun _ => .refl _
  records := h.records.modSlot k hf
  claims := h.claims.modSlot k (fun _ _ hx => hx) fun r _ ha =>
    ⟨(hf r).state.trans ha, (hf r).id, fun kd g hin => .inl (hset r kd g hin)⟩

theorem setOutcome (h : Safe c X s) (k : SlotId) (g : GroupId) (o : ItemOutcome) :
    Safe c X (Machine.modSlot k (Machine.setOutcome g o) s) :=
  h.modSlot k (narrowed_setOutcome g o) fun r kd i hin => by rw [inSet_setOutcome]; exact hin

/-- An item goes with the claim it stands for. -/
theorem withdrawItem (h : Safe c noStale s) (k : SlotId) (g : GroupId) {id : TransId}
    (hid : ∀ r, slot s k = some r → r.id = id) :
    Safe c noStale (Machine.withdrawClaim id g (Machine.modSlot k (dropItem g) s)) := by
  have h1 : Safe c (fun i x => i = g ∧ x = id) (Machine.modSlot k (dropItem g) s) :=
    { config := h.config.of_eq rfl
      groups := h.groups.of_groups rfl rfl fun _ => .refl _
      records := h.records.modSlot k (narrowed_dropItem g)
      claims := h.claims.modSlot k (fun _ _ hf => hf.elim) fun r hr ha =>
        ⟨ha, rfl, fun kd i hin => by
          by_cases hgi : g = i
          · exact .inr ⟨hgi.symm, hid r hr⟩
          · exact .inl (by rw [inSet_dropItem, if_neg hgi]; exact hin)⟩ }
  exact (h1.withdrawClaim id g).restale fun i cl hcl hx => claim_ne_of_withdrawClaim (hx.1 ▸ hcl) hx.2

theorem writeRecordAt (h : Safe c X s) {k : SlotId} (hk : freeSlot s = some k) (cls : TClass) (origin : Origin)
    (te re : List GroupId) (call : Option TramCall) (hre : ∀ i ∈ re, ∀ j ∈ re, conflicts s i j = false) :
    Safe c X (Machine.writeRecordAt k cls origin te re call s) := by
  have hfree : ∀ r, slot s k = some r → isLive r = false :=
    fun r hr => not_isLive_of_freeSlot h.records.finish hk hr
  exact
    { config := h.config.of_eq rfl
      groups := h.groups.of_groups rfl rfl fun _ => .refl _
      records := h.records.writeRecordAt k cls origin te re call hre
      claims := h.claims.writeRecordAt hfree cls origin te re call }

/-! ### Release arbiter -/

theorem finishRecord (h : Safe c noStale s) (k : SlotId) {st : TState} (hst : st = .done ∨ st = .cancelled)
    (cause : EndCause) : Safe c noStale (Machine.finishRecord k st cause s) := by
  cases hr : slot s k with
  | none =>
    unfold Machine.finishRecord
    rw [hr]
    exact h
  | some r =>
    rw [finishRecord_eq hr]
    have h1 : Safe c (fun g id => r.state = .active ∧ named r g = true ∧ id = r.id) (finishedTable k r st cause s) :=
      { config := h.config.of_eq rfl
        groups := h.groups.of_groups rfl rfl fun _ => .refl _
        records := h.records.finishedTable hr hst cause
        claims := h.claims.finishedTable hr st cause }
    refine emitAll ?_ _
    split
    · refine (withdrawClaims r.id _ _ _ h1).restale fun g cl _ hx => ?_
      obtain ⟨⟨_, hnamed, hid⟩, hgone⟩ := hx
      exact hgone ⟨by simpa using hnamed, hid⟩
    · next hna => exact h1.restale fun g cl _ hx => hna hx.1

theorem noticeOrigin (h : Safe c X s) (r : TransRec) : Safe c X (Machine.noticeOrigin r s) := by
  unfold Machine.noticeOrigin
  split
  · exact h.raise _ _
  · exact h

theorem completeIfDone (h : Safe c noStale s) (k : SlotId) : Safe c noStale (Machine.completeIfDone k s) := by
  unfold Machine.completeIfDone
  split
  · exact h
  · split
    · exact (h.finishRecord k (.inl rfl) .completed).noticeOrigin _
    · exact h

theorem handCancelled (h : Safe c X s) (r : TransRec) (cause : EndCause) :
    Safe c X (Machine.handCancelled r cause s) := by
  unfold Machine.handCancelled
  split
  · exact h
  · exact h.emit _
  · exact h
  · exact h.noticeOrigin r

theorem cancelRecord (h : Safe c noStale s) (cause : EndCause) (k : SlotId) :
    Safe c noStale (Machine.cancelRecord cause k s) := by
  unfold Machine.cancelRecord
  split
  · exact h
  · split
    · exact (h.finishRecord k (.inr rfl) cause).handCancelled _ cause
    · exact h

theorem cancelAll (h : Safe c noStale s) (cause : EndCause) : Safe c noStale (Machine.cancelAll cause s) :=
  forEach_keeps (Safe c noStale) _ _ (fun k _ _ ht => ht.cancelRecord cause k) s h

theorem dropRelease (h : Safe c noStale s) (k : SlotId) (g : GroupId) :
    Safe c noStale (Machine.dropRelease k g s) := by
  unfold Machine.dropRelease
  split
  · exact h
  · next r hr =>
    have h1 := h.withdrawItem k g (id := r.id) fun q hq => by rw [hr] at hq; rw [← Option.some.inj hq]
    dsimp only
    split
    · exact h1.cancelRecord .redLost k
    · exact (h1.noticeOrigin r).completeIfDone k

theorem takeLostMarking (h : Safe c noStale s) (i : GroupId) : Safe c noStale (Machine.takeLostMarking i s) := by
  refine forEach_keeps (Safe c noStale) _ _ (fun j _ t ht => ?_) s h
  split
  · exact ht
  · split
    · exact ht
    · split
      · exact ht.dropRelease _ j
      · exact ht

theorem dropLostReleases (h : Safe c noStale s) (k : SlotId) : Safe c noStale (Machine.dropLostReleases k s) := by
  refine forEach_keeps (Safe c noStale) _ _ (fun j _ t ht => ?_) s h
  split
  · exact ht.dropRelease k j
  · exact ht

/-- An ACTIVE record's claim may be placed on a group without one (R45). -/
theorem placeClaim (h : Safe c X s) {k : SlotId} {r : TransRec} {g : GroupId} {kd : ItemKind} (hr : slot s k = some r)
    (ha : r.state = .active) (hin : inSet kd r g = true) (hfree : (grp s g).claim = none) :
    Safe c X (Machine.modGroup g (fun q => { q with claim := some { id := r.id, kind := kd } }) s) where
  config := h.config.of_eq rfl
  groups := by
    refine h.groups.of_groups rfl rfl fun i => ?_
    rw [grp_modGroup]
    split
    · next hg =>
      subst hg
      refine ⟨rfl, .inr rfl, fun hst hsch => ?_⟩
      obtain ⟨⟨cl, hcl, _⟩, _⟩ := h.groups.waits g hst hsch
      rw [hfree] at hcl
      cases hcl
    · exact .refl _
  records := h.records.of_eq rfl rfl
  claims i cl hcl := by
    rw [grp_modGroup] at hcl
    split at hcl
    · next hg =>
      subst hg
      obtain rfl := Option.some.inj hcl
      exact .inr ⟨k, r, hr, ha, rfl, hin⟩
    · exact h.claims i cl hcl

theorem settleItem (h : Safe c X s) {k : SlotId} {r : TransRec} {g : GroupId} (hr : slot s k = some r)
    (ha : r.state = .active) (hfree : named r g = true → (grp s g).claim = none) :
    Safe c X (Machine.settleItem k g s) := by
  unfold Machine.settleItem
  rw [hr]
  dsimp only
  split
  · exact h
  · next it hit =>
    have h1 := h.placeClaim hr ha (inSet_eq_true.2 ⟨it, hit, rfl⟩) (hfree (by simp [named, hit]))
    split
    · split
      · exact h1.modGroup_of_same g fun _ => ⟨rfl, rfl, rfl⟩
      · exact h1.setOutcome k g .satisfied
    · split
      · exact h1.setOutcome k g .satisfied
      · split
        · next hred =>
          have hstate : (grp (Machine.modGroup g
              (fun q => { q with claim := some { id := r.id, kind := it.kind } }) s) g).state = .red := by
            simpa using hred
          exact h1.leaveState g rfl (h1.unscheduled hstate) (by rw [hstate]; decide) (by rw [hstate]; decide)
        · exact h1

/-- The settling of one item leaves the other groups alone. -/
theorem settleItem_others (k : SlotId) {g i : GroupId} (s : State) (hgi : g ≠ i) :
    grp (Machine.settleItem k g s) i = grp s i := by
  unfold Machine.settleItem
  split
  · rfl
  · split
    · rfl
    · dsimp only
      split
      · split <;> simp [hgi]
      · split
        · simp [hgi]
        · split <;> simp [hgi]

/-- The settling of one item changes an outcome of its record at most. -/
theorem slot_settleItem {k : SlotId} {r : TransRec} (g : GroupId) {s : State} (hr : slot s k = some r) :
    ∃ q, slot (Machine.settleItem k g s) k = some q ∧ q.state = r.state ∧ ∀ i, named q i = named r i := by
  have hout : ∀ t : State, t.slots = s.slots → ∃ q,
      slot (Machine.modSlot k (Machine.setOutcome g .satisfied) t) k = some q ∧ q.state = r.state ∧
        ∀ i, named q i = named r i := fun t ht =>
    ⟨Machine.setOutcome g .satisfied r, by rw [slot_modSlot, if_pos rfl, slot_congr ht, hr]; rfl, rfl,
      fun i => named_setOutcome g i _ r⟩
  unfold Machine.settleItem
  rw [hr]
  dsimp only
  split
  · exact ⟨r, hr, rfl, fun _ => rfl⟩
  · split
    · split
      · exact ⟨r, hr, rfl, fun _ => rfl⟩
      · exact hout _ rfl
    · split
      · exact hout _ rfl
      · split
        · exact ⟨r, by rw [slot_congr (enterState_slots _ _ _)]; exact hr, rfl, fun _ => rfl⟩
        · exact ⟨r, hr, rfl, fun _ => rfl⟩

/-- Every item of a record whose groups are free of claims is settled. -/
theorem settleItems {k : SlotId} (l : List GroupId) (hl : l.Nodup) : ∀ (s : State) (r : TransRec), Safe c X s →
    slot s k = some r → r.state = .active → (∀ g ∈ l, named r g = true → (grp s g).claim = none) →
    Safe c X (forEach l (Machine.settleItem k) s) := by
  induction l with
  | nil => exact fun s r h _ _ _ => h
  | cons a l ih =>
    intro s r h hr ha hfree
    obtain ⟨hal, hl'⟩ := List.nodup_cons.1 hl
    obtain ⟨q, hq, hqs, hqn⟩ := slot_settleItem a hr
    rw [forEach_cons]
    refine ih hl' _ q (h.settleItem hr ha (hfree a List.mem_cons_self)) hq (hqs.trans ha) fun g hg hn => ?_
    rw [settleItem_others k s (by rintro rfl; exact hal hg)]
    exact hfree g (List.mem_cons_of_mem a hg) (by rw [← hqn]; exact hn)

theorem takePlaced (h : Safe c X s) (id : TransId) : Safe c X (Machine.takePlaced id s) := by
  refine forEach_keeps (Safe c X) _ _ (fun g _ t ht => ?_) s h
  split
  · exact ht.takeTerminate g
  · exact ht

/-- A record that R44 lets become ACTIVE. -/
theorem activate (h : Safe .all noStale s) {k : SlotId} {r : TransRec} {superiors : List TransRec}
    (hr : slot s k = some r) (hq : r.state = .queued) (hmay : mayActivate s superiors r = true) :
    Safe .all noStale (Machine.activate k s) := by
  obtain ⟨hclaims, hfree⟩ := mayActivate_spec hmay
  have h1 : Safe .all noStale (Machine.modSlot k (fun q => { q with state := .active }) s) :=
    { config := h.config.of_eq rfl
      groups := h.groups.of_groups rfl rfl fun _ => .refl _
      records := h.records.activated h.config hr hq hfree
      claims := h.claims.modSlot k (fun _ _ hx => hx) fun _ _ _ => ⟨rfl, rfl, fun _ _ hin => .inl hin⟩ }
  have h2 := settleItems (k := k) allGroups nodup_allGroups _ { r with state := .active } h1
    (by rw [slot_modSlot, if_pos rfl, hr]; rfl) rfl fun g _ hn => hclaims g hn
  unfold Machine.activate
  rw [hr]
  exact ((h2.dropLostReleases k).takePlaced r.id).completeIfDone k

theorem activationPass (ks : List SlotId) : ∀ (superiors : List TransRec) (s : State), Safe .all noStale s →
    Safe .all noStale (Machine.activationPass ks superiors s) := by
  induction ks with
  | nil => exact fun _ _ h => h
  | cons k rest ih =>
    intro superiors s h
    unfold Machine.activationPass
    split
    · exact ih _ _ h
    · next r hr =>
      split
      · next hq =>
        split
        · next hmay => exact ih _ _ (h.activate hr hq hmay)
        · exact ih _ _ h
      · exact ih _ _ h

theorem scheduleGroup (h : Safe c X s) (j : GroupId) : Safe c X (Machine.scheduleGroup j s) := by
  unfold Machine.scheduleGroup
  split
  · next hmay =>
    obtain ⟨⟨hst, _, k, r, _, _, hcl⟩, hfree, _⟩ := (maySchedule_iff s j).1 hmay
    exact
      { config := h.config.of_eq rfl
        groups := h.groups.scheduled hst ⟨_, hcl, rfl⟩ (fun i hi => (hfree i hi).1) _
        records := h.records.of_eq rfl rfl
        claims := fun g cl hclaim => h.claims g cl (by
          rw [grp_modGroup] at hclaim
          split at hclaim
          · next hg => exact hg ▸ hclaim
          · exact hclaim) }
  · exact h

theorem examineScheduling (h : Safe c X s) : Safe c X (Machine.examineScheduling s) :=
  forEach_keeps (Safe c X) _ _ (fun j _ _ ht => ht.scheduleGroup j) s h

theorem examineSchedule (h : Safe c X s) : Safe c X (Machine.examineSchedule s) := by
  unfold Machine.examineSchedule
  split
  · exact h.examineScheduling
  · exact h

theorem examineArbiter (h : Safe .all noStale s) : Safe .all noStale (Machine.examineArbiter s) := by
  unfold Machine.examineArbiter
  split
  · exact (activationPass _ _ s h).examineScheduling
  · exact h

theorem markReached (h : Safe c noStale s) (g : GroupId) (kd : ItemKind) :
    Safe c noStale (Machine.markReached g kd s) := by
  unfold Machine.markReached
  split
  · exact h
  · split
    · split
      · exact h
      · dsimp only
        split
        · exact (h.setOutcome _ g .reached).completeIfDone _
        · exact h
    · exact h

theorem arbiterEntry (h : Safe .all noStale s) (g : GroupId) (st : GState) :
    Safe .all noStale (Machine.arbiterEntry g st s) := by
  unfold Machine.arbiterEntry
  dsimp only
  split
  · exact (h.markReached g .release).examineArbiter
  · exact (h.markReached g .terminate).examineArbiter
  · exact h.examineArbiter

theorem cancelTramCall (h : Safe c noStale s) (id : TransId) : Safe c noStale (Machine.cancelTramCall id s) := by
  unfold Machine.cancelTramCall
  split
  · exact h
  · exact h.cancelRecord .tramEngine _

theorem updateTramCall (h : Safe c X s) (id : TransId) (call : TramCall) :
    Safe c X (Machine.updateTramCall id call s) := by
  unfold Machine.updateTramCall
  split
  · exact h
  · refine emit (h.modSlot _ (fun r => ?_) fun r kd g hin => ?_) _
    · exact ⟨rfl, rfl, fun _ _ hin => hin⟩
    · exact hin

end Safe

end Sys2Proof.Machine
end

section
/-! SUPPORT. The tram priority engine, the demand logic, the detectors and the junction mode controller keep the laws of
release (R58 to R69, R111 to R117, R130 to R145). -/

namespace Sys2Proof.Machine

open Sys2Proof

namespace Safe

variable {c d : Scope} {X : GroupId → TransId → Prop} {s t : State}

/-! ### Tram priority engine -/

theorem takeHold (h : Safe c X s) (k : EntryId) (r : TramRec) (x : Time) (capped : Bool) :
    Safe c X (Machine.takeHold k r x capped s) := by
  unfold Machine.takeHold
  generalize (if after x s.now = true then TramState.holding else TramState.overdue) = st
  have h1 := h.modTram k (fun r => { r with holdEnd := some x, capped := capped, state := st, awaitsSlot := false })
  exact iteInduction (motive := Safe c X) (fun _ => h1.modStats _ _) fun _ => h1

theorem computeHold (h : Safe c X s) (k : EntryId) (r : TramRec) : Safe c X (Machine.computeHold k r s) := by
  unfold Machine.computeHold
  have h1 := h.takeHold k r (holdEndOf s r).1 (holdEndOf s r).2
  exact iteInduction (motive := Safe c X) (fun _ => h1.modStats _ _) fun _ => h1

/-- The call of a tram releases one group, which does not conflict with itself (R136). -/
theorem postCall (h : Safe c X s) (k : EntryId) (r : TramRec) : Safe c X (Machine.postCall k r s) := by
  unfold Machine.postCall
  split
  · exact h.modTram k _
  · next slt hslt =>
    refine modStats (modTram (h.writeRecordAt hslt _ _ _ _ _ fun i hi j hj => ?_) k _) _ _
    rw [List.mem_singleton.1 hi, List.mem_singleton.1 hj]
    exact h.config.conflicts_self _

theorem cancelCall (h : Safe c noStale s) (k : EntryId) (r : TramRec) :
    Safe c noStale (Machine.cancelCall k r s) := by
  unfold Machine.cancelCall
  split
  · exact h
  · exact (h.cancelTramCall _).modTram k _

theorem setTramState (h : Safe c X s) (k : EntryId) (st : TramState) : Safe c X (Machine.setTramState k st s) :=
  h.modTram k _

theorem recomputeHold (h : Safe c X s) (g : GroupId) : Safe c X (Machine.recomputeHold g s) := h.setHoldUntil g _

theorem evaluate (h : Safe c noStale s) (k : EntryId) (anew : Bool) : Safe c noStale (Machine.evaluate k anew s) := by
  unfold Machine.evaluate
  split
  · exact h
  · next r _ =>
    refine recomputeHold ?_ _
    split
    · exact (h.cancelCall k r).setTramState k _
    · split
      · split
        · exact h.takeHold k r _ _
        · exact h.takeHold k r _ _
        · exact h.computeHold k r
      · split
        · exact h.setTramState k _
        · split
          · exact h.setTramState k _
          · split
            · exact (h.setTramState k _).postCall k r
            · exact h.setTramState k _

theorem takeSlotFree (h : Safe c X s) : Safe c X (Machine.takeSlotFree s) := by
  unfold Machine.takeSlotFree
  split
  · exact h
  · split
    · exact h.postCall _ _
    · exact h

theorem dropAtGreen (h : Safe c noStale s) (g : GroupId) (k : EntryId) :
    Safe c noStale (Machine.dropAtGreen g k s) := by
  unfold Machine.dropAtGreen
  split
  · exact h
  · split
    · split
      · exact h
      · exact modTram (iteInduction (motive := Safe c noStale) (fun _ => h.cancelTramCall _) fun _ => h) k _
    · exact h

theorem dropHold (h : Safe c X s) (g : GroupId) (k : EntryId) : Safe c X (Machine.dropHold g k s) := by
  unfold Machine.dropHold
  split
  · exact h
  · split
    · exact h.modTram k _
    · exact h

theorem tramEntry (h : Safe c noStale s) (g : GroupId) (st : GState) :
    Safe c noStale (Machine.tramEntry g st s) := by
  unfold Machine.tramEntry
  split
  · exact (forEach_keeps (Safe c noStale) _ _ (fun k _ _ ht => ht.dropAtGreen g k) s h).emitAll _
  · exact (forEach_keeps (Safe c noStale) _ _ (fun k _ _ ht => ht.dropHold g k) s h).emitAll _
  · exact h

theorem tramCancelled (h : Safe c noStale s) (id : TransId) : Safe c noStale (Machine.tramCancelled id s) := by
  unfold Machine.tramCancelled
  split
  · exact h
  · exact (h.modTram _ _).evaluate _ _

theorem changeGroup (h : Safe c noStale s) (k : EntryId) (r : TramRec) (g : GroupId) :
    Safe c noStale (Machine.changeGroup k r g s) := ((h.cancelCall k r).modTram k _).recomputeHold _

theorem updateTram (h : Safe c noStale s) (k : EntryId) (r : TramRec) (ci : CheckIn) (g : GroupId) :
    Safe c noStale (Machine.updateTram k r ci g s) := by
  unfold Machine.updateTram
  have h1 := h.modTram k fun q =>
    { q with
      line := ci.line, route := ci.route, source := ci.source, checkInAt := s.now,
      lateness := ci.lateness, level := tramLevel (cfg s) ci.line ci.lateness,
      arrival := predictedArrival s ci.distance ci.speed }
  dsimp only
  split
  · refine evaluate ?_ k false
    split
    · refine recomputeHold (computeHold ?_ k _) g
      split
      · exact h1.updateTramCall _ _
      · exact h1
    · split
      · exact h1.updateTramCall _ _
      · exact h1
  · exact (h1.changeGroup k _ g).evaluate k false

theorem takeCheckIn (h : Safe c noStale s) (ci : CheckIn) : Safe c noStale (Machine.takeCheckIn ci s).1 := by
  unfold Machine.takeCheckIn
  split
  · exact h
  · split
    · split
      · exact h.updateTram _ _ ci _
      · exact h
    · split
      · refine evaluate ?_ _ _
        exact h.of_eq rfl rfl rfl rfl
      · exact h

theorem removeTram (h : Safe c noStale s) (k : EntryId) (r : TramRec) :
    Safe c noStale (Machine.removeTram k r s) := by
  unfold Machine.removeTram
  have h1 : Safe c noStale { Machine.cancelCall k r s with trams := put (Machine.cancelCall k r s).trams k none } :=
    (h.cancelCall k r).of_eq rfl rfl rfl rfl
  exact iteInduction (motive := Safe c noStale) (fun _ => h1.recomputeHold _) fun _ => h1

theorem checkOut (h : Safe c noStale s) (k : EntryId) (r : TramRec) : Safe c noStale (Machine.checkOut k r s) :=
  (h.modStats _ _).removeTram k r

theorem loseTram (h : Safe c noStale s) (k : EntryId) (r : TramRec) : Safe c noStale (Machine.loseTram k r s) :=
  ((h.modStats _ _).removeTram k r).raiseFor _ _

theorem countUnmatched (h : Safe c X s) : Safe c X (Machine.countUnmatched s) := h.of_eq rfl rfl rfl rfl

theorem loopCheckOut (h : Safe c noStale s) (a : ApproachId) : Safe c noStale (Machine.loopCheckOut a s) := by
  unfold Machine.loopCheckOut
  split
  · exact h.countUnmatched
  · split
    · exact h.checkOut _ _
    · exact h

theorem applyTram (h : Safe c noStale s) (old : Image) (k : EntryId) :
    Safe c noStale (Machine.applyTram old k s) := by
  unfold Machine.applyTram
  split
  · exact h
  · next r _ =>
    split
    · exact h.removeTram k r
    · have h1 := h.modTram k fun q => { q with level := tramLevel (cfg s) r.line r.lateness }
      split
      · exact h.loseTram k r
      · exact iteInduction (motive := Safe c noStale) (fun _ => h1) fun _ => h1.changeGroup k _ _

theorem applyTrams (h : Safe c noStale s) (old : Image) : Safe c noStale (Machine.applyTrams old s) :=
  (forEach_keeps (Safe c noStale) _ _ (fun k _ _ ht => ht.applyTram old k) s h).emit _

/-! ### Demand logic and detectors -/

theorem takeClearEntry (h : Safe c X s) (g : GroupId) : Safe c X (Machine.takeClearEntry g s) := by
  unfold Machine.takeClearEntry
  split
  · split
    · exact h.modGroup_of_same g fun _ => ⟨rfl, rfl, rfl⟩
    · exact h
  · exact h

theorem updateGap (h : Safe c X s) (g : GroupId) : Safe c X (Machine.updateGap g s) := by
  unfold Machine.updateGap
  split
  · split
    · exact h.modGroup_of_same g fun _ => ⟨rfl, rfl, rfl⟩
    · split
      · exact h.modGroup_of_same g fun _ => ⟨rfl, rfl, rfl⟩
      · exact h
  · exact h

theorem updateGapOf (h : Safe c X s) (fed : Option GroupId) : Safe c X (Machine.updateGapOf fed s) := by
  unfold Machine.updateGapOf
  split
  · exact h.updateGap _
  · exact h

theorem occupy (h : Safe c X s) (src : DemandSource) (g : GroupId) : Safe c X (Machine.occupy src g s) := by
  unfold Machine.occupy
  split
  · exact h.modGroup_of_same g fun _ => ⟨rfl, rfl, rfl⟩
  · exact h

theorem takeFaultEntry (h : Safe c X s) (ch : ChannelId) (g : GroupId) :
    Safe c X (Machine.takeFaultEntry ch g s) := by
  unfold Machine.takeFaultEntry
  split
  · exact h.modGroup_of_same g fun _ => ⟨rfl, rfl, rfl⟩
  · exact h

theorem takeFaultLeft (h : Safe c X s) (g : GroupId) : Safe c X (Machine.takeFaultLeft g s) :=
  h.modGroup_of_same g fun _ => ⟨rfl, rfl, rfl⟩

theorem handOccupancy (h : Safe c noStale s) (lc : LoopCfg) (ch : ChannelId) (old new : ChState) :
    Safe c noStale (Machine.handOccupancy lc ch old new s) := by
  unfold Machine.handOccupancy
  split
  · next g _ =>
    have h1 : Safe c noStale _ := iteInduction (c := new = .occupied ∧ old ≠ .occupied) (motive := Safe c noStale)
      (fun _ => h.occupy (.loop ch) g) (fun _ => h)
    have h2 : Safe c noStale _ := iteInduction (c := new = .fault ∧ old ≠ .fault) (motive := Safe c noStale)
      (fun _ => h1.takeFaultEntry ch g) (fun _ => h1)
    exact iteInduction (motive := Safe c noStale) (fun _ => h2.takeFaultLeft g) (fun _ => h2)
  · split
    · exact h.loopCheckOut _
    · exact h
  · exact h

theorem handChannel (h : Safe c noStale s) (lc : LoopCfg) (ch : ChannelId) (old new : ChState) :
    Safe c noStale (Machine.handChannel lc ch old new s) := (h.handOccupancy lc ch old new).updateGapOf _

theorem afterChannel (h : Safe c noStale s) (ch : ChannelId) (old : ChState) :
    Safe c noStale (Machine.afterChannel ch old s) := by
  unfold Machine.afterChannel
  have h1 : Safe c noStale _ := iteInduction (c := ((channel s ch).state = .fault) ≠ (old = .fault))
    (motive := Safe c noStale) (fun _ => h.raiseFor .detector [.plan, .service]) (fun _ => h)
  exact iteInduction (motive := Safe c noStale) (fun _ => h1) (fun _ => h1.handChannel _ ch old _)

theorem completeMeasurement (h : Safe c noStale s) (e : EngineId) (m : LoopCfg → Measured) :
    Safe c noStale (Machine.completeMeasurement e m s) := by
  unfold Machine.completeMeasurement
  split
  · exact h
  · refine afterChannel ?_ _ _
    exact h.of_eq rfl rfl rfl rfl

theorem expirePresence (h : Safe c noStale s) (ch : ChannelId) : Safe c noStale (Machine.expirePresence ch s) := by
  have h1 : Safe c noStale (modChannel ch giveUp s) := h.of_eq rfl rfl rfl rfl
  exact (h1.raiseFor .detector [.plan, .service]).handChannel _ ch _ _

theorem changeDebounced (h : Safe c noStale s) (i : InputId) : Safe c noStale (Machine.changeDebounced i s) := by
  have h1 : Safe c noStale (modInput i changeInput s) := h.of_eq rfl rfl rfl rfl
  unfold Machine.changeDebounced
  dsimp only
  split
  · exact h1.updateGapOf _
  · unfold handActivation
    split
    · exact (h1.occupy _ _).updateGap _
    · exact h1.loopCheckOut _
    · exact h1

theorem handMessage (h : Safe c noStale s) (a : ApproachId) (m : Message) :
    Safe c noStale (Machine.handMessage a m s) := by
  cases m with
  | checkIn ci =>
    have h1 := h.takeCheckIn ci
    show Safe c noStale (beaconCheckIn ci s)
    unfold beaconCheckIn
    split
    · next hc => rw [hc] at h1; exact h1
    · next hc => rw [hc] at h1; exact h1.of_eq rfl rfl rfl rfl
    · next hc =>
      rw [hc] at h1
      refine raiseFor ?_ _ _
      exact h1.of_eq rfl rfl rfl rfl
  | checkOut number =>
    show Safe c noStale (beaconCheckOut number a s)
    unfold beaconCheckOut
    split
    · exact h.countUnmatched
    · split
      · exact h.checkOut _ _
      · exact h
  | cancel number =>
    show Safe c noStale (beaconCancel number a s)
    unfold beaconCancel
    split
    · exact h.countUnmatched
    · split
      · exact h.removeTram _ _
      · exact h
  | status => exact h

theorem takeTelegram (h : Safe c noStale s) (telegram : List Byte) :
    Safe c noStale (Machine.takeTelegram telegram s) := by
  have h1 : ∀ f, Safe c noStale (modBeacon f s) := fun _ => h.of_eq rfl rfl rfl rfl
  unfold Machine.takeTelegram
  split
  · split
    · exact (h1 _).handMessage _ _
    · exact h1 _
  · exact h1 _

theorem takeCompleted (h : Safe c noStale s) (b : Byte) : Safe c noStale (Machine.takeCompleted b s) := by
  have h1 : ∀ f, Safe c noStale { s with beacon := f } := fun _ => h.of_eq rfl rfl rfl rfl
  unfold Machine.takeCompleted
  dsimp only
  split
  · exact (h1 _).takeTelegram _
  · exact h1 _

/-! ### Entries of groups to RED_WAIT and to the proceed states (R10 to R13, R31) -/

/-- In NORMAL and CLEARING a group may leave RED_MIN for RED or RED_WAIT (R10). -/
theorem leaveRedMin (h : Safe c X s) {g : GroupId} (hdue : minimumRedDue s g = true) :
    Safe c X (Machine.leaveRedMin g s) := by
  simp only [minimumRedDue, Bool.and_eq_true, beq_iff_eq, redTimerRuns, Bool.or_eq_true] at hdue
  obtain ⟨⟨⟨hu, hmode⟩, hst⟩, _⟩ := hdue
  refine h.enterState g _ (.inl hu) (fun hp => ?_) (.inl (h.unscheduled hst)) fun _ => .inl hmode
  split at hp <;> cases hp

theorem enterRedMin (h : Safe c X s) {g : GroupId} (hdue : clearTimeDue s g = true) :
    Safe c X (Machine.enterRedMin g s) := by
  simp only [clearTimeDue, Bool.and_eq_true, beq_iff_eq] at hdue
  obtain ⟨⟨_, hst⟩, _⟩ := hdue
  have h1 : Safe c X (Machine.modGroup g (fun r => { r with redEntry := some s.now }) s) :=
    h.modGroup_of_same g fun _ => ⟨rfl, rfl, rfl⟩
  have hst1 : (grp (Machine.modGroup g (fun r => { r with redEntry := some s.now }) s) g).state = .clear := by
    simpa using hst
  exact h1.leaveState g rfl (h1.unscheduled hst1) (by rw [hst1]; decide) (by rw [hst1]; decide)

theorem conflicting_inProceed_eq_false (h : Safe c X s) {g i : GroupId} (hg : inProceed s g = true)
    (hc : conflicts s i g = true) : inProceed s i = false := by
  by_contra hp
  exact h.groups.apart i g hc ⟨by simpa using hp, hg⟩

/-- A group in proceed is opposed by no other (R31). -/
theorem unopposed_of_inProceed (h : Safe c X s) {g : GroupId} (hg : inProceed s g = true) : Unopposed s g := by
  refine fun i hc => ⟨h.conflicting_inProceed_eq_false hg hc, fun hst => ?_⟩
  by_contra hsch
  obtain ⟨_, hfree⟩ := h.groups.waits i hst (Option.isSome_iff_ne_none.2 hsch)
  rw [hfree g (h.config.conflicts_symm hc)] at hg
  cases hg

/-- A group in RED_WAIT with S and T is opposed by no other: another one that waits with a schedule would have the
claim of an ACTIVE release that conflicts (R31, R44, R48). -/
theorem unopposed_of_scheduled (h : Safe .all noStale s) {g : GroupId} (hst : (grp s g).state = .redWait)
    (hsch : (grp s g).schedule.isSome = true) : Unopposed s g := by
  have hrelease : ∀ {i}, (grp s i).state = .redWait → (grp s i).schedule.isSome = true →
      ∃ k r, slot s k = some r ∧ r.state = .active ∧ inSet .release r i = true := by
    intro i hi hisch
    obtain ⟨⟨cl, hcl, hkind⟩, _⟩ := h.groups.waits i hi hisch
    obtain ⟨k, r, hr, ha, _, hin⟩ := (h.claims i cl hcl).resolve_left fun hf => hf
    exact ⟨k, r, hr, ha, hkind ▸ hin⟩
  obtain ⟨k, r, hr, ha, hin⟩ := hrelease hst hsch
  refine fun i hc => ⟨(h.groups.waits g hst hsch).2 i hc, fun hi => ?_⟩
  by_contra hisch
  obtain ⟨j, q, hq, hqa, hqin⟩ := hrelease hi (Option.isSome_iff_ne_none.2 hisch)
  rw [h.records.active j k q r trivial hq hr hqa ha i g hqin hin] at hc
  cases hc

/-- A group with S and T, waiting or preparing, may enter GREEN_MIN (R11, R12). -/
theorem enterGreenMin (h : Safe .all noStale s) {g : GroupId} (u : Time) (hu : used s g = true)
    (hst : (grp s g).state = .redWait ∧ (grp s g).schedule.isSome = true ∨ (grp s g).state = .prepare) :
    Safe .all noStale (Machine.enterGreenMin g u s) := by
  have hfree : Unopposed s g := hst.elim (fun hw => h.unopposed_of_scheduled hw.1 hw.2)
    fun hp => h.unopposed_of_inProceed (by rw [inProceed, hp]; rfl)
  have hmode : s.mode = .normal ∨ s.mode = .clearing := by
    refine h.groups.mode_of_not_resting (g := g) ?_ ?_ trivial <;> rcases hst with ⟨hw, _⟩ | hp <;> simp [*]
  have h1 : Safe .all noStale (Machine.modGroup g
      (fun r => { r with greenStart := some u, schedule := none, demand := servedDemand r.demand }) s) :=
    h.modGroup g (eased_of_unscheduled rfl rfl) (.inr rfl)
  refine h1.enterState g .greenMin (.inl hu) (fun _ i hc => ?_) (.inl (by simp)) fun _ => .inl hmode
  obtain ⟨hproceed, hwait⟩ := hfree i hc
  have hgi : g ≠ i := by
    rintro rfl
    rw [h1.config.conflicts_self] at hc
    cases hc
  rw [inProceed, grp_modGroup, if_neg hgi]
  exact ⟨hproceed, hwait⟩

theorem beginPrepare (h : Safe .all noStale s) {g : GroupId} {sch : Schedule} (hr : reachedS s g = some sch) :
    Safe .all noStale (Machine.beginPrepare g sch s) := by
  have hu := UnusedLaw.used_of_reachedS hr
  unfold reachedS at hr
  split at hr
  · next hc =>
    simp only [Bool.and_eq_true, beq_iff_eq] at hc
    obtain ⟨_, hst⟩ := hc
    have hsch : (grp s g).schedule.isSome = true := by
      rw [(Option.filter_eq_some_iff.1 hr).1]
      rfl
    unfold Machine.beginPrepare
    split
    · exact h.enterGreenMin sch.t hu (.inl ⟨hst, hsch⟩)
    · exact h.enterState g .prepare (.inl hu) (fun _ => h.unopposed_of_scheduled hst hsch) (.inr rfl)
        fun hR => .inl (h.groups.mode_of_not_resting (g := g) (by simp [hst]) (by simp [hst]) hR)
  · cases hr

theorem enterGreenMin_of_reachedT (h : Safe .all noStale s) {g : GroupId} {sch : Schedule}
    (hr : reachedT s g = some sch) : Safe .all noStale (Machine.enterGreenMin g sch.t s) := by
  have hu := UnusedLaw.used_of_reachedT hr
  unfold reachedT at hr
  split at hr
  · next hc =>
    simp only [Bool.and_eq_true, Bool.or_eq_true, beq_iff_eq] at hc
    obtain ⟨_, hst⟩ := hc
    refine h.enterGreenMin sch.t hu (hst.symm.imp (fun hw => ⟨hw.1, ?_⟩) fun hp => hp)
    rw [(Option.filter_eq_some_iff.1 hr).1]
    rfl
  · cases hr

theorem leaveGreenMin (h : Safe c X s) {g : GroupId} (hdue : minimumGreenDue s g = true) :
    Safe c X (Machine.leaveGreenMin g s) := by
  simp only [minimumGreenDue, Bool.and_eq_true, beq_iff_eq] at hdue
  obtain ⟨⟨hu, hst⟩, _⟩ := hdue
  unfold Machine.leaveGreenMin
  split
  · exact h.enterClear (.inl hst)
  · exact h.enterState g .green (.inl hu) (fun _ => h.unopposed_of_inProceed (by rw [inProceed, hst]; rfl))
      (.inl (h.unscheduled hst))
      fun hR => .inl (h.groups.mode_of_not_resting (g := g) (by simp [hst]) (by simp [hst]) hR)

/-! ### Junction mode controller -/

theorem refreshAllLamps (h : Safe c X s) : Safe c X (Machine.refreshAllLamps s) := by
  have hlamps : ∀ l, Safe c X { s with lamps := l } := fun _ => h.of_eq rfl rfl rfl rfl
  rw [refreshAllLamps_frame]
  exact hlamps _

theorem moving (h : Safe .all X s) : Safe .moving X s := h.of_scope (fun hf => hf.elim) (fun _ h => h) fun _ _ h => h

/-- All groups forced to a red state or DARK, without a schedule, meet the laws of groups (R17). -/
theorem forceAll (h : Safe c X s) (f : GroupRec → GroupRec) (st : GState) (hst : allRedState st = true)
    (hsch : ∀ g, (f (grp s g)).schedule = none)
    (hcl : ∀ r, (f r).claim = none ∨ (f r).claim = r.claim) (htested : ∀ k, d.tested k → c.tested k)
    (hpaired : ∀ j k, d.paired j k → c.paired j k)
    (hrest : d.rests → s.mode ≠ .normal → s.mode ≠ .clearing → st = .dark ∨ st = .redMin) :
    Safe d X (forEach allGroups (forceGroup f st) s) := by
  have hforced := forcedAll f st s
  have hframe := hforced.rest
  have hgrp := hforced.grp
  generalize forEach allGroups (forceGroup f st) s = t at hframe hgrp
  have ha : t.active = s.active := by rw [hframe]
  have hi : imagesOf t = imagesOf s := by rw [hframe]; rfl
  have ht : tableOf t = tableOf s := by rw [hframe]; rfl
  have hm : t.mode = s.mode := by rw [hframe]
  have hdark : ∀ g, used s g = false → (grp s g).state = .dark := h.groups.unused
  refine ⟨h.config.of_eq hi, .of_allRed ?_ (fun g => ?_) (fun hR h1 h2 g => ?_),
    (h.records.of_eq ha ht).of_scope htested hpaired, fun g cl hclaim => ?_⟩
  · intro g hu
    rw [used_congr ha] at hu
    rw [hgrp, if_neg (by simp [hu])]
    exact hdark g hu
  · rw [hgrp]
    cases hu : used s g with
    | true => simpa using ⟨hst, hsch g⟩
    | false => simpa [hdark g hu, allRedState] using h.unscheduled (hdark g hu)
  · rw [hgrp]
    cases hu : used s g with
    | true => simpa using hrest hR (hm ▸ h1) (hm ▸ h2)
    | false => simp [hdark g hu]
  · simp only [slot_congr (slots_of_tableOf ht)]
    refine h.claims g cl ?_
    rw [hgrp] at hclaim
    split at hclaim
    · rw [enteredRecord_claim] at hclaim
      rcases hcl (grp s g) with hn | he
      · rw [hn] at hclaim
        cases hclaim
      · exact he ▸ hclaim
    · exact hclaim

/-- With every group DARK a change of mode has ended (R17). -/
theorem forceAllDark (h : Safe .moving X s) : Safe .all X (Machine.forceAllDark s) := by
  unfold Machine.forceAllDark
  rw [forceDark_eq]
  exact h.forceAll _ .dark rfl (fun _ => rfl) (fun _ => .inl rfl) (fun _ h => h) (fun _ _ h => h)
    fun _ _ _ => .inl rfl

theorem enterMode_frames (m : Mode) (s : State) :
    imagesOf (enterMode m s) = imagesOf s ∧ tableOf (enterMode m s) = tableOf s ∧ (enterMode m s).groups = s.groups ∧
      (enterMode m s).mode = m := by
  rw [enterMode_frame]
  exact ⟨rfl, rfl, rfl, rfl⟩

/-- A mode is entered in which groups need not rest, or with groups at rest. -/
theorem enterMode (h : Safe .all X s) (m : Mode)
    (hrest : m ≠ .normal → m ≠ .clearing → ∀ g, (grp s g).state = .dark ∨ (grp s g).state = .redMin) :
    Safe .all X (Machine.enterMode m s) := by
  obtain ⟨hi, ht, hg, hm⟩ := enterMode_frames m s
  exact h.of_mode hi ht hg (fun _ h => h) (fun _ _ h => h)
    fun _ hn hc => hrest (fun he => hn (hm.trans he)) fun he => hc (hm.trans he)

/-- START is entered from DARK or FLASH, with groups at rest (R61). -/
theorem enterStart (h : Safe .all X s) (hn : s.mode ≠ .normal) (hc : s.mode ≠ .clearing) :
    Safe .all X (Machine.enterStart s) := by
  have h1 : Safe .all X { s with startPhase := some (.flashPhase, s.now) } := h.of_eq rfl rfl rfl rfl
  exact (h1.enterMode .start fun _ _ => h.groups.resting trivial hn hc).emit _

theorem enterResting (h : Safe .all X s) (m : Mode) : Safe .all X (Machine.enterResting m s) := by
  have h1 : Safe .all X { s with startPhase := none, clearTarget := none } := h.of_eq rfl rfl rfl rfl
  obtain ⟨hi, ht, hg, _⟩ := enterMode_frames m { s with startPhase := none, clearTarget := none }
  have h2 : Safe .moving X (Machine.enterMode m { s with startPhase := none, clearTarget := none }) :=
    h1.of_mode hi ht hg (fun _ h => h) (fun _ _ h => h) fun hf => hf.elim
  exact h2.forceAllDark.emit _

theorem enterClearing (h : Safe .all noStale s) (target : ClearTarget) :
    Safe .all noStale (Machine.enterClearing target s) := by
  have h1 : Safe .all noStale { s with clearTarget := some target, supervision := none } := h.of_eq rfl rfl rfl rfl
  have h2 := (h1.enterMode .clearing fun _ hc => absurd rfl hc).cancelAll .mode
  exact (forEach_keeps (Safe .all noStale) _ _ (fun g _ _ ht => ht.junctionTerminate g) _ h2).handOn _

theorem examineClearing (h : Safe .all X s) : Safe .all X (Machine.examineClearing s) := by
  unfold Machine.examineClearing
  split
  · exact h.enterResting _
  · exact h

theorem examineLost (h : Safe .all noStale s) : Safe .all noStale (Machine.examineLost s) := by
  unfold Machine.examineLost
  split
  · exact h.enterClearing .flash
  · exact h

/-- Groups at rest have no schedule. -/
theorem unscheduled_of_resting (h : Safe c X s) {g : GroupId}
    (hg : (grp s g).state = .dark ∨ (grp s g).state = .redMin) : (grp s g).schedule = none :=
  hg.elim (fun hst => h.unscheduled hst) fun hst => h.unscheduled hst

/-- NORMAL is entered from START, with groups at rest (R62). -/
theorem enterNormal (h : Safe .all X s) (hm : s.mode = .start) : Safe .all X (Machine.enterNormal s) := by
  have hrest := h.groups.resting trivial (by simp [hm]) (by simp [hm])
  have h1 : Safe .all X { s with startPhase := none, supervision := some s.now } := h.of_eq rfl rfl rfl rfl
  have h2 := h1.enterMode .normal fun hn => absurd rfl hn
  obtain ⟨_, _, hg, hmode⟩ := enterMode_frames .normal { s with startPhase := none, supervision := some s.now }
  have hsch : ∀ g, (grp (Machine.enterMode .normal { s with startPhase := none, supervision := some s.now })
      g).schedule = none := fun g => by rw [grp_congr hg]; exact h.unscheduled_of_resting (hrest g)
  unfold Machine.enterNormal
  rw [forceRed_eq]
  exact handOn (h2.forceAll (fun r => { r with greenStart := none, greenEnd := none, redEntry := none }) .red rfl hsch
    (fun _ => .inr rfl) (fun _ h => h) (fun _ _ h => h) fun _ hn => absurd hmode hn) _

theorem enterRedPhase (h : Safe .all X s) (hm : s.mode = .start) : Safe .all X (Machine.enterRedPhase s) := by
  have hrest := h.groups.resting trivial (by simp [hm]) (by simp [hm])
  have h1 : Safe .all X { s with startPhase := some (.redPhase, s.now) } := h.of_eq rfl rfl rfl rfl
  unfold Machine.enterRedPhase
  rw [forceRedMin_eq]
  exact refreshAllLamps (h1.forceAll _ .redMin rfl (fun g => h.unscheduled_of_resting (hrest g)) (fun _ => .inr rfl)
    (fun _ h => h) (fun _ _ h => h) fun _ _ _ => .inr rfl)

theorem enterLockout (h : Safe .all noStale s) (g : GroupId) (which : Circuit) :
    Safe .all noStale (Machine.enterLockout g which s) := by
  unfold Machine.enterLockout
  split
  · exact h
  · refine handOn (refreshAllLamps (raiseFor (raiseFor (forceAllDark (cancelAll ?_ .mode)) _ _) _ _)) _
    exact h.of_mode rfl rfl rfl (fun _ h => h) (fun _ _ h => h) fun hf => hf.elim

end Safe

end Sys2Proof.Machine
end

section
/-! PROOF. Every step keeps conflicting groups out of proceed together, with the release laws that this rests on: the
configuration apply with its re-test (R18, R24), the settling of hand-offs, and then each command. -/

namespace Sys2Proof.Machine

open Sys2Proof

/-! ### Queue order (R43) -/

theorem mem_insertSlot (s : State) (j k : SlotId) (l : List SlotId) : j ∈ insertSlot s k l ↔ j = k ∨ j ∈ l := by
  induction l with
  | nil => simp [insertSlot]
  | cons a l ih =>
    unfold insertSlot
    split
    · split
      · simp
      · simp [ih, or_left_comm]
    · simp [ih, or_left_comm]

theorem mem_queueOrder (s : State) (j : SlotId) : j ∈ queueOrder s ↔ j ∈ liveInOrder s := by
  have hfold : ∀ l acc : List SlotId, j ∈ l.foldl (fun acc k => insertSlot s k acc) acc ↔ j ∈ acc ∨ j ∈ l := by
    intro l
    induction l with
    | nil => simp
    | cons a l ih =>
      intro acc
      rw [List.foldl_cons, ih, mem_insertSlot, List.mem_cons, or_assoc, or_left_comm]
  simp [queueOrder, hfold]

/-- Every live record has its place in the queue order. -/
theorem RecordsSafe.mem_queueOrder {c : Scope} {s : State} (h : RecordsSafe c s) {k : SlotId} {r : TransRec}
    (hr : slot s k = some r) (hl : isLive r = true) : k ∈ queueOrder s := by
  rw [Machine.mem_queueOrder, liveInOrder, List.mem_filter]
  exact ⟨h.accepted k r hr hl, by simp [hr, hl]⟩

/-! ### A cancelled record -/

theorem handCancelled_slots (r : TransRec) (cause : EndCause) (s : State) :
    (handCancelled r cause s).slots = s.slots := by
  have hnotice : (noticeOrigin r s).slots = s.slots := by
    unfold noticeOrigin
    split
    · rw [raise_frame]
    · rfl
  unfold handCancelled
  split
  · rfl
  · rfl
  · rfl
  · exact hnotice

theorem withdrawClaim_slots (id : TransId) (g : GroupId) (s : State) : (withdrawClaim id g s).slots = s.slots := by
  rw [withdrawClaim_frame]

theorem finishRecord_slots {k : SlotId} {r : TransRec} {s : State} (hr : slot s k = some r) (st : TState)
    (cause : EndCause) : (finishRecord k st cause s).slots = (finishedTable k r st cause s).slots := by
  rw [finishRecord_eq hr, emitAll_slots]
  split
  · exact forEach_frame State.slots _ _ (fun g _ t => withdrawClaim_slots r.id g t) _
  · rfl

/-- After its cancellation a slot holds no live record. -/
theorem not_isLive_cancelRecord {cause : EndCause} {k : SlotId} {s : State} {q : TransRec}
    (h : slot (cancelRecord cause k s) k = some q) : isLive q = false := by
  unfold cancelRecord at h
  split at h
  · next hr =>
    rw [hr] at h
    cases h
  · next r hr =>
    split at h
    · rw [slot_congr ((handCancelled_slots r cause _).trans (finishRecord_slots hr .cancelled cause)),
        slot_finishedTable, if_pos rfl] at h
      rw [← Option.some.inj h]
      rfl
    · next hl =>
      rw [hr] at h
      rw [← Option.some.inj h]
      simpa using hl

/-! ### The re-test after an apply (R24) -/

/-- During the re-test the releases of some records have been tested under the new matrix. -/
def Scope.testedOn (P : SlotId → Prop) : Scope where
  rests := True
  tested := P
  paired _ _ := False

/-- Later in the re-test all of them have, and some pairs of ACTIVE records. -/
def Scope.pairedOn (P : SlotId → SlotId → Prop) : Scope := { Scope.all with paired := P }

/-- The pairs of ACTIVE records tested once some slots of the queue have been gone through; a slot out of the queue
holds no ACTIVE record. -/
def pairsWithin (queue done : List SlotId) (i j : SlotId) : Prop := i ∉ queue ∨ j ∉ queue ∨ (i ∈ done ∧ j ∈ done)

/-- A pair tested later is one of slots that have been gone through by then. -/
theorem mem_of_new_pair {queue before after : List SlotId} {i j : SlotId} (h : pairsWithin queue after i j)
    (hold : ¬ pairsWithin queue before i j) : i ∈ after ∧ j ∈ after := by
  rcases h with h | h | h
  · exact absurd (.inl h) hold
  · exact absurd (.inr (.inl h)) hold
  · exact h

namespace Safe

variable {c d : Scope} {X : GroupId → TransId → Prop} {s t : State}

theorem retestUnused (h : Safe c noStale s) (k : SlotId) : Safe c noStale (Machine.retestUnused k s) := by
  unfold Machine.retestUnused
  split
  · exact h
  · next r hr =>
    split
    · have h1 := forEach_keeps
        (fun t => Safe c noStale t ∧ ∀ q, slot t k = some q → q.id = r.id)
        (allGroups.filter fun g => named r g && !used s g)
        (fun g t => Machine.withdrawClaim r.id g (Machine.modSlot k (dropItem g) t)) (fun g _ t ht => ?_) s
        ⟨h, fun q hq => by rw [hr] at hq; rw [← Option.some.inj hq]⟩
      · exact iteInduction (motive := Safe c noStale) (fun _ => h1.1.cancelRecord .config k)
          fun _ => h1.1.completeIfDone k
      · refine ⟨ht.1.withdrawItem k g ht.2, fun q hq => ?_⟩
        rw [slot_congr (withdrawClaim_slots r.id g _), slot_modSlot, if_pos rfl] at hq
        obtain ⟨p, hp, rfl⟩ := Option.map_eq_some_iff.1 hq
        exact ht.2 p hp
    · exact h

/-- A live record stays where its releases do not conflict under the new matrix. -/
theorem retestConflicts {P : SlotId → Prop} (h : Safe (.testedOn P) noStale s) (k : SlotId) :
    Safe (.testedOn fun j => P j ∨ j = k) noStale (Machine.retestConflicts k s) := by
  have htest : ∀ {u : State}, Safe (.testedOn P) noStale u →
      (∀ r, slot u k = some r → isLive r = true → retestPasses u r = true) →
      Safe (.testedOn fun j => P j ∨ j = k) noStale u := fun {u} hu hk =>
    { hu with
      records :=
        { hu.records with
          releases := fun j r hj hr hl x y hx hy => by
            rcases hj with hj | rfl
            · exact hu.records.releases j r hj hr hl x y hx hy
            · have hpass := hk r hr hl
              simp only [retestPasses, Bool.and_eq_true, List.all_eq_true, mem_releases, Bool.not_eq_true'] at hpass
              exact hpass.1 x hx y hy } }
  unfold Machine.retestConflicts
  split
  · next hn => exact htest h fun r hr => by rw [hn] at hr; cases hr
  · next r hr =>
    split
    · refine htest (h.cancelRecord .config k) fun q hq hl => ?_
      rw [not_isLive_cancelRecord hq] at hl
      cases hl
    · next hc =>
      refine htest h fun q hq hl => ?_
      rw [hr] at hq
      obtain rfl := Option.some.inj hq
      by_contra hf
      exact hc (by simp [hl, hf])

theorem retestAllConflicts (l : List SlotId) : ∀ {P : SlotId → Prop} {s : State}, Safe (.testedOn P) noStale s →
    Safe (.testedOn fun j => P j ∨ j ∈ l) noStale (forEach l Machine.retestConflicts s) := by
  induction l with
  | nil => exact fun h => h.of_scope (fun _ => trivial) (fun k hk => hk.resolve_right List.not_mem_nil) fun _ _ hf => hf
  | cons a l ih =>
    intro P s h
    refine (ih (h.retestConflicts a)).of_scope (fun _ => trivial) (fun k hk => ?_) fun _ _ hf => hf
    rcases hk with hk | hk
    · exact .inl (.inl hk)
    · exact (List.mem_cons.1 hk).imp_left .inr

/-- An ACTIVE record stays where it conflicts with none ahead of it that is still ACTIVE. -/
theorem retestActive {queue before : List SlotId} (h : Safe (.pairedOn (pairsWithin queue before)) noStale s)
    (k : SlotId) :
    Safe (.pairedOn (pairsWithin queue (before ++ [k]))) noStale (Machine.retestActive before k s) := by
  have hpair : ∀ {u : State}, Safe (.pairedOn (pairsWithin queue before)) noStale u →
      (∀ r, slot u k = some r → r.state = .active → ∀ j ∈ before, ∀ q, slot u j = some q → q.state = .active →
        releasesConflict u q r = false) →
      Safe (.pairedOn (pairsWithin queue (before ++ [k]))) noStale u := fun {u} hu hk =>
    { hu with
      records :=
        { hu.records with
          active := fun i j q r hij hq hr hqa hra x y hx hy => by
            by_cases hold : pairsWithin queue before i j
            · exact hu.records.active i j q r hold hq hr hqa hra x y hx hy
            · obtain ⟨hi, hj⟩ := mem_of_new_pair hij hold
              rw [List.mem_append, List.mem_singleton] at hi hj
              rcases hi with hi | rfl <;> rcases hj with hj | rfl
              · exact absurd (.inr (.inr ⟨hi, hj⟩)) hold
              · exact releasesConflict_eq_false.1 (hk r hr hra i hi q hq hqa) x y hx hy
              · by_contra hc
                have hback := hu.config.conflicts_symm (by simpa using hc)
                rw [releasesConflict_eq_false.1 (hk q hq hqa j hj r hr hra) y x hy hx] at hback
                cases hback
              · rw [hq] at hr
                obtain rfl := Option.some.inj hr
                exact hu.records.releases _ q trivial hq (isLive_of_active hqa) x y hx hy } }
  unfold Machine.retestActive
  split
  · next hn => exact hpair h fun r hr => by rw [hn] at hr; cases hr
  · next r hr =>
    split
    · refine hpair (h.cancelRecord .config k) fun q hq ha => ?_
      have hl := not_isLive_cancelRecord hq
      rw [isLive_of_active ha] at hl
      cases hl
    · next hc =>
      refine hpair h fun p hp hpa j hj q hq hqa => ?_
      rw [hr] at hp
      obtain rfl := Option.some.inj hp
      by_contra hf
      exact hc ⟨hpa, List.any_eq_true.2 ⟨j, hj, by simp [hq, hqa, hf]⟩⟩

theorem retestActivePass {queue : List SlotId} (ks : List SlotId) : ∀ {before : List SlotId} {s : State},
    Safe (.pairedOn (pairsWithin queue before)) noStale s →
    Safe (.pairedOn (pairsWithin queue (before ++ ks))) noStale (Machine.retestActivePass ks before s) := by
  induction ks with
  | nil =>
    intro before s h
    rw [List.append_nil]
    exact h
  | cons k rest ih =>
    intro before s h
    have h1 := ih (h.retestActive k)
    rw [List.append_assoc, List.singleton_append] at h1
    exact h1

/-- The three steps of R24 bring the laws of the matrix back, whatever the new matrix is. -/
theorem retestAll (h : Safe (.testedOn fun _ => False) noStale s) : Safe .all noStale (Machine.retestAll s) := by
  unfold Machine.retestAll
  dsimp only
  have h1 := forEach_keeps (Safe (.testedOn fun _ => False) noStale) (queueOrder s) Machine.retestUnused
    (fun k _ _ ht => ht.retestUnused k) s h
  generalize forEach (queueOrder s) Machine.retestUnused s = u at h1
  have hout : Safe (.testedOn fun k => k ∉ queueOrder u) noStale u :=
    { h1 with
      records :=
        { h1.records with
          releases := fun k r hk hr hl => absurd (h1.records.mem_queueOrder hr hl) hk } }
  have h2 := hout.retestAllConflicts (queueOrder u)
  generalize forEach (queueOrder u) Machine.retestConflicts u = v at h2
  have hall : Safe (.pairedOn (pairsWithin (queueOrder v) [])) noStale v :=
    { h2 with
      records :=
        { h2.records with
          releases := fun k r _ => h2.records.releases k r (em' (k ∈ queueOrder u))
          active := fun j k q r hjk hq hr hqa hra => by
            have hj := h2.records.mem_queueOrder hq (isLive_of_active hqa)
            have hk := h2.records.mem_queueOrder hr (isLive_of_active hra)
            rcases hjk with hjk | hjk | hjk
            · exact absurd hj hjk
            · exact absurd hk hjk
            · exact absurd hjk.1 List.not_mem_nil } }
  have h3 := hall.retestActivePass (queueOrder v)
  refine emit (h3.of_scope (fun _ => trivial) (fun _ _ => trivial) fun i j _ => ?_) _
  show pairsWithin (queueOrder v) ([] ++ queueOrder v) i j
  rw [List.nil_append]
  unfold pairsWithin
  tauto

end Safe

/-! ### The signal group table at an apply (R18, R168) -/

/-- At an instant where an apply can be made, every group is red or DARK (R168). -/
theorem allRedState_of_canApply {c : Scope} {X : GroupId → TransId → Prop} {s : State} (h : Safe c X s) (hr : c.rests)
    (hc : canApply s = true) (g : GroupId) : allRedState (grp s g).state = true := by
  rcases Bool.or_eq_true _ _ ▸ hc with hmode | hred
  · have hrest : (grp s g).state = .dark ∨ (grp s g).state = .redMin := by
      refine h.groups.resting hr ?_ ?_ g <;> rintro hm <;> rw [hm] at hmode <;> cases hmode
    rcases hrest with hst | hst <;> rw [hst] <;> rfl
  · cases hu : used s g with
    | true => exact List.all_eq_true.1 hred g (by simp [usedGroups, hu])
    | false =>
      rw [h.groups.unused g hu]
      rfl

/-- An apply writes groups, lamps, hand-offs and the free order at the signal group table. -/
theorem applyGroup_frame (old : Image) (g : GroupId) (s : State) :
    applyGroup old g s =
      { s with
        groups := (applyGroup old g s).groups, lamps := (applyGroup old g s).lamps,
        work := (applyGroup old g s).work, order := (applyGroup old g s).order } := by
  unfold applyGroup
  split
  · split <;> rfl
  · rw [enterState_frame]
    rfl
  · rw [enterState_frame]
    rfl
  · rfl

/-- A group that an apply brings into use comes up red or DARK, at rest outside NORMAL and CLEARING (R18). -/
theorem newGroupState_spec (s : State) :
    allRedState (newGroupState s) = true ∧
      (s.mode ≠ .normal → s.mode ≠ .clearing → newGroupState s = .dark ∨ newGroupState s = .redMin) := by
  unfold newGroupState
  split
  · next hm => exact ⟨rfl, fun hn => absurd hm hn⟩
  · next hm => exact ⟨rfl, fun _ hc => absurd hm hc⟩
  · split
    · exact ⟨rfl, fun _ _ => .inr rfl⟩
    · exact ⟨rfl, fun _ _ => .inl rfl⟩
  · exact ⟨rfl, fun _ _ => .inl rfl⟩

/-- The record of a group after the apply: as red as it was, with no schedule and no claim that it did not have. -/
structure AppliedGroup (s : State) (r q : GroupRec) : Prop where
  red : allRedState r.state = true → allRedState q.state = true
  schedule : q.schedule = none ∨ q.schedule = r.schedule
  claim : q.claim = none ∨ q.claim = r.claim
  resting : s.mode ≠ .normal → s.mode ≠ .clearing → r.state = .dark ∨ r.state = .redMin →
    q.state = .dark ∨ q.state = .redMin

theorem appliedGroup_applyGroup (old : Image) (g : GroupId) (s : State) :
    AppliedGroup s (grp s g) (grp (applyGroup old g s) g) := by
  have hsame : AppliedGroup s (grp s g) (grp s g) := ⟨fun h => h, .inr rfl, .inr rfl, fun _ _ h => h⟩
  unfold applyGroup
  split
  · split
    · rw [grp_modGroup, if_pos rfl]
      exact ⟨fun h => h, .inr rfl, .inr rfl, fun _ _ h => h⟩
    · exact hsame
  · rw [grp_enterState, if_pos rfl]
    refine ⟨fun _ => by rw [enteredRecord_state]; rfl, .inl ?_, .inl ?_, fun _ _ _ => .inl (enteredRecord_state _ _ _)⟩
    · rw [enteredRecord_schedule, grp_modGroup, if_pos rfl]
      rfl
    · rw [enteredRecord_claim, grp_modGroup, if_pos rfl]
      rfl
  · rw [grp_enterState, if_pos rfl]
    obtain ⟨hred, hrest⟩ := newGroupState_spec s
    refine ⟨fun _ => by rw [enteredRecord_state]; exact hred, .inl ?_, .inl ?_, fun hn hc _ => ?_⟩
    · rw [enteredRecord_schedule, grp_modGroup, if_pos rfl]
      rfl
    · rw [enteredRecord_claim, grp_modGroup, if_pos rfl]
      rfl
    · rw [enteredRecord_state]
      exact hrest hn hc
  · exact hsame

theorem appliedGroup_applyGroups (old : Image) (s : State) (g : GroupId) :
    AppliedGroup s (grp s g) (grp (forEach allGroups (applyGroup old) s) g) := by
  obtain ⟨u, hum, hug, hfu⟩ := grp_forEach_allGroups (I := fun u => u.mode = s.mode) (f := applyGroup old)
    (fun g u hu => by rw [applyGroup_frame]; exact hu) (UnusedLaw.applyGroup_others old) g s rfl
  obtain ⟨hred, hsch, hcl, hrest⟩ := appliedGroup_applyGroup old g u
  rw [hum, hug] at hrest
  rw [hug] at hred hsch hcl
  rw [hfu]
  exact ⟨hred, hsch, hcl, hrest⟩

theorem applyGroups_frame (old : Image) (s : State) :
    forEach allGroups (applyGroup old) s =
      { s with
        groups := (forEach allGroups (applyGroup old) s).groups
        lamps := (forEach allGroups (applyGroup old) s).lamps
        work := (forEach allGroups (applyGroup old) s).work
        order := (forEach allGroups (applyGroup old) s).order } :=
  forEach_keeps (fun t => t = { s with groups := t.groups, lamps := t.lamps, work := t.work, order := t.order })
    _ _ (fun g _ t ht => by rw [applyGroup_frame, ht]) s rfl

/-- Before the re-test the table keeps the laws that no matrix bears on. -/
theorem RecordsSafe.untested {c : Scope} {s t : State} (h : RecordsSafe c s) (ht : tableOf t = tableOf s) :
    RecordsSafe (.testedOn fun _ => False) t := by
  simp only [tableOf, Prod.mk.injEq] at ht
  obtain ⟨hslots, hfinish, haccept⟩ := ht
  have hs := fun k => slot_congr hslots k
  refine ⟨fun k => ?_, ?_, ?_, fun _ _ hf => hf.elim, fun _ _ _ _ hf => hf.elim⟩
  · rw [hfinish, hs]
    exact h.finish k
  · simp only [hs]
    exact h.ids
  · simp only [hs, haccept]
    exact h.accepted

namespace Safe

variable {c d : Scope} {X : GroupId → TransId → Prop} {s t : State}

theorem applyGroups (h : Safe .all noStale s) (hv : validate s.staging = none) (hc : canApply s = true) :
    Safe (.testedOn fun _ => False) noStale
      (forEach allGroups (applyGroup (cfg s)) { s with active := some s.staging, commit := .storing }) := by
  have hred := allRedState_of_canApply h trivial hc
  have hunsched : ∀ g, (grp s g).schedule = none := by
    intro g
    refine h.groups.unscheduled ?_ ?_ <;> intro hst <;> have hg := hred g <;> rw [hst] at hg <;> cases hg
  have hframe := applyGroups_frame (cfg s) { s with active := some s.staging, commit := .storing }
  have hgrp := appliedGroup_applyGroups (cfg s) { s with active := some s.staging, commit := .storing }
  have hunused := h.groups.unused.applyGroups
    (t := { s with active := some s.staging, commit := .storing }) rfl
  generalize forEach allGroups (applyGroup (cfg s)) { s with active := some s.staging, commit := .storing } = t
    at hframe hgrp hunused
  have htable : tableOf t = tableOf s := by rw [hframe]; rfl
  have hmode : t.mode = s.mode := by rw [hframe]
  refine ⟨⟨fun img himg => ?_, fun hcommit => ?_⟩, .of_allRed hunused (fun g => ⟨(hgrp g).red (hred g), ?_⟩)
    (fun _ h1 h2 g => ?_), h.records.untested htable, fun g cl hcl => ?_⟩
  · rw [hframe] at himg
    rw [← Option.some.inj himg]
    exact hv
  · rw [hframe] at hcommit
    cases hcommit
  · exact (hgrp g).schedule.elim (fun hn => hn) fun he => he.trans (hunsched g)
  · rw [hmode] at h1 h2
    exact (hgrp g).resting h1 h2 (h.groups.resting trivial h1 h2 g)
  · simp only [slot_congr (slots_of_tableOf htable)]
    rcases (hgrp g).claim with hn | he
    · rw [hn] at hcl
      cases hcl
    · exact h.claims g cl (he ▸ hcl)

theorem applyLampsAll (h : Safe c X s) : Safe c X (Machine.applyLampsAll s) := by
  unfold Machine.applyLampsAll
  refine refreshAllLamps (forEach_keeps (Safe c X) _ _ (fun g _ u hu => ?_) s h)
  exact hu.of_eq rfl rfl rfl rfl

theorem applyLoops (h : Safe c noStale s) (old : Image) : Safe c noStale (Machine.applyLoops old s) := by
  unfold Machine.applyLoops
  refine forEach_keeps (Safe c noStale) _ _ (fun e _ u hu => ?_) _ ?_
  · have hengine : ∀ x, Safe c noStale (setEngine e x u) := fun _ => hu.of_eq rfl rfl rfl rfl
    unfold applyEngine
    split
    · exact hengine _
    · split
      · exact hengine _
      · exact hu
  · refine forEach_keeps (Safe c noStale) _ _ (fun ch _ _ hu => hu.handOccupancy _ ch _ _) _ ?_
    refine forEach_keeps (Safe c noStale) _ _ (fun ch _ u hu => ?_) s h
    exact hu.of_eq rfl rfl rfl rfl

theorem applyInputs (h : Safe c X s) (old : Image) : Safe c X (Machine.applyInputs old s) := by
  refine forEach_keeps (Safe c X) _ _ (fun i _ u hu => ?_) s h
  exact hu.of_eq rfl rfl rfl rfl

theorem applyBeacon (h : Safe c X s) (old : Image) : Safe c X (Machine.applyBeacon old s) := by
  unfold Machine.applyBeacon
  split
  · exact h
  · exact h.of_eq rfl rfl rfl rfl

/-- An apply leaves the laws in force under the new matrix (R18, R24, R169). -/
theorem examineCommit (h : Safe .all noStale s) : Safe .all noStale (Machine.examineCommit s) := by
  unfold Machine.examineCommit
  split
  · next hc =>
    have h1 := (h.applyGroups (h.config.staged hc.1) hc.2).applyLampsAll.retestAll
    have h2 := (h1.applyLoops (cfg s)).applyInputs (cfg s)
    have h3 := forEach_keeps (Safe .all noStale) allGroups Machine.updateGap (fun g _ _ hu => hu.updateGap g) _ h2
    exact ((h3.applyBeacon (cfg s)).applyTrams (cfg s)).emit _
  · exact h

/-! ### Hand-offs -/

theorem handle (h : Safe .all noStale s) (x : Handoff) : Safe .all noStale (Machine.handle x s) := by
  cases x with
  | arbiterEntry g st => exact h.arbiterEntry g st
  | tramEntry g st => exact h.tramEntry g st
  | configExamine => exact h.examineCommit
  | clearingExamine => exact h.examineClearing
  | clearDemand g => exact h.takeClearEntry g
  | arbiterExamine => exact h.examineArbiter
  | scheduleExamine => exact h.examineSchedule
  | arbiterLost g => exact h.takeLostMarking g
  | lostExamine => exact h.examineLost
  | slotFree => exact h.takeSlotFree
  | tramCancelled id => exact h.tramCancelled id
  | tramEvaluate k anew => exact h.evaluate k anew
  | tramEvaluateAll => exact h.emitAll _
  | tramEvaluateGroup g => exact h.emitAll _

theorem settled (h : Safe .all noStale s) : Safe .all noStale (Machine.settled s) :=
  settled_keeps (Safe .all noStale) (fun _ _ ht => ht.of_eq rfl rfl rfl rfl) (fun x _ ht => ht.handle x) s h

/-! ### Requests -/

theorem modLink (h : Safe c X s) (r : Role) (f : LinkRec → LinkRec) : Safe c X (Machine.modLink r f s) :=
  h.of_eq rfl rfl rfl rfl

theorem takeRequest (h : Safe .all noStale s) {owner : State → State × Reply}
    (howner : ∀ s, Safe .all noStale s → Safe .all noStale (owner s).1) (role : Role) (granted : Bool)
    (params : List Byte) : Safe .all noStale (Machine.takeRequest role granted params owner s) :=
  takeRequest_keeps (fun r f _ h => h.modLink r f) (fun _ _ h => h.of_eq rfl rfl rfl rfl) (fun _ h => h.settled)
    howner role granted params s h

/-- An owner that leaves the state as it is. -/
theorem takeRequest_of_read (h : Safe .all noStale s) {owner : State → State × Reply} (ho : ∀ s, (owner s).1 = s)
    (role : Role) (granted : Bool) (params : List Byte) :
    Safe .all noStale (Machine.takeRequest role granted params owner s) :=
  h.takeRequest (fun s hs => by rw [ho]; exact hs) role granted params

/-- An owner is asked only by a role that has the right to the request and whose slot is not PENDING (R154, R157). -/
theorem takeRequest_of_asked (h : Safe .all noStale s) {owner : State → State × Reply} {role : Role} {granted : Bool}
    (howner : granted = true → (link s role).slot ≠ .pending → Safe .all noStale (owner (setSeen role s)).1)
    (params : List Byte) : Safe .all noStale (Machine.takeRequest role granted params owner s) := by
  by_cases hasked : granted = true ∧ (link s role).slot ≠ .pending
  · have hown := howner hasked.1 hasked.2
    exact h.takeRequest (owner := fun _ => owner (setSeen role s)) (fun _ _ => hown) role granted params
  · have hidle : Machine.takeRequest role granted params owner s =
        Machine.takeRequest role granted params (fun s => (s, plain .refusedRole)) s := by
      have hslot : (link (setSeen role s) role).slot = (link s role).slot := by simp [setSeen]
      cases granted with
      | false => rfl
      | true =>
        have hpending : (link s role).slot = .pending := by simpa using hasked
        simp only [Machine.takeRequest, hslot, hpending, if_true]
    rw [hidle]
    exact h.takeRequest_of_read (fun _ => rfl) role granted params

theorem demandOwner (params : List Byte) (s : State) (h : Safe .all noStale s) :
    Safe .all noStale (Machine.demandOwner params s).1 := by
  unfold Machine.demandOwner
  split
  · exact h
  · refine forEach_keeps (Safe .all noStale) _ _ (fun g _ _ hu => hu.modGroup_of_same g ?_) s h
    exact fun _ => ⟨rfl, rfl, rfl⟩

theorem priorityInhibitOwner (params : List Byte) (s : State) (h : Safe .all noStale s) :
    Safe .all noStale (Machine.priorityInhibitOwner params s).1 := by
  unfold Machine.priorityInhibitOwner
  split
  · exact h
  · next set _ _ =>
    refine forEach_keeps (Safe .all noStale) _ _ (fun g _ u hu => ?_) s h
    have h1 : Safe .all noStale (Machine.modGroup g (fun r => { r with priorityInhibited := set }) u) :=
      hu.modGroup_of_same g fun _ => ⟨rfl, rfl, rfl⟩
    exact iteInduction (motive := Safe .all noStale) (fun _ => h1.emit _) fun _ => h1

theorem groupInhibitOwner (params : List Byte) (s : State) (h : Safe .all noStale s) :
    Safe .all noStale (Machine.groupInhibitOwner params s).1 := by
  unfold Machine.groupInhibitOwner
  split
  · exact h
  · next set _ _ =>
    refine forEach_keeps (Safe .all noStale) _ _ (fun g _ u hu => ?_) s h
    have h1 : Safe .all noStale (Machine.modGroup g (fun r => { r with inhibited := set }) u) :=
      hu.modGroup_of_same g fun _ => ⟨rfl, rfl, rfl⟩
    exact iteInduction (motive := Safe .all noStale) (fun _ => hu) fun _ => h1.handOn _

/-- A request that passes check 3 of R37 releases no two groups that conflict. -/
theorem transitionOwner (role : Role) (params : List Byte) (s : State) (h : Safe .all noStale s) :
    Safe .all noStale (Machine.transitionOwner role params s).1 := by
  unfold Machine.transitionOwner
  split
  · exact h
  split
  · exact h
  split
  · exact h
  split
  · exact h
  next hfree =>
    simp only [Bool.not_eq_false, releaseFree, List.all_eq_true, Bool.not_eq_true'] at hfree
    refine iteInduction (motive := fun x : State × Reply => Safe .all noStale x.1) (fun _ => h) fun _ => ?_
    refine iteInduction (motive := fun x : State × Reply => Safe .all noStale x.1) (fun _ => h) fun _ => ?_
    refine iteInduction (motive := fun x : State × Reply => Safe .all noStale x.1) (fun _ => h) fun _ => ?_
    unfold acceptTransition
    split
    · exact h
    · next hk => exact h.writeRecordAt hk _ _ _ _ _ fun i hi j hj => hfree i hi j hj

theorem cancelTransitionOwner (role : Role) (params : List Byte) (s : State) (h : Safe .all noStale s) :
    Safe .all noStale (Machine.cancelTransitionOwner role params s).1 := by
  unfold Machine.cancelTransitionOwner
  split
  · split
    · exact h
    · split
      · exact h.cancelRecord _ _
      · exact h
  · exact h

theorem wantNormal (s : State) (h : Safe .all noStale s) : Safe .all noStale (Machine.wantNormal s).1 := by
  unfold Machine.wantNormal
  split
  · next hm =>
    split
    · exact h.enterStart (by rw [hm]; decide) (by rw [hm]; decide)
    · exact h
  · next hm =>
    split
    · exact h.enterStart (by rw [hm]; decide) (by rw [hm]; decide)
    · exact h
  all_goals exact h

theorem wantResting (target : ClearTarget) (s : State) (h : Safe .all noStale s) :
    Safe .all noStale (Machine.wantResting target s).1 := by
  unfold Machine.wantResting
  split
  · exact h
  · exact h.of_eq rfl rfl rfl rfl
  · exact h.enterClearing target
  · exact h.enterResting _
  · split
    · exact h
    · exact h.enterResting _

theorem modeOwner (params : List Byte) (s : State) (h : Safe .all noStale s) :
    Safe .all noStale (Machine.modeOwner params s).1 := by
  unfold Machine.modeOwner
  split
  · split
    · exact wantNormal s h
    · exact wantResting .flash s h
    · exact wantResting .dark s h
    · exact h
  · exact h

theorem tramCheckInOwner (params : List Byte) (s : State) (h : Safe .all noStale s) :
    Safe .all noStale (Machine.tramCheckInOwner params s).1 := by
  unfold Machine.tramCheckInOwner
  split
  · exact h
  · exact h.takeCheckIn _

theorem onTram {act : EntryId → TramRec → State → State}
    (hact : ∀ k r s, Safe .all noStale s → Safe .all noStale (act k r s)) (params : List Byte) (s : State)
    (h : Safe .all noStale s) : Safe .all noStale (Machine.onTram act params s).1 := by
  unfold Machine.onTram
  split
  · exact h
  · split
    · exact h
    · split
      · exact hact _ _ s h
      · exact h

theorem clearLampFaultsOwner (params : List Byte) (s : State) (h : Safe .all noStale s) :
    Safe .all noStale (Machine.clearLampFaultsOwner params s).1 := by
  unfold Machine.clearLampFaultsOwner
  split
  · exact h
  · refine forEach_keeps (Safe .all noStale) _ _ (fun g _ u hu => ?_) s h
    have h1 : Safe .all noStale (modLamps g clearLampTimes
        (Machine.modGroup g (fun r => { r with redLost := false, faults := noFaults }) u)) :=
      (hu.modGroup_of_same g (f := fun r => { r with redLost := false, faults := noFaults })
        fun _ => ⟨rfl, rfl, rfl⟩).of_eq rfl rfl rfl rfl
    exact iteInduction (motive := Safe .all noStale) (fun _ => h1.emit _) fun _ => h1

/-- With no commit waiting, the staging image is free (R166). -/
theorem withStaging (h : Safe c X s) (hc : s.commit = .idle) (img : Image) : Safe c X { s with staging := img } where
  config := ⟨h.config.valid, fun hw => by
    rw [show s.commit = _ from hw] at hc
    cases hc⟩
  groups := h.groups.of_groups rfl rfl fun _ => .refl _
  records := h.records.of_eq rfl rfl
  claims := h.claims

theorem writeConfigOwner (params : List Byte) (h : Safe .all noStale s) (hc : s.commit = .idle) :
    Safe .all noStale (Machine.writeConfigOwner params s).1 := by
  unfold Machine.writeConfigOwner
  split
  · exact h
  · exact h.withStaging hc _

theorem discardStagingOwner (params : List Byte) (h : Safe .all noStale s) (hc : s.commit = .idle) :
    Safe .all noStale (Machine.discardStagingOwner params s).1 := by
  unfold Machine.discardStagingOwner noParams
  split
  · exact h.withStaging hc _
  · exact h

/-- The image that a commit leaves waiting has been validated (R167). -/
theorem commitConfigOwner (params : List Byte) (s : State) (h : Safe .all noStale s) :
    Safe .all noStale (Machine.commitConfigOwner params s).1 := by
  refine noParams_keeps (fun s h => ?_) params s h
  split
  · exact h
  · next hv =>
    exact emit (s := { s with commit := .waitingApply })
      { config := ⟨h.config.valid, fun _ => hv⟩
        groups := h.groups.of_groups rfl rfl fun _ => .refl _
        records := h.records.of_eq rfl rfl
        claims := h.claims } _

theorem completePending (h : Safe c X s) (r : Role) (reply : Reply) : Safe c X (Machine.completePending r reply s) :=
  (h.modLink r _).raise _ _

theorem endStoreWrite (h : Safe c X s) (held : Store) : Safe c X (Machine.endStoreWrite held s) := by
  refine completePending (s := { s with store := held, commit := .idle }) ?_ _ _
  exact
    { config := ⟨h.config.valid, fun hw => by cases hw⟩
      groups := h.groups.of_groups rfl rfl fun _ => .refl _
      records := h.records.of_eq rfl rfl
      claims := h.claims }

/-! ### Commands -/

theorem advanceTime (h : Safe c X s) : Safe c X (Machine.advanceTime s) := by
  have hgrp : ∀ g, grp (Machine.advanceTime s) g = ageGroup (s.now + 1#32) (grp s g) := fun g => by
    simp [grp, Machine.advanceTime]
  refine h.of_groups rfl rfl rfl (fun g => ?_) fun g => ?_
  · rw [hgrp]
    exact eased_of_same rfl rfl rfl
  · rw [hgrp]
    exact .inr rfl

theorem changeFlashPhase (h : Safe c X s) : Safe c X (Machine.changeFlashPhase s) := by
  unfold Machine.changeFlashPhase
  refine forEach_keeps (Safe c X) _ _ (fun g _ u hu => ?_) _ ?_
  · exact hu.of_eq rfl rfl rfl rfl
  · exact h.of_eq rfl rfl rfl rfl

theorem dropOne (h : Safe .all noStale s) (g : GroupId) (stamp : Stamp) :
    Safe .all noStale (Machine.dropOne g stamp s) := by
  have h1 : Safe .all noStale (Machine.modGroup g (fun r => dropStamp r stamp) s) :=
    h.modGroup_of_same g fun r => by cases stamp <;> exact ⟨rfl, rfl, rfl⟩
  exact iteInduction (motive := Safe .all noStale) (fun _ => (h1.takeTerminate g).settled) fun _ => h1

theorem autostart (h : Safe .all noStale s) : Safe .all noStale (Machine.autostart s) := by
  have h1 : Safe .all noStale { s with autostartDue := false } := h.of_eq rfl rfl rfl rfl
  refine iteInduction (motive := Safe .all noStale) (fun hc => settled ?_) fun _ => h1
  simp only [canAutostart, Bool.and_eq_true, Bool.or_eq_true, beq_iff_eq] at hc
  refine h1.enterStart ?_ ?_ <;> rcases hc.2 with hm | hm <;> simp [hm]

theorem passCheck (h : Safe .all noStale s) : Safe .all noStale (Machine.passCheck s) := by
  have h1 : Safe .all noStale { s with lockoutCheck := none } := h.of_eq rfl rfl rfl rfl
  exact ((h1.enterResting .flash).completePending _ _).settled

theorem sampleCheck (h : Safe c X s) (sense : BitVec 72) : Safe c X (Machine.sampleCheck sense s) := by
  have h1 : ∀ x, Safe c X { s with lockoutCheck := x } := fun _ => h.of_eq rfl rfl rfl rfl
  unfold Machine.sampleCheck
  split
  · exact h
  · split
    · exact h
    · split
      · exact (h1 none).completePending _ _
      · exact h1 _

theorem modLamps (h : Safe c X s) (g : GroupId) (f : Lamps → Lamps) : Safe c X (Machine.modLamps g f s) :=
  h.of_eq rfl rfl rfl rfl

theorem markLost (h : Safe c X s) (g : GroupId) : Safe c X (Machine.markLost g s) := by
  have h1 : Safe c X (Machine.modGroup g (fun r => { r with redLost := true }) s) :=
    h.modGroup_of_same g fun _ => ⟨rfl, rfl, rfl⟩
  exact iteInduction (motive := Safe c X) (fun _ => h)
    fun _ => ((h1.raiseFor .lamp [.central, .service]).raiseFor _ _).handOn _

theorem latchLampOut (h : Safe c X s) (g : GroupId) (which : Circuit) :
    Safe c X (Machine.latchLampOut g which s) := by
  have h1 : Safe c X (Machine.modGroup g (fun r => { r with faults := withLampOut r.faults which }) s) :=
    h.modGroup_of_same g fun _ => ⟨rfl, rfl, rfl⟩
  exact iteInduction (motive := Safe c X) (fun _ => h) fun _ => h1.raiseFor .lamp [.central, .service]

theorem latchStuckOn (h : Safe c X s) (g : GroupId) (which : Circuit) :
    Safe c X (Machine.latchStuckOn g which s) := by
  have h1 : Safe c X (Machine.modGroup g (fun r => { r with faults := withStuckOn r.faults which }) s) :=
    h.modGroup_of_same g fun _ => ⟨rfl, rfl, rfl⟩
  exact iteInduction (motive := Safe c X) (fun _ => h) fun _ => h1.raiseFor .lamp [.central, .service]

theorem endHold (h : Safe c X s) (k : EntryId) (r : TramRec) : Safe c X (Machine.endHold k r s) :=
  (h.modTram k _).recomputeHold _

theorem clearAllCounts (h : Safe c X s) : Safe c X (Machine.clearAllCounts s) :=
  h.of_eq (by simp only [imagesOf, Machine.clearAllCounts]) (by simp only [tableOf, Machine.clearAllCounts]) rfl rfl

theorem discardReply (h : Safe c X s) (r : Role) : Safe c X (Machine.discardReply r s) := by
  have hlinks : ∀ l, Safe c X { s with links := l } := fun _ => h.of_eq rfl rfl rfl rfl
  rw [UnusedLaw.discardReply_frame]
  exact hlinks _

theorem dropFrame (h : Safe c X s) (bytes : List Byte) : Safe c X (Machine.dropFrame bytes s) := by
  unfold Machine.dropFrame countFormat
  split
  · exact h
  · split
    · exact h
    · split
      · exact h
      · exact h.modLink _ _
      · exact h.modLink _ _
      · exact (h.modLink _ _).modLink _ _

theorem timedOutSeen (h : Safe c X s) (frame : TimedFrame) (r : Role) :
    Safe c X (Machine.timedOutSeen frame r s) := by
  unfold Machine.timedOutSeen
  split
  · exact h.modLink r _
  · exact h
  · exact h

theorem readReply (h : Safe c X s) (role : Role) (n : Nat) : Safe c X (Machine.readReply role n s) := by
  unfold Machine.readReply
  dsimp only
  repeat' split
  all_goals exact h.of_eq rfl rfl rfl rfl

theorem noticePollOwner (role : Role) (s : State) (h : Safe .all noStale s) :
    Safe .all noStale (Machine.noticePollOwner role s).1 := by
  unfold Machine.noticePollOwner
  split
  · exact h
  · exact h.of_eq rfl rfl rfl rfl

theorem mode_of_startDue {s : State} (hdue : startFlashDue s = true ∨ startRedDue s = true) : s.mode = .start := by
  simp only [startFlashDue, startRedDue, Bool.and_eq_true, beq_iff_eq] at hdue
  exact hdue.elim And.left And.left

/-- A next state that `exec` names meets the release laws when the state it is built as is safe. -/
theorem of_next (h : Safe .all noStale s) (he : (.next s : Host.Outcome State Fault Refusal) = .next t) :
    ReleaseLaws t := by
  cases he
  exact h.releaseLaws

/-- A conditional event keeps the laws when its effect does. -/
theorem event (h : Safe c X s) {p : Prop} [Decidable p] {u : State} (hu : p → Safe c X u) :
    Safe c X (if p then u else s) := iteInduction (motive := Safe c X) hu fun _ => h

end Safe

/-- After either reset every group is DARK without claim or schedule, and the table is empty (R19, R57). -/
theorem releaseLaws_afterReset (service carried : Bool) (straps : Straps) (level : Bool) (store : Store)
    (cause : Option LockoutCause) (pending : List Instr) (order : OpenOrders) :
    ReleaseLaws (afterReset service carried straps level store cause pending order) := by
  obtain ⟨_, hgroups, _, _⟩ := freshGroups_afterReset service carried straps level store cause pending order
  have hslot : ∀ k, slot (afterReset service carried straps level store cause pending order) k = none := slot_reset
  constructor
  · intro i j _ hp
    have hproceed := hp.1
    rw [inProceed, (hgroups i).state] at hproceed
    cases hproceed
  · intro g hst
    rw [(hgroups g).state] at hst
    cases hst
  · intro g hsch
    rw [(hgroups g).schedule] at hsch
    cases hsch
  · exact fun _ _ g => .inl (hgroups g).state
  · intro g cl hcl
    rw [(hgroups g).claim] at hcl
    cases hcl
  · intro j k q r hq
    rw [hslot] at hq
    cases hq
  · intro k r hr
    rw [hslot] at hr
    cases hr
  · intro k r hr
    rw [hslot] at hr
    cases hr
  · intro j k q r hq
    rw [hslot] at hq
    cases hq

/-- Every command keeps the release laws. SERVICE's slot is PENDING while a commit is under way, so that its staging
image is not written (R154, R168). -/
theorem Safe.exec {s t : State} (h : Safe .all noStale s)
    (hpending : s.commit ≠ .idle → (link s .service).slot = .pending) (c : Instr)
    (he : Machine.exec c s = .next t) : ReleaseLaws t := by
  have hidle : ∀ {role : Role}, serviceOnly role = true → (link s role).slot ≠ .pending → s.commit = .idle := by
    intro role hr hslot
    by_contra hc
    obtain rfl : role = .service := by simpa [serviceOnly] using hr
    exact hslot (hpending hc)
  cases c with
  | powerOnReset pins =>
    cases he
    exact releaseLaws_afterReset _ _ _ _ _ _ _ _
  | autostart => exact of_next (h.event fun _ => h.autostart) he
  | junctionTimeAdvance => exact of_next h.advanceTime he
  | flashPhaseChange => exact of_next (h.event fun _ => h.changeFlashPhase) he
  | stampDrop g stamp => exact of_next (h.event fun _ => h.dropOne g stamp) he
  | minimumRedExpires g => exact of_next (h.event fun hc => (h.leaveRedMin hc).settled) he
  | nowReachesS g =>
    refine of_next ?_ he
    split
    · next hr => exact (h.beginPrepare hr).settled
    · exact h
  | nowReachesT g =>
    refine of_next ?_ he
    split
    · next hr => exact (h.enterGreenMin_of_reachedT hr).settled
    · exact h
  | minimumGreenExpires g => exact of_next (h.event fun hc => (h.leaveGreenMin hc).settled) he
  | nowReachesHoldUntil g => exact of_next (h.event fun _ => (h.takeTerminate g).settled) he
  | clearTimeExpires g => exact of_next (h.event fun hc => (h.enterRedMin hc).settled) he
  | startFlashExpires =>
    exact of_next (h.event fun hc => (h.enterRedPhase (mode_of_startDue (.inl hc))).settled) he
  | startRedExpires =>
    exact of_next (h.event fun hc => (h.enterNormal (mode_of_startDue (.inr hc))).settled) he
  | supervisionExpires => exact of_next (h.event fun _ => (h.enterClearing .flash).settled) he
  | lampSenseSample sense =>
    have h1 := forEach_keeps (Safe .all noStale) allGroups (sampleGroup sense) (fun g _ u hu => hu.modLamps g _) s h
    exact of_next (h1.sampleCheck sense) he
  | unwantedProceed g =>
    exact of_next (h.event fun _ => (enterLockout (h.modLamps g _) g .c).settled) he
  | redLost g => exact of_next (h.event fun _ => (markLost (h.modLamps g _) g).settled) he
  | lampOut g which => exact of_next (h.event fun _ => latchLampOut (h.modLamps g _) g which) he
  | stuckOn g which => exact of_next (h.event fun _ => latchStuckOn (h.modLamps g _) g which) he
  | clearLockoutCheckPasses => exact of_next (h.event fun _ => h.passCheck) he
  | noOsc e => exact of_next (h.completeMeasurement e _).settled he
  | lowFreq e => exact of_next (h.completeMeasurement e _).settled he
  | measurementComplete e n => exact of_next (h.completeMeasurement e _).settled he
  | trackingMoment =>
    refine of_next (h.event fun _ => ?_) he
    refine forEach_keeps (Safe .all noStale) _ _ (fun ch _ u hu => ?_) _ ?_
    · exact hu.of_eq rfl rfl rfl rfl
    · exact h.of_eq rfl rfl rfl rfl
  | presenceLimitExpires ch => exact of_next (h.event fun _ => (h.expirePresence ch).settled) he
  | inputSample pins =>
    refine of_next (forEach_keeps (Safe .all noStale) _ _ (fun i _ u hu => ?_) s h) he
    exact hu.of_eq rfl rfl rfl rfl
  | debouncedStateChange i => exact of_next (h.event fun _ => (h.changeDebounced i).settled) he
  | gapValueSaturates g =>
    refine of_next (h.event fun _ => h.modGroup_of_same g ?_) he
    exact fun _ => ⟨rfl, rfl, rfl⟩
  | framingError =>
    refine of_next (h.event fun _ => ?_) he
    exact h.of_eq rfl rfl rfl rfl
  | byteComplete =>
    refine of_next ?_ he
    split
    · exact (h.takeCompleted _).settled
    · exact h
  | gapTimerExpires =>
    refine of_next (h.event fun _ => ?_) he
    exact h.of_eq rfl rfl rfl rfl
  | lineBreak =>
    refine of_next (h.event fun _ => raiseFor ?_ _ _) he
    exact h.of_eq rfl rfl rfl rfl
  | brokenWaitComplete =>
    refine of_next (h.event fun _ => ?_) he
    exact h.of_eq rfl rfl rfl rfl
  | holdTimerExpires k =>
    refine of_next ?_ he
    split
    · exact (h.endHold k _).settled
    · exact h
  | lostTimerExpires k =>
    refine of_next ?_ he
    split
    · exact (h.loseTram k _).settled
    · exact h
  | requestFrameDrop bytes close => exact of_next (h.dropFrame bytes) he
  | linkClockTimeout r frame => exact of_next ((h.timedOutSeen frame r).modLink r _) he
  | replyRead r n => exact of_next (h.readReply r n) he
  | requestCodeUnknown r code =>
    refine of_next (iteInduction (motive := Safe .all noStale) (fun _ => h) fun _ => ?_) he
    exact h.takeRequest_of_read (fun _ => rfl) r true []
  | readJunction r p => exact of_next (h.takeRequest_of_read (readJunctionOwner_fst p) r true p) he
  | readGroups r p => exact of_next (h.takeRequest_of_read (readGroupsOwner_fst p) r true p) he
  | readTransitions r p => exact of_next (h.takeRequest_of_read (readTransitionsOwner_fst p) r true p) he
  | readLoops r p => exact of_next (h.takeRequest_of_read (readLoopsOwner_fst p) r true p) he
  | readTrams r p => exact of_next (h.takeRequest_of_read (readTramsOwner_fst p) r true p) he
  | readCounts r p => exact of_next (h.takeRequest_of_read (readCountsOwner_fst p) r true p) he
  | noticePoll r p => exact of_next (h.takeRequest (noParams_keeps (noticePollOwner r) p) r true p) he
  | keepalive r p => exact of_next (h.takeRequest (noParams_keeps (fun _ hu => hu) p) r (planOnly r) p) he
  | demand r p => exact of_next (h.takeRequest (demandOwner p) r (planOnly r) p) he
  | priorityInhibit r p => exact of_next (h.takeRequest (priorityInhibitOwner p) r (planOnly r) p) he
  | transition r p => exact of_next (h.takeRequest (transitionOwner r p) r (planOrCentral r) p) he
  | cancelTransition r p => exact of_next (h.takeRequest (cancelTransitionOwner r p) r (planOrCentral r) p) he
  | mode r p => exact of_next (h.takeRequest (modeOwner p) r (modeRoles r) p) he
  | groupInhibit r p => exact of_next (h.takeRequest (groupInhibitOwner p) r (centralOnly r) p) he
  | tramCheckIn r p => exact of_next (h.takeRequest (tramCheckInOwner p) r (tramnetOnly r) p) he
  | tramCheckOut r p =>
    exact of_next (h.takeRequest (onTram (fun k q _ h => h.checkOut k q) p) r (tramnetOnly r) p) he
  | tramCancel r p =>
    exact of_next (h.takeRequest (onTram (fun k q _ h => h.removeTram k q) p) r (tramnetOnly r) p) he
  | writeConfig r p =>
    exact of_next (h.takeRequest_of_asked (fun hr hs => writeConfigOwner p (h.modLink r _) (hidle hr hs)) p) he
  | commitConfig r p => exact of_next (h.takeRequest (commitConfigOwner p) r (serviceOnly r) p) he
  | storeWriteEnd held => exact of_next (h.event fun _ => h.endStoreWrite _) he
  | discardStaging r p =>
    exact of_next (h.takeRequest_of_asked (fun hr hs => discardStagingOwner p (h.modLink r _) (hidle hr hs)) p) he
  | readConfig r p => exact of_next (h.takeRequest_of_read (readConfigOwner_fst p) r (serviceOnly r) p) he
  | clearLockout r p =>
    refine of_next (h.takeRequest (noParams_keeps (fun v hv => ?_) p) r (serviceOnly r) p) he
    split
    · exact hv.of_eq rfl rfl rfl rfl
    · exact hv
  | clearLampFaults r p => exact of_next (h.takeRequest (clearLampFaultsOwner p) r (serviceOnly r) p) he
  | clearCounts r p =>
    refine of_next (h.takeRequest (noParams_keeps (fun v hv => ?_) p) r (serviceOnly r) p) he
    exact hv.clearAllCounts.discardReply r
  | restart r p =>
    cases he
    split
    · exact releaseLaws_afterReset _ _ _ _ _ _ _ _
    · exact (h.takeRequest_of_read (fun _ => rfl) r (serviceOnly r) p).releaseLaws
  | beaconLineSample level =>
    refine of_next ?_ he
    exact h.of_eq rfl rfl rfl rfl

/-- Settles O60: a command is taken from the queue in a safe state, and every command keeps the release laws. -/
theorem conflictingGroupsNeverProceedTogether : Obligations.ConflictingGroupsNeverProceedTogether := by
  intro s t hconfig hunused hfinish hrelease hstep
  have h := safe_of_laws hconfig hunused hfinish hrelease
  unfold step at hstep
  split at hstep
  · exact h.of_next hstep
  · next rest _ =>
    have h1 : Safe .all noStale { s with pending := rest } := h.of_eq rfl rfl rfl rfl
    exact h1.exec hconfig.pending _ hstep

end Sys2Proof.Machine
end

section
/-! SUPPORT. What the release arbiter can do to its records, said once more finely than in `BlocksKeep`: it settles an
item, drops one that RED_LOST stands against, makes a QUEUED record ACTIVE and finishes a record. A property that tells
finished records from live ones, or follows a record's items, is kept by every operation of the arbiter once these
primitive updates keep it. -/

namespace Sys2Proof.Machine

open Sys2Proof

/-- The hand-off of a RED_LOST marking: no operation of the arbiter sets it off. -/
def isMarking : Handoff → Bool
  | .arbiterLost _ => true
  | _ => false

/-- The primitive updates of the release arbiter keep a property. -/
structure ArbiterKeeps (P : State → Prop) : Prop where
  /-- Hand-offs are taken, or set off, but no RED_LOST marking. -/
  work : ∀ s w, (∀ x ∈ w, x ∈ s.work ∨ isMarking x = false) → P s → P { s with work := w }
  /-- A hand-off takes its order from the free value. -/
  order : ∀ s o, P s → P { s with order := { s.order with neighbours := o } }
  /-- A notice is raised. -/
  raise : ∀ n r s, P s → P (raise n r s)
  /-- A group record changes, but for its RED_LOST flag. -/
  group : ∀ g f s, (∀ r, (f r).redLost = r.redLost) → P s → P (modGroup g f s)
  /-- The lamps of a group change. -/
  lamps : ∀ g f s, P s → P (modLamps g f s)
  /-- An item takes an outcome. -/
  outcome : ∀ k g o s, P s → P (modSlot k (setOutcome g o) s)
  /-- A QUEUED record becomes ACTIVE. -/
  start : ∀ k s, (∀ r, slot s k = some r → r.state = .queued) → P s → P (modSlot k activated s)
  /-- A release goes that a RED_LOST marking stands against. -/
  lost : ∀ k j s, lostNear s j = true → P s → P (modSlot k (dropItem j) s)
  /-- A record finishes. -/
  finish : ∀ k r st cause s, (st = .done ∨ st = .cancelled) → slot s k = some r → P s →
    P (finishedTable k r st cause s)

namespace ArbiterKeeps

variable {P : State → Prop} (H : ArbiterKeeps P) {s : State}

include H

/-! ### Hand-offs -/

theorem emitAll (xs : List Handoff) (hx : ∀ x ∈ xs, isMarking x = false) (hs : P s) : P (Machine.emitAll xs s) :=
  H.work s _ (fun x hmem => (List.mem_append.1 hmem).imp_right (hx x)) hs

theorem emit (x : Handoff) (hx : isMarking x = false) (hs : P s) : P (Machine.emit x s) :=
  H.emitAll [x] (fun y hy => by rw [List.mem_singleton.1 hy]; exact hx) hs

theorem handEntry (g : GroupId) (st : GState) (hs : P s) : P (Machine.handEntry g st s) := by
  refine H.emitAll _ (fun x hx => ?_) (H.order s _ hs)
  obtain ⟨n, _, hn⟩ := List.mem_filterMap.1 hx
  cases n <;> simp only [entryHandoff, Option.ite_none_right_eq_some, Option.some.injEq] at hn
  case arbiter => rw [← hn]; rfl
  all_goals rw [← hn.2]; rfl

/-! ### Signal group table -/

theorem refreshLamps (g : GroupId) (hs : P s) : P (Machine.refreshLamps g s) := by
  unfold Machine.refreshLamps
  exact H.lamps g _ s hs

theorem enterState (g : GroupId) (st : GState) (hs : P s) : P (Machine.enterState g st s) := by
  unfold Machine.enterState
  split
  · exact hs
  · exact H.handEntry g st (H.refreshLamps g (H.group g _ s (fun _ => rfl) hs))

theorem takeTerminate (g : GroupId) (hs : P s) : P (Machine.takeTerminate g s) := by
  unfold Machine.takeTerminate
  split
  · exact H.enterState g .clear (H.group g _ s (fun _ => rfl) hs)
  · exact hs

theorem withdrawClaim (id : TransId) (g : GroupId) (hs : P s) : P (Machine.withdrawClaim id g s) := by
  unfold Machine.withdrawClaim
  split
  · exact hs
  · split
    · have h1 : P (modGroup g
          (fun r => { r with claim := none, pendingTerm := withdrawTerm id r.pendingTerm }) s) :=
        H.group g _ s (fun _ => rfl) hs
      exact iteInduction (motive := P)
        (fun _ => H.enterState g .red (H.group g _ _ (fun _ => rfl) h1)) (fun _ => h1)
    · exact hs

/-! ### Records that finish -/

theorem finishRecord (k : SlotId) (st : TState) (cause : EndCause) (hst : st = .done ∨ st = .cancelled)
    (hs : P s) : P (Machine.finishRecord k st cause s) := by
  cases hr : slot s k with
  | none => simpa only [Machine.finishRecord, hr] using hs
  | some r =>
    have h1 := H.finish k r st cause s hst hr hs
    rw [finishRecord_eq hr]
    refine H.emitAll _ (by simp [isMarking]) (iteInduction (motive := P) (fun _ => ?_) fun _ => h1)
    exact forEach_keeps P _ _ (fun g _ _ ht => H.withdrawClaim r.id g ht) _ h1

theorem noticeOrigin (r : TransRec) (hs : P s) : P (Machine.noticeOrigin r s) := by
  unfold Machine.noticeOrigin
  split
  · exact H.raise _ _ _ hs
  · exact hs

theorem completeIfDone (k : SlotId) (hs : P s) : P (Machine.completeIfDone k s) := by
  unfold Machine.completeIfDone
  split
  · exact hs
  · split
    · exact H.noticeOrigin _ (H.finishRecord k .done .completed (.inl rfl) hs)
    · exact hs

theorem cancelRecord (cause : EndCause) (k : SlotId) (hs : P s) : P (Machine.cancelRecord cause k s) := by
  unfold Machine.cancelRecord
  split
  · exact hs
  · next r _ =>
    split
    · have h1 := H.finishRecord k .cancelled cause (.inr rfl) hs
      unfold handCancelled
      split
      · exact h1
      · exact H.emit _ rfl h1
      · exact h1
      · exact H.noticeOrigin r h1
    · exact hs

/-- The rest of a drop: the claim goes, and the record may end (R50). -/
theorem dropRelease (k : SlotId) (g : GroupId) (hd : P (modSlot k (dropItem g) s)) (hs : P s) :
    P (Machine.dropRelease k g s) := by
  unfold Machine.dropRelease
  split
  · exact hs
  · next r _ =>
    have h1 := H.withdrawClaim r.id g hd
    exact iteInduction (motive := P) (fun _ => H.cancelRecord .redLost k h1)
      (fun _ => H.completeIfDone k (H.noticeOrigin r h1))

/-! ### Activation and scheduling (R44, R45, R48) -/

theorem dropLostReleases (k : SlotId) (hs : P s) : P (Machine.dropLostReleases k s) := by
  refine forEach_keeps P _ _ (fun j _ t ht => ?_) s hs
  split
  · next h =>
    rw [Bool.and_eq_true] at h
    exact H.dropRelease k j (H.lost k j t h.2 ht) ht
  · exact ht

theorem settleItem (k : SlotId) (g : GroupId) (hs : P s) : P (Machine.settleItem k g s) := by
  unfold Machine.settleItem
  split
  · exact hs
  · next r _ =>
    split
    · exact hs
    · next it _ =>
      have h1 : P (modGroup g (fun q => { q with claim := some { id := r.id, kind := it.kind } }) s) :=
        H.group g _ s (fun _ => rfl) hs
      dsimp only
      split
      · exact iteInduction (motive := P) (fun _ => H.group g _ _ (fun _ => rfl) h1) (fun _ => H.outcome k g _ _ h1)
      · exact iteInduction (motive := P) (fun _ => H.outcome k g _ _ h1)
          (fun _ => iteInduction (motive := P) (fun _ => H.enterState g .redWait h1) (fun _ => h1))

theorem takePlaced (id : TransId) (hs : P s) : P (Machine.takePlaced id s) := by
  refine forEach_keeps P _ _ (fun g _ t ht => ?_) s hs
  split
  · exact H.takeTerminate g ht
  · exact ht

theorem activate (k : SlotId) (hq : ∀ r, slot s k = some r → r.state = .queued) (hs : P s) :
    P (Machine.activate k s) := by
  unfold Machine.activate
  split
  · exact hs
  · next r _ =>
    exact H.completeIfDone k (H.takePlaced r.id (H.dropLostReleases k
      (forEach_keeps P _ _ (fun g _ _ ht => H.settleItem k g ht) _ (H.start k s hq hs))))

theorem activationPass (ks : List SlotId) : ∀ (sup : List TransRec) (s : State), P s →
    P (Machine.activationPass ks sup s) := by
  induction ks with
  | nil => exact fun _ _ hs => hs
  | cons k rest ih =>
    intro sup s hs
    unfold Machine.activationPass
    split
    · exact ih _ _ hs
    · next r hr =>
      split
      · next hq =>
        split
        · exact ih _ _ (H.activate k (fun q hslot => by rw [hr] at hslot; cases hslot; exact hq) hs)
        · exact ih _ _ hs
      · exact ih _ _ hs

theorem examineScheduling (hs : P s) : P (Machine.examineScheduling s) := by
  refine forEach_keeps P _ _ (fun j _ t ht => ?_) s hs
  unfold Machine.scheduleGroup
  split
  · exact H.group j _ t (fun _ => rfl) ht
  · exact ht

theorem examineSchedule (hs : P s) : P (Machine.examineSchedule s) := by
  unfold Machine.examineSchedule
  split
  · exact H.examineScheduling hs
  · exact hs

theorem examineArbiter (hs : P s) : P (Machine.examineArbiter s) := by
  unfold Machine.examineArbiter
  split
  · exact H.examineScheduling (H.activationPass _ _ _ hs)
  · exact hs

/-! ### State entries (R9, R34, R112) -/

theorem markReached (g : GroupId) (kd : ItemKind) (hs : P s) : P (Machine.markReached g kd s) := by
  unfold Machine.markReached
  split
  · exact hs
  · split
    · split
      · exact hs
      · exact iteInduction (motive := P) (fun _ => H.completeIfDone _ (H.outcome _ g _ s hs)) (fun _ => hs)
    · exact hs

theorem arbiterEntry (g : GroupId) (st : GState) (hs : P s) : P (Machine.arbiterEntry g st s) := by
  unfold Machine.arbiterEntry
  dsimp only
  split
  · exact H.examineArbiter (H.markReached g .release hs)
  · exact H.examineArbiter (H.markReached g .terminate hs)
  · exact H.examineArbiter hs

theorem takeClearEntry (g : GroupId) (hs : P s) : P (Machine.takeClearEntry g s) := by
  unfold Machine.takeClearEntry
  split
  · split
    · exact H.group g _ s (fun _ => rfl) hs
    · exact hs
  · exact hs

end ArbiterKeeps

end Sys2Proof.Machine
end

section
/-! SUPPORT. The laws of the tables as every operation keeps them (R35, R38, R98, R133, R159): under a given active image,
with the loop channels held to given LOOPS records, for an apply changes the image before the channels restart. -/

namespace Sys2Proof.Machine

open Sys2Proof

/-! ### The loop channels (R93 to R98) -/

/-- A channel record keeps to R98 under a LOOPS record. -/
def ChannelLaw (c : LoopCfg) (r : ChannelRec) : Prop :=
  (∀ x, r.lastShift = some x → -9999 ≤ x ∧ x ≤ 9999) ∧
    (r.state = .free ∨ r.state = .occupied →
      ∃ b n, r.baseline = some b ∧ r.lastCount = some n ∧ ValidCount c.periods.toNat b ∧
        ValidCount c.periods.toNat n)

theorem shiftOf_bounds (b n : Nat) : -9999 ≤ shiftOf b n ∧ shiftOf b n ≤ 9999 := by
  unfold shiftOf
  omega

/-- A channel out of FREE and OCCUPIED whose shift stands keeps the law. -/
theorem ChannelLaw.of_state {c : LoopCfg} {r q : ChannelRec} (h : ChannelLaw c r) (hs : q.lastShift = r.lastShift)
    (hf : q.state ≠ .free) (ho : q.state ≠ .occupied) : ChannelLaw c q :=
  ⟨by rw [hs]; exact h.1, fun hq => (hq.elim hf ho).elim⟩

/-- A channel whose shift is right and whose baseline and count are valid keeps the law in every state. -/
theorem channelLaw_of_counts {c : LoopCfg} {r : ChannelRec} {b n : Nat}
    (hs : ∀ x, r.lastShift = some x → -9999 ≤ x ∧ x ≤ 9999) (hb : r.baseline = some b) (hn : r.lastCount = some n)
    (hvb : ValidCount c.periods.toNat b) (hvn : ValidCount c.periods.toNat n) : ChannelLaw c r :=
  ⟨hs, fun _ => ⟨b, n, hb, hn, hvb, hvn⟩⟩

/-- The shift 0 of a channel that has settled on a count (R95, R101). -/
theorem channelLaw_settleOn {c : LoopCfg} {r : ChannelRec} {n : Nat} (hs : r.lastShift = some 0)
    (hb : r.baseline = some n) (hn : r.lastCount = some n) (hv : ValidCount c.periods.toNat n) : ChannelLaw c r :=
  channelLaw_of_counts (fun x hx => by rw [hs] at hx; cases hx; decide) hb hn hv hv

/-- The judgement of a count keeps baseline and count and takes a shift within bounds (R94, R96). -/
theorem judgeOccupancy_spec (c : LoopCfg) (now : Time) (n : Nat) (r : ChannelRec) :
    (judgeOccupancy c now n r).baseline = r.baseline ∧ (judgeOccupancy c now n r).lastCount = r.lastCount ∧
      (judgeOccupancy c now n r).lastShift = some (shiftOf (r.baseline.getD n) n) := by
  unfold judgeOccupancy
  dsimp only
  split
  · split <;> exact ⟨rfl, rfl, rfl⟩
  · split <;> exact ⟨rfl, rfl, rfl⟩

theorem channelLaw_judgeOccupancy {c : LoopCfg} {r : ChannelRec} {b n : Nat} (now : Time)
    (hb : r.baseline = some b) (hn : r.lastCount = some n) (hvb : ValidCount c.periods.toNat b)
    (hvn : ValidCount c.periods.toNat n) : ChannelLaw c (judgeOccupancy c now n r) := by
  obtain ⟨h1, h2, h3⟩ := judgeOccupancy_spec c now n r
  refine channelLaw_of_counts (fun x hx => ?_) (h1.trans hb) (h2.trans hn) hvb hvn
  rw [h3] at hx
  cases hx
  exact shiftOf_bounds _ _

/-- A good measurement keeps the law (R93, R95, R96, R101). -/
theorem ChannelLaw.goodMeasurement {c : LoopCfg} {r : ChannelRec} (h : ChannelLaw c r) (now : Time) {n : Nat}
    (hn : ValidCount c.periods.toNat n) : ChannelLaw c (Machine.goodMeasurement c now n r) := by
  unfold Machine.goodMeasurement
  dsimp only
  split
  · next hst => exact h.of_state rfl (by simp [hst]) (by simp [hst])
  · exact channelLaw_settleOn rfl rfl rfl hn
  · next hst =>
    obtain ⟨b, _, hb, _, hvb, _⟩ := h.2 (.inl hst)
    exact channelLaw_judgeOccupancy now hb rfl hvb hn
  · next hst =>
    obtain ⟨b, _, hb, _, hvb, _⟩ := h.2 (.inr hst)
    exact channelLaw_judgeOccupancy now hb rfl hvb hn
  · next hst =>
    split
    · exact channelLaw_settleOn rfl rfl rfl hn
    · exact h.of_state rfl (by simp [hst]) (by simp [hst])

/-- A bad measurement keeps the law (R93, R100, R101). -/
theorem ChannelLaw.badMeasurement {c : LoopCfg} {r : ChannelRec} (h : ChannelLaw c r) (result : BadResult) :
    ChannelLaw c (Machine.badMeasurement result r) := by
  unfold Machine.badMeasurement
  dsimp only
  split
  · next hst => exact h.of_state rfl (by simp [hst]) (by simp [hst])
  · split
    · exact h.of_state rfl (by simp) (by simp)
    · exact h

/-- A measurement keeps the law when its good counts are valid. -/
theorem ChannelLaw.measure {c : LoopCfg} {r : ChannelRec} (h : ChannelLaw c r) (now : Time) {m : Measured}
    (hm : ∀ n, m = .good n → ValidCount c.periods.toNat n) : ChannelLaw c (Machine.measure c now m r) := by
  unfold Machine.measure
  split
  · exact h
  · cases m with
    | good n => exact h.goodMeasurement now (hm n rfl)
    | bad result => exact h.badMeasurement result

/-- A count that is judged good is valid (R93). -/
theorem validCount_of_judgeCount {n count k : Nat} (h : judgeCount n count = .good k) : ValidCount n k := by
  unfold judgeCount at h
  split at h
  · cases h
  · split at h
    · cases h
    · next h1 h2 =>
      cases h
      exact ⟨Nat.not_lt.1 h1, Nat.not_lt.1 h2⟩

/-- A tracked baseline stands between the old one and the last count (R98). -/
theorem trackedBaseline_between (tOn b n : Nat) :
    min b n ≤ trackedBaseline tOn b n ∧ trackedBaseline tOn b n ≤ max b n := by
  unfold trackedBaseline
  split
  · omega
  · split
    · omega
    · dsimp only
      split
      · rcases Nat.le_total b n with hle | hle
        · have h0 : 0 ≤ ((n : Int) - b).tdiv 16 := Int.tdiv_nonneg (by omega) (by omega)
          have h1 : ((n : Int) - b).tdiv 16 ≤ n - b := Int.tdiv_le_self _ (by omega)
          omega
        · have h0 : 0 ≤ ((b : Int) - n).tdiv 16 := Int.tdiv_nonneg (by omega) (by omega)
          have h1 : ((b : Int) - n).tdiv 16 ≤ b - n := Int.tdiv_le_self _ (by omega)
          have h2 : ((n : Int) - b).tdiv 16 = -((b : Int) - n).tdiv 16 := by rw [← Int.neg_tdiv, Int.neg_sub]
          omega
      · split <;> omega

/-- What lies between two valid counts is valid. -/
theorem ValidCount.between {m b n x : Nat} (hb : ValidCount m b) (hn : ValidCount m n)
    (h1 : min b n ≤ x) (h2 : x ≤ max b n) : ValidCount m x := by
  unfold ValidCount at *
  omega

/-- A tracking moment keeps the law (R98). -/
theorem ChannelLaw.track {c : LoopCfg} {r : ChannelRec} (h : ChannelLaw c r) : ChannelLaw c (Machine.track c r) := by
  unfold Machine.track
  split
  · next b n hst hb hn =>
    obtain ⟨b', n', hb', hn', hvb, hvn⟩ := h.2 (.inl hst)
    obtain rfl := Option.some.inj (hb.symm.trans hb')
    obtain rfl := Option.some.inj (hn.symm.trans hn')
    obtain ⟨h1, h2⟩ := trackedBaseline_between (onThresholdOf c) b n
    exact channelLaw_of_counts h.1 rfl hn (hvb.between hvn h1 h2) hvn
  · exact h

/-- A channel that gives up its vehicle keeps the law (R99). -/
theorem ChannelLaw.giveUp {c : LoopCfg} {r : ChannelRec} (h : ChannelLaw c r) (ho : r.state = .occupied) :
    ChannelLaw c (Machine.giveUp r) := by
  obtain ⟨_, n, _, hn, _, hv⟩ := h.2 (.inr ho)
  exact channelLaw_of_counts h.1 hn hn hv hv

/-- A channel that a reset or an apply starts keeps the law, under any record (R105, R106). -/
theorem channelLaw_of_started {c c' : LoopCfg} {r : ChannelRec} (hs : r.lastShift = none)
    (hst : r.state = if loopFn c' = .disabled then .disabled else .settling) : ChannelLaw c r := by
  refine ⟨fun x hx => ?_, fun h => ?_⟩
  · rw [hs] at hx
    cases hx
  · rw [hst] at h
    split at h <;> simp at h

/-! ### The transition table (R35, R38) -/

/-- The slot holds a live record of class PLAN or CENTRAL. -/
def holdsCard (s : State) (k : SlotId) : Bool := (slot s k).any fun r => isLive r && r.cls != .tram

theorem length_cardRecords (s : State) :
    (cardRecords s).length = (Finset.univ.filter fun k => holdsCard s k = true).card := by
  have hslot : ∀ k, (((slot s k).filter isLive).filter fun r => r.cls != .tram).isSome = holdsCard s k := by
    intro k
    unfold holdsCard
    cases slot s k with
    | none => rfl
    | some r => cases hl : isLive r <;> cases hc : (r.cls != .tram) <;> simp [Option.filter, hl, hc]
  unfold cardRecords liveRecs
  rw [List.filter_filterMap, List.length_filterMap_eq_countP, List.countP_eq_length_filter]
  simp only [hslot]
  rw [← List.toFinset_card_of_nodup ((show allSlots.Nodup from List.nodup_finRange 8).filter _)]
  congr 1
  ext k
  simp [allSlots]

/-- A table with no new card record keeps the law. -/
theorem TableLaw.of_le {s t : State} (h : TableLaw s) (hk : ∀ k, holdsCard t k = true → holdsCard s k = true) :
    TableLaw t := by
  unfold TableLaw at h ⊢
  rw [length_cardRecords] at h ⊢
  exact (Finset.card_le_card (Finset.monotone_filter_right _ fun k _ => hk k)).trans h

/-- With fewer than six card records one more has room (R37 check 6, R38). -/
theorem tableLaw_of_one_more {s t : State} (h : (cardRecords s).length < 6) (j : SlotId)
    (hk : ∀ k, holdsCard t k = true → k = j ∨ holdsCard s k = true) : TableLaw t := by
  unfold TableLaw
  rw [length_cardRecords] at h ⊢
  have hsub : (Finset.univ.filter fun k => holdsCard t k = true) ⊆
      insert j (Finset.univ.filter fun k => holdsCard s k = true) := fun k hmem => by
    simpa using hk k (by simpa using hmem)
  have := (Finset.card_le_card hsub).trans (Finset.card_insert_le _ _)
  omega

/-- The card records after a change of one record that leaves it live or not and of its class. -/
theorem holdsCard_modSlot {k : SlotId} {f : TransRec → TransRec} {s : State}
    (hf : ∀ r, slot s k = some r → isLive (f r) = isLive r ∧ (f r).cls = r.cls) (j : SlotId) :
    holdsCard (modSlot k f s) j = holdsCard s j := by
  unfold holdsCard
  rw [slot_modSlot]
  split
  · next hk =>
    subst hk
    cases hr : slot s k with
    | none => rfl
    | some r => simp [hf r hr]
  · rfl

/-- The finish order after a record was written over an empty slot or another record (R35). -/
theorem finishLaw_writeRecordAt {s : State} (h : FinishLaw s) (k : SlotId) (cls : TClass) (origin : Origin)
    (te re : List GroupId) (call : Option TramCall) : FinishLaw (writeRecordAt k cls origin te re call s) := by
  obtain ⟨n, _, hstate, _, hslot⟩ := slot_writeRecordAt k cls origin te re call s
  intro j
  rw [show (writeRecordAt k cls origin te re call s).finishOrder = s.finishOrder.filter (· != k) from rfl, hslot]
  by_cases hkj : k = j
  · subst hkj
    simp [isLive, hstate]
  · simp [hkj, Ne.symm hkj, h j]

/-- The finish order after a record finished (R35). -/
theorem finishLaw_finishedTable {s : State} (h : FinishLaw s) (k : SlotId) (r : TransRec) {st : TState}
    (hst : st = .done ∨ st = .cancelled) (cause : EndCause) : FinishLaw (finishedTable k r st cause s) := by
  intro j
  rw [show (finishedTable k r st cause s).finishOrder = s.finishOrder.filter (· != k) ++ [k] from rfl,
    slot_finishedTable]
  by_cases hkj : k = j
  · subst hkj
    rcases hst with rfl | rfl <;> simp [isLive]
  · simp [hkj, Ne.symm hkj, h j]

/-! ### The tram list (R133) -/

/-- A list whose records stood in it, by number and approach, at the same entries. -/
theorem TramListLaw.of_numbers {s t : State} (h : TramListLaw s)
    (ht : ∀ k x, tram t k = some x → ∃ y, tram s k = some y ∧ y.number = x.number ∧ y.approach = x.approach) :
    TramListLaw t := by
  intro j k x y hx hy hn ha
  obtain ⟨x', hx', hxn, hxa⟩ := ht j x hx
  obtain ⟨y', hy', hyn, hya⟩ := ht k y hy
  exact h j k x' y' hx' hy' (by rw [hxn, hyn, hn]) (by rw [hxa, hya, ha])

/-- A tram that no record of the list names may join it (R133). -/
theorem TramListLaw.insert {s : State} (h : TramListLaw s) {r : TramRec} (k : EntryId)
    (hr : findTram s r.number r.approach = none) : TramListLaw { s with trams := put s.trams k (some r) } := by
  have hnew : ∀ j x, tram s j = some x → x.number = r.number → x.approach ≠ r.approach := by
    intro j x hx hn ha
    have := List.find?_eq_none.1 hr j (List.mem_finRange j)
    simp [hx, hn, ha] at this
  have htram : ∀ j, tram { s with trams := put s.trams k (some r) } j = if k = j then some r else tram s j := by
    intro j
    simp [tram]
  intro i j x y hx hy hn ha
  rw [htram] at hx hy
  split at hx <;> split at hy
  · next hi hj => exact hi.symm.trans hj
  · cases hx
    exact absurd ha.symm (hnew j y hy hn.symm)
  · cases hy
    exact absurd ha (hnew i x hx hn)
  · exact h i j x y hx hy hn ha

/-! ### The notice sets (R159) -/

/-- A notice set takes no kind, and the role stays seen. -/
structure Quieter (l m : LinkRec) : Prop where
  notices : ∀ i, look m.notices i = true → look l.notices i = true
  seen : l.seen = true → m.seen = true

theorem NoticeLaw.of_quieter {s t : State} (h : NoticeLaw s) (hl : ∀ r, Quieter (link s r) (link t r)) : NoticeLaw t :=
  fun r n hn => (hl r).seen (h r n ((hl r).notices _ hn))

/-- A kind is raised for a seen role only. -/
theorem NoticeLaw.raise {s : State} (h : NoticeLaw s) (n : Notice) (r : Role) : NoticeLaw (Machine.raise n r s) := by
  unfold Machine.raise
  split
  · next hseen =>
    intro r' n' hn
    rw [hasNotice, link_modLink] at hn
    rw [link_modLink]
    split at hn
    · next hr =>
      rw [if_pos hr]
      exact hseen
    · next hr =>
      rw [if_neg hr]
      exact h r' n' hn
  · exact h

/-! ### All of them -/

/-- The LOOPS records of an active image. -/
def loopsOf (a : Option Image) : Vector LoopCfg 16 := (a.getD defaultImage).loops

/-- The laws of the tables under an active image, its channels held to LOOPS records. -/
structure Tabled (a : Option Image) (loops : Vector LoopCfg 16) (s : State) : Prop where
  active : s.active = a
  finish : FinishLaw s
  cards : TableLaw s
  trams : TramListLaw s
  notices : NoticeLaw s
  channels : ∀ ch, ChannelLaw (look loops ch) (channel s ch)

theorem TableLaws.tabled {s : State} (h : TableLaws s) : Tabled s.active (loopsOf s.active) s :=
  ⟨rfl, h.finish, h.cards, h.trams, h.notices, h.channels⟩

theorem Tabled.laws {a : Option Image} {s : State} (h : Tabled a (loopsOf a) s) : TableLaws s := by
  obtain ⟨rfl, hfinish, hcards, htrams, hnotices, hchannels⟩ := h
  exact ⟨hfinish, hcards, htrams, hnotices, hchannels⟩

/-- What the laws read of the state. -/
def tablesOf (s : State) : Option Image × Vector (Option TransRec) 8 × List SlotId × Vector (Option TramRec) 8 ×
    Vector LinkRec 4 × Vector ChannelRec 16 :=
  (s.active, s.slots, s.finishOrder, s.trams, s.links, s.channels)

namespace Tabled

variable {a : Option Image} {L : Vector LoopCfg 16} {s t : State}

theorem of_parts (h : Tabled a L s) (ha : t.active = s.active) (hslots : t.slots = s.slots)
    (hfinish : t.finishOrder = s.finishOrder) (htrams : t.trams = s.trams) (hlinks : ∀ r, Quieter (link s r) (link t r))
    (hchannels : ∀ ch, ChannelLaw (look L ch) (channel t ch)) : Tabled a L t where
  active := ha.trans h.active
  finish k := by
    rw [hfinish, slot_congr hslots]
    exact h.finish k
  cards := h.cards.of_le fun k hk => by rwa [holdsCard, slot_congr hslots] at hk
  trams := h.trams.of_numbers fun k x hx => ⟨x, by rwa [tram_congr htrams] at hx, rfl, rfl⟩
  notices := h.notices.of_quieter hlinks
  channels := hchannels

theorem of_eq (h : Tabled a L s) (ht : tablesOf t = tablesOf s) : Tabled a L t := by
  simp only [tablesOf, Prod.mk.injEq] at ht
  obtain ⟨ha, hslots, hfinish, htrams, hlinks, hchannels⟩ := ht
  refine h.of_parts ha hslots hfinish htrams (fun r => ?_) (fun ch => ?_)
  · rw [link_congr hlinks]
    exact ⟨fun _ hi => hi, fun hs => hs⟩
  · rw [channel_congr hchannels]
    exact h.channels ch

/-! ### One table changed -/

theorem modSlot (h : Tabled a L s) (k : SlotId) {f : TransRec → TransRec}
    (hf : ∀ r, slot s k = some r → isLive (f r) = isLive r ∧ (f r).cls = r.cls) : Tabled a L (Machine.modSlot k f s) :=
  { h with
    finish := finishLaw_modSlot h.finish fun r hr => (hf r hr).1
    cards := h.cards.of_le fun j hj => by rwa [holdsCard_modSlot hf] at hj }

theorem finishedTable (h : Tabled a L s) (k : SlotId) (r : TransRec) {st : TState} (hst : st = .done ∨ st = .cancelled)
    (cause : EndCause) : Tabled a L (Machine.finishedTable k r st cause s) :=
  { h with
    finish := finishLaw_finishedTable h.finish k r hst cause
    cards := h.cards.of_le fun j hj => by
      unfold holdsCard at hj ⊢
      rw [slot_finishedTable] at hj
      split at hj
      · rcases hst with rfl | rfl <;> simp [isLive] at hj
      · exact hj }

/-- A record is written: the tram engine's, or a card's where there is room for it (R38, R39). -/
theorem writeRecordAt (h : Tabled a L s) (k : SlotId) (cls : TClass) (origin : Origin) (te re : List GroupId)
    (call : Option TramCall) (hroom : cls ≠ .tram → (cardRecords s).length < 6) :
    Tabled a L (Machine.writeRecordAt k cls origin te re call s) where
  active := h.active
  finish := finishLaw_writeRecordAt h.finish k cls origin te re call
  trams := h.trams
  notices := h.notices
  channels := h.channels
  cards := by
    have hslot : ∀ j, j ≠ k → holdsCard (Machine.writeRecordAt k cls origin te re call s) j = holdsCard s j := by
      intro j hj
      obtain ⟨n, _, _, _, hslot⟩ := slot_writeRecordAt k cls origin te re call s
      rw [holdsCard, hslot, if_neg (Ne.symm hj), holdsCard]
    by_cases hc : cls = .tram
    · refine h.cards.of_le fun j hj => ?_
      by_cases hjk : j = k
      · subst hjk
        simp [holdsCard, slot, Machine.writeRecordAt, Machine.emit, hc] at hj
      · rwa [hslot j hjk] at hj
    · refine tableLaw_of_one_more (hroom hc) k fun j hj => ?_
      by_cases hjk : j = k
      · exact .inl hjk
      · exact .inr (by rwa [hslot j hjk] at hj)

theorem modTram (h : Tabled a L s) (k : EntryId) {f : TramRec → TramRec}
    (hf : ∀ r, (f r).number = r.number ∧ (f r).approach = r.approach) : Tabled a L (Machine.modTram k f s) :=
  { h with
    trams := h.trams.of_numbers fun j x hx => by
      rw [tram_modTram] at hx
      split at hx
      · next hk =>
        obtain ⟨y, hy, rfl⟩ := Option.map_eq_some_iff.1 hx
        exact ⟨y, hk ▸ hy, (hf y).1.symm, (hf y).2.symm⟩
      · exact ⟨x, hx, rfl, rfl⟩ }

theorem gone (h : Tabled a L s) (k : EntryId) : Tabled a L { s with trams := put s.trams k none } :=
  { h with
    trams := h.trams.of_numbers fun j x hx => by
      simp only [tram, look_put] at hx
      split at hx
      · cases hx
      · exact ⟨x, hx, rfl, rfl⟩ }

theorem raise (h : Tabled a L s) (n : Notice) (r : Role) : Tabled a L (Machine.raise n r s) := by
  have hn := h.notices.raise n r
  rw [raise_frame] at hn ⊢
  exact ⟨h.active, h.finish, h.cards, h.trams, hn, h.channels⟩

theorem raiseFor (h : Tabled a L s) (n : Notice) (rs : List Role) : Tabled a L (Machine.raiseFor n rs s) :=
  forEach_keeps (Tabled a L) rs _ (fun r _ _ ht => ht.raise n r) s h

theorem modLink (h : Tabled a L s) (r : Role) {f : LinkRec → LinkRec} (hf : ∀ l, Quieter l (f l)) :
    Tabled a L (Machine.modLink r f s) :=
  { h with
    notices := h.notices.of_quieter fun r' => by
      rw [link_modLink]
      split
      · next hr => exact hr ▸ hf _
      · exact ⟨fun _ hi => hi, fun hs => hs⟩ }

theorem modChannel (h : Tabled a L s) (ch : ChannelId) {f : ChannelRec → ChannelRec}
    (hf : ChannelLaw (look L ch) (f (channel s ch))) : Tabled a L (Machine.modChannel ch f s) :=
  { h with
    channels := fun j => by
      rw [channel_modChannel]
      split
      · next hj => exact hj ▸ hf
      · exact h.channels j }

/-- The release arbiter keeps the laws. -/
theorem arbiter : ArbiterKeeps (Tabled a L) where
  work _ _ _ h := h.of_eq rfl
  order _ _ h := h.of_eq rfl
  raise n r _ h := h.raise n r
  group _ _ _ _ h := h.of_eq rfl
  lamps _ _ _ h := h.of_eq rfl
  outcome k _ _ _ h := h.modSlot k fun _ _ => ⟨rfl, rfl⟩
  start k _ hq h := h.modSlot k fun r hr => ⟨by simp [isLive, activated, hq r hr], rfl⟩
  lost k _ _ _ h := h.modSlot k fun _ _ => ⟨rfl, rfl⟩
  finish k r _ cause _ hst _ h := h.finishedTable k r hst cause

end Tabled

end Sys2Proof.Machine
end

section
/-! SUPPORT. The laws of the tables through the tram priority engine, the detectors, the junction mode controller and an
apply. -/

namespace Sys2Proof.Machine

open Sys2Proof

namespace Tabled

variable {a : Option Image} {L : Vector LoopCfg 16} {s t : State}

/-! ### Signal group table and release arbiter -/

theorem modGroup (h : Tabled a L s) (g : GroupId) (f : GroupRec → GroupRec) : Tabled a L (Machine.modGroup g f s) :=
  h.of_eq rfl

theorem modLamps (h : Tabled a L s) (g : GroupId) (f : Lamps → Lamps) : Tabled a L (Machine.modLamps g f s) :=
  h.of_eq rfl

theorem modStats (h : Tabled a L s) (x : ApproachId) (f : TramStats → TramStats) :
    Tabled a L (Machine.modStats x f s) := h.of_eq rfl

theorem modBeacon (h : Tabled a L s) (f : BeaconRec → BeaconRec) : Tabled a L (Machine.modBeacon f s) := h.of_eq rfl

theorem setEngine (h : Tabled a L s) (e : EngineId) (k : Option (Fin 4)) : Tabled a L (Machine.setEngine e k s) :=
  h.of_eq rfl

theorem emit (h : Tabled a L s) (x : Handoff) : Tabled a L (Machine.emit x s) := h.of_eq rfl

theorem emitAll (h : Tabled a L s) (xs : List Handoff) : Tabled a L (Machine.emitAll xs s) := h.of_eq rfl

theorem handOn (h : Tabled a L s) (f : Neighbour → Option Handoff) : Tabled a L (Machine.handOn f s) := h.of_eq rfl

theorem raiseAll (h : Tabled a L s) (n : Notice) : Tabled a L (Machine.raiseAll n s) := h.raiseFor n allRoles

theorem setHoldUntil (h : Tabled a L s) (g : GroupId) (x : Option Time) :
    Tabled a L (Machine.setHoldUntil g x s) := by
  unfold Machine.setHoldUntil
  split
  · exact arbiter.takeTerminate g (h.modGroup g _)
  · exact h

theorem dropItem (h : Tabled a L s) (k : SlotId) (g : GroupId) :
    Tabled a L (Machine.modSlot k (Machine.dropItem g) s) := h.modSlot k fun _ _ => ⟨rfl, rfl⟩

theorem dropRelease (h : Tabled a L s) (k : SlotId) (g : GroupId) : Tabled a L (Machine.dropRelease k g s) :=
  arbiter.dropRelease k g (h.dropItem k g) h

theorem takeLostMarking (h : Tabled a L s) (i : GroupId) : Tabled a L (Machine.takeLostMarking i s) := by
  refine forEach_keeps (Tabled a L) _ _ (fun j _ t ht => ?_) s h
  split
  · exact ht
  · split
    · exact ht
    · split
      · exact ht.dropRelease _ j
      · exact ht

theorem cancelAll (h : Tabled a L s) (cause : EndCause) : Tabled a L (Machine.cancelAll cause s) :=
  forEach_keeps (Tabled a L) _ _ (fun k _ _ ht => arbiter.cancelRecord cause k ht) s h

theorem cancelTramCall (h : Tabled a L s) (id : TransId) : Tabled a L (Machine.cancelTramCall id s) := by
  unfold Machine.cancelTramCall
  split
  · exact h
  · exact arbiter.cancelRecord .tramEngine _ h

theorem updateTramCall (h : Tabled a L s) (id : TransId) (call : TramCall) :
    Tabled a L (Machine.updateTramCall id call s) := by
  unfold Machine.updateTramCall
  split
  · exact h
  · refine emit (h.modSlot _ ?_) _
    exact fun _ _ => ⟨rfl, rfl⟩

/-! ### The re-test after an apply (R24) -/

theorem retestUnused (h : Tabled a L s) (k : SlotId) : Tabled a L (Machine.retestUnused k s) := by
  unfold Machine.retestUnused
  split
  · exact h
  · next r _ =>
    split
    · have h1 : Tabled a L (forEach (allGroups.filter fun g => named r g && !used s g)
          (fun g s => withdrawClaim r.id g (Machine.modSlot k (Machine.dropItem g) s)) s) :=
        forEach_keeps (Tabled a L) _ _ (fun g _ _ ht => arbiter.withdrawClaim r.id g (ht.dropItem k g)) s h
      exact iteInduction (motive := Tabled a L) (fun _ => arbiter.cancelRecord .config k h1)
        (fun _ => arbiter.completeIfDone k h1)
    · exact h

theorem retestConflicts (h : Tabled a L s) (k : SlotId) : Tabled a L (Machine.retestConflicts k s) := by
  unfold Machine.retestConflicts
  split
  · exact h
  · split
    · exact arbiter.cancelRecord .config k h
    · exact h

theorem retestActivePass (ks : List SlotId) : ∀ (before : List SlotId) (s : State), Tabled a L s →
    Tabled a L (Machine.retestActivePass ks before s) := by
  induction ks with
  | nil => exact fun _ _ h => h
  | cons k rest ih =>
    intro before s h
    refine ih _ _ ?_
    unfold Machine.retestActive
    split
    · exact h
    · split
      · exact arbiter.cancelRecord .config k h
      · exact h

theorem retestAll (h : Tabled a L s) : Tabled a L (Machine.retestAll s) := by
  refine emit (retestActivePass _ _ _ ?_) _
  refine forEach_keeps (Tabled a L) _ _ (fun k _ _ ht => ht.retestConflicts k) _ ?_
  exact forEach_keeps (Tabled a L) _ _ (fun k _ _ ht => ht.retestUnused k) s h

/-! ### Tram priority engine -/

theorem recomputeHold (h : Tabled a L s) (g : GroupId) : Tabled a L (Machine.recomputeHold g s) := h.setHoldUntil g _

theorem takeHold (h : Tabled a L s) (k : EntryId) (r : TramRec) (x : Time) (capped : Bool) :
    Tabled a L (Machine.takeHold k r x capped s) := by
  unfold Machine.takeHold
  generalize (if after x s.now = true then TramState.holding else TramState.overdue) = st
  have h1 : Tabled a L (Machine.modTram k
      (fun r => { r with holdEnd := some x, capped := capped, state := st, awaitsSlot := false }) s) :=
    h.modTram k fun _ => ⟨rfl, rfl⟩
  exact iteInduction (motive := Tabled a L) (fun _ => h1.modStats _ _) (fun _ => h1)

theorem computeHold (h : Tabled a L s) (k : EntryId) (r : TramRec) : Tabled a L (Machine.computeHold k r s) := by
  unfold Machine.computeHold
  dsimp only
  split
  · exact (h.takeHold k r _ _).modStats _ _
  · exact h.takeHold k r _ _

theorem postCall (h : Tabled a L s) (k : EntryId) (r : TramRec) : Tabled a L (Machine.postCall k r s) := by
  unfold Machine.postCall
  split
  · exact h.modTram k fun _ => ⟨rfl, rfl⟩
  · refine modStats (modTram (h.writeRecordAt _ _ _ _ _ _ fun hne => absurd rfl hne) k ?_) _ _
    exact fun _ => ⟨rfl, rfl⟩

theorem cancelCall (h : Tabled a L s) (k : EntryId) (r : TramRec) : Tabled a L (Machine.cancelCall k r s) := by
  unfold Machine.cancelCall
  split
  · exact h
  · exact (h.cancelTramCall _).modTram k fun _ => ⟨rfl, rfl⟩

theorem setTramState (h : Tabled a L s) (k : EntryId) (st : TramState) : Tabled a L (Machine.setTramState k st s) :=
  h.modTram k fun _ => ⟨rfl, rfl⟩

theorem evaluate (h : Tabled a L s) (k : EntryId) (anew : Bool) : Tabled a L (Machine.evaluate k anew s) := by
  unfold Machine.evaluate
  split
  · exact h
  · next r _ =>
    refine recomputeHold ?_ _
    split
    · exact (h.cancelCall k r).setTramState k _
    · split
      · split
        · exact h.takeHold k r _ _
        · exact h.takeHold k r _ _
        · exact h.computeHold k r
      · split
        · exact h.setTramState k _
        · split
          · exact h.setTramState k _
          · split
            · exact (h.setTramState k _).postCall k r
            · exact h.setTramState k _

theorem takeSlotFree (h : Tabled a L s) : Tabled a L (Machine.takeSlotFree s) := by
  unfold Machine.takeSlotFree
  split
  · exact h
  · split
    · exact h.postCall _ _
    · exact h

theorem dropAtGreen (h : Tabled a L s) (g : GroupId) (k : EntryId) : Tabled a L (Machine.dropAtGreen g k s) := by
  unfold Machine.dropAtGreen
  split
  · exact h
  · split
    · split
      · exact h
      · refine modTram ?_ k fun _ => ⟨rfl, rfl⟩
        split
        · exact h.cancelTramCall _
        · exact h
    · exact h

theorem dropHold (h : Tabled a L s) (g : GroupId) (k : EntryId) : Tabled a L (Machine.dropHold g k s) := by
  unfold Machine.dropHold
  split
  · exact h
  · split
    · exact h.modTram k fun _ => ⟨rfl, rfl⟩
    · exact h

theorem tramEntry (h : Tabled a L s) (g : GroupId) (st : GState) : Tabled a L (Machine.tramEntry g st s) := by
  unfold Machine.tramEntry
  split
  · exact (forEach_keeps (Tabled a L) _ _ (fun k _ _ ht => ht.dropAtGreen g k) s h).emitAll _
  · exact (forEach_keeps (Tabled a L) _ _ (fun k _ _ ht => ht.dropHold g k) s h).emitAll _
  · exact h

theorem tramCancelled (h : Tabled a L s) (id : TransId) : Tabled a L (Machine.tramCancelled id s) := by
  unfold Machine.tramCancelled
  split
  · exact h
  · refine evaluate (h.modTram _ ?_) _ _
    exact fun _ => ⟨rfl, rfl⟩

theorem changeGroup (h : Tabled a L s) (k : EntryId) (r : TramRec) (g : GroupId) :
    Tabled a L (Machine.changeGroup k r g s) := by
  refine recomputeHold ((h.cancelCall k r).modTram k ?_) _
  exact fun _ => ⟨rfl, rfl⟩

theorem updateTram (h : Tabled a L s) (k : EntryId) (r : TramRec) (c : CheckIn) (g : GroupId) :
    Tabled a L (Machine.updateTram k r c g s) := by
  unfold Machine.updateTram
  have h1 : Tabled a L (Machine.modTram k (fun q =>
      { q with
        line := c.line, route := c.route, source := c.source, checkInAt := s.now,
        lateness := c.lateness, level := tramLevel (cfg s) c.line c.lateness,
        arrival := predictedArrival s c.distance c.speed }) s) := h.modTram k fun _ => ⟨rfl, rfl⟩
  dsimp only
  split
  · refine evaluate ?_ k false
    split
    · refine recomputeHold (computeHold ?_ k _) g
      split
      · exact h1.updateTramCall _ _
      · exact h1
    · split
      · exact h1.updateTramCall _ _
      · exact h1
  · exact (h1.changeGroup k _ g).evaluate k false

theorem takeCheckIn (h : Tabled a L s) (c : CheckIn) : Tabled a L (Machine.takeCheckIn c s).1 := by
  unfold Machine.takeCheckIn
  split
  · exact h
  · split
    · split
      · exact h.updateTram _ _ c _
      · exact h
    · next g _ _ hfind =>
      split
      · next k _ =>
        have h1 : Tabled a L { s with trams := put s.trams k (some (newTram s c g)) } :=
          ⟨h.active, h.finish, h.cards, h.trams.insert k hfind, h.notices, h.channels⟩
        exact h1.evaluate k false
      · exact h

theorem removeTram (h : Tabled a L s) (k : EntryId) (r : TramRec) : Tabled a L (Machine.removeTram k r s) := by
  have h1 := (h.cancelCall k r).gone k
  unfold Machine.removeTram
  exact iteInduction (motive := Tabled a L) (fun _ => h1.recomputeHold _) (fun _ => h1)

theorem checkOut (h : Tabled a L s) (k : EntryId) (r : TramRec) : Tabled a L (Machine.checkOut k r s) :=
  (h.modStats _ _).removeTram k r

theorem loseTram (h : Tabled a L s) (k : EntryId) (r : TramRec) : Tabled a L (Machine.loseTram k r s) :=
  ((h.modStats _ _).removeTram k r).raiseFor _ _

theorem countUnmatched (h : Tabled a L s) : Tabled a L (Machine.countUnmatched s) := h.of_eq rfl

theorem loopCheckOut (h : Tabled a L s) (x : ApproachId) : Tabled a L (Machine.loopCheckOut x s) := by
  unfold Machine.loopCheckOut
  split
  · exact h.countUnmatched
  · split
    · exact h.checkOut _ _
    · exact h

theorem applyTram (h : Tabled a L s) (old : Image) (k : EntryId) : Tabled a L (Machine.applyTram old k s) := by
  unfold Machine.applyTram
  split
  · exact h
  · next r _ =>
    split
    · exact h.removeTram k r
    · next g _ =>
      have h1 : Tabled a L (Machine.modTram k (fun q => { q with level := tramLevel (cfg s) r.line r.lateness }) s) :=
        h.modTram k fun _ => ⟨rfl, rfl⟩
      exact iteInduction (motive := Tabled a L) (fun _ => h.loseTram k r)
        (fun _ => iteInduction (motive := Tabled a L) (fun _ => h1) (fun _ => h1.changeGroup k _ g))

theorem applyTrams (h : Tabled a L s) (old : Image) : Tabled a L (Machine.applyTrams old s) :=
  (forEach_keeps (Tabled a L) _ _ (fun k _ _ ht => ht.applyTram old k) s h).emit _

/-! ### Demand logic and detectors -/

theorem updateGap (h : Tabled a L s) (g : GroupId) : Tabled a L (Machine.updateGap g s) := by
  unfold Machine.updateGap
  split
  · split
    · exact h.modGroup g _
    · split
      · exact h.modGroup g _
      · exact h
  · exact h

theorem updateGapOf (h : Tabled a L s) (fed : Option GroupId) : Tabled a L (Machine.updateGapOf fed s) := by
  unfold Machine.updateGapOf
  split
  · exact h.updateGap _
  · exact h

theorem occupy (h : Tabled a L s) (src : DemandSource) (g : GroupId) : Tabled a L (Machine.occupy src g s) :=
  iteInduction (motive := Tabled a L) (fun _ => h.modGroup g _) (fun _ => h)

theorem takeFaultEntry (h : Tabled a L s) (ch : ChannelId) (g : GroupId) :
    Tabled a L (Machine.takeFaultEntry ch g s) :=
  iteInduction (motive := Tabled a L) (fun _ => h.modGroup g _) (fun _ => h)

theorem handOccupancy (h : Tabled a L s) (c : LoopCfg) (ch : ChannelId) (old new : ChState) :
    Tabled a L (Machine.handOccupancy c ch old new s) := by
  unfold Machine.handOccupancy
  split
  · next g hg =>
    have h1 : Tabled a L _ := iteInduction (c := new = .occupied ∧ old ≠ .occupied) (motive := Tabled a L)
      (fun _ => h.occupy (.loop ch) g) (fun _ => h)
    have h2 : Tabled a L _ := iteInduction (c := new = .fault ∧ old ≠ .fault) (motive := Tabled a L)
      (fun _ => h1.takeFaultEntry ch g) (fun _ => h1)
    exact iteInduction (motive := Tabled a L) (fun _ => h2.modGroup g _) (fun _ => h2)
  · split
    · exact h.loopCheckOut _
    · exact h
  · exact h

theorem handChannel (h : Tabled a L s) (c : LoopCfg) (ch : ChannelId) (old new : ChState) :
    Tabled a L (Machine.handChannel c ch old new s) := (h.handOccupancy c ch old new).updateGapOf _

theorem raiseDetector (h : Tabled a L s) : Tabled a L (Machine.raiseDetector s) := by
  unfold Machine.raiseDetector
  exact h.raiseFor _ _

theorem afterChannel (h : Tabled a L s) (ch : ChannelId) (old : ChState) :
    Tabled a L (Machine.afterChannel ch old s) := by
  have h1 : Tabled a L _ := iteInduction (c := ((channel s ch).state = .fault) ≠ (old = .fault))
    (motive := Tabled a L) (fun _ => h.raiseDetector) (fun _ => h)
  unfold Machine.afterChannel
  exact iteInduction (motive := Tabled a L) (fun _ => h1) (fun _ => h1.handChannel _ ch old _)

/-- The record that configures a channel under the active image. -/
theorem loopCfg_eq (h : Tabled a (loopsOf a) s) (ch : ChannelId) : loopCfg s ch = look (loopsOf a) ch := by
  rw [← h.active]
  rfl

/-- A measurement whose good counts are valid (R93). -/
theorem completeMeasurement (h : Tabled a (loopsOf a) s) (e : EngineId) {m : LoopCfg → Measured}
    (hm : ∀ c n, m c = .good n → ValidCount c.periods.toNat n) :
    Tabled a (loopsOf a) (Machine.completeMeasurement e m s) := by
  unfold Machine.completeMeasurement
  split
  · exact h
  · next k _ =>
    have h1 : Tabled a (loopsOf a) (Machine.modChannel (engineChannel e k)
        (measure (loopCfg s (engineChannel e k)) s.now (m (loopCfg s (engineChannel e k)))) s) := by
      refine h.modChannel _ ?_
      rw [h.loopCfg_eq]
      exact (h.channels _).measure _ (hm _)
    exact (h1.setEngine e _).afterChannel _ _

theorem expirePresence (h : Tabled a L s) (ch : ChannelId) (ho : (channel s ch).state = .occupied) :
    Tabled a L (Machine.expirePresence ch s) :=
  (h.modChannel ch ((h.channels ch).giveUp ho)).raiseDetector.handChannel _ ch _ _

theorem trackAll (h : Tabled a (loopsOf a) s) : Tabled a (loopsOf a) (Machine.trackAll s) := by
  refine forEach_keeps (Tabled a (loopsOf a)) _ _ (fun ch _ u hu => hu.modChannel ch ?_) _ (h.of_eq rfl)
  rw [hu.loopCfg_eq]
  exact (hu.channels ch).track

theorem changeDebounced (h : Tabled a L s) (i : InputId) : Tabled a L (Machine.changeDebounced i s) := by
  have h1 : Tabled a L (modInput i changeInput s) := h.of_eq rfl
  unfold Machine.changeDebounced
  dsimp only
  split
  · exact h1.updateGapOf _
  · unfold handActivation
    split
    · exact (h1.occupy _ _).updateGap _
    · exact h1.loopCheckOut _
    · exact h1

/-! ### Beacon receiver -/

theorem handMessage (h : Tabled a L s) (x : ApproachId) (m : Message) : Tabled a L (Machine.handMessage x m s) := by
  cases m with
  | checkIn c =>
    have h1 := h.takeCheckIn c
    show Tabled a L (beaconCheckIn c s)
    unfold beaconCheckIn
    split
    · next hc => rw [hc] at h1; exact h1
    · next hc => rw [hc] at h1; exact h1.of_eq rfl
    · next u hc =>
      rw [hc] at h1
      have h2 : Tabled a L
          { u with tramDrops := { u.tramDrops with listFull := satInc u.tramDrops.listFull } } := h1.of_eq rfl
      exact h2.raiseFor _ _
  | checkOut number =>
    show Tabled a L (beaconCheckOut number x s)
    unfold beaconCheckOut
    split
    · exact h.countUnmatched
    · split
      · exact h.checkOut _ _
      · exact h
  | cancel number =>
    show Tabled a L (beaconCancel number x s)
    unfold beaconCancel
    split
    · exact h.countUnmatched
    · split
      · exact h.removeTram _ _
      · exact h
  | status => exact h

theorem takeCompleted (h : Tabled a L s) (b : Byte) : Tabled a L (Machine.takeCompleted b s) := by
  have h1 : ∀ f, Tabled a L { s with beacon := f } := fun _ => h.of_eq rfl
  unfold Machine.takeCompleted
  dsimp only
  split
  · unfold Machine.takeTelegram
    split
    · split
      · exact ((h1 _).modBeacon _).handMessage _ _
      · exact (h1 _).modBeacon _
    · exact (h1 _).modBeacon _
  · exact h1 _

/-! ### Junction mode controller -/

theorem refreshAllLamps (h : Tabled a L s) : Tabled a L (Machine.refreshAllLamps s) :=
  forEach_keeps (Tabled a L) _ _ (fun g _ _ ht => arbiter.refreshLamps g ht) s h

theorem enterMode (h : Tabled a L s) (m : Mode) : Tabled a L (Machine.enterMode m s) := by
  have h1 : Tabled a L { s with mode := m, modeEnteredAt := s.now } := h.of_eq rfl
  unfold Machine.enterMode
  exact (h1.raiseAll .mode).refreshAllLamps

theorem enterStart (h : Tabled a L s) : Tabled a L (Machine.enterStart s) := by
  have h1 : Tabled a L { s with startPhase := some (.flashPhase, s.now) } := h.of_eq rfl
  unfold Machine.enterStart
  exact (h1.enterMode .start).emit _

/-- A pass that changes each used group and lets it enter a state. -/
theorem forceAll (h : Tabled a L s) (f : GroupRec → GroupRec) (st : GState) :
    Tabled a L (forEach allGroups
      (fun g s => if used s g then enterState g st (Machine.modGroup g f s) else s) s) :=
  forEach_keeps (Tabled a L) _ _ (fun g _ _ ht =>
    iteInduction (motive := Tabled a L) (fun _ => arbiter.enterState g st (ht.modGroup g f)) (fun _ => ht)) s h

theorem forceAllDark (h : Tabled a L s) : Tabled a L (Machine.forceAllDark s) := h.forceAll _ _

theorem enterResting (h : Tabled a L s) (m : Mode) : Tabled a L (Machine.enterResting m s) := by
  have h1 : Tabled a L { s with startPhase := none, clearTarget := none } := h.of_eq rfl
  unfold Machine.enterResting
  exact (h1.enterMode m).forceAllDark.emit _

theorem enterClearing (h : Tabled a L s) (target : ClearTarget) : Tabled a L (Machine.enterClearing target s) := by
  have h1 : Tabled a L { s with clearTarget := some target, supervision := none } := h.of_eq rfl
  unfold Machine.enterClearing
  refine handOn (forEach_keeps (Tabled a L) _ _ (fun g _ t ht => ?_) _ ((h1.enterMode .clearing).cancelAll .mode)) _
  exact iteInduction (motive := Tabled a L) (fun _ => arbiter.takeTerminate g (ht.modGroup g _)) (fun _ => ht)

theorem examineClearing (h : Tabled a L s) : Tabled a L (Machine.examineClearing s) :=
  iteInduction (motive := Tabled a L) (fun _ => h.enterResting _) (fun _ => h)

theorem examineLost (h : Tabled a L s) : Tabled a L (Machine.examineLost s) :=
  iteInduction (motive := Tabled a L) (fun _ => h.enterClearing .flash) (fun _ => h)

theorem enterNormal (h : Tabled a L s) : Tabled a L (Machine.enterNormal s) := by
  have h1 : Tabled a L { s with startPhase := none, supervision := some s.now } := h.of_eq rfl
  unfold Machine.enterNormal
  exact ((h1.enterMode .normal).forceAll _ _).handOn _

theorem enterRedPhase (h : Tabled a L s) : Tabled a L (Machine.enterRedPhase s) := by
  have h1 : Tabled a L { s with startPhase := some (.redPhase, s.now) } := h.of_eq rfl
  unfold Machine.enterRedPhase
  exact (h1.forceAll _ _).refreshAllLamps

theorem enterLockout (h : Tabled a L s) (g : GroupId) (which : Circuit) :
    Tabled a L (Machine.enterLockout g which s) := by
  unfold Machine.enterLockout
  split
  · exact h
  · have h1 : Tabled a L
        { s with
          mode := .lockout, modeEnteredAt := s.now,
          lockoutCause := some { group := g, circuit := which, time := s.now },
          startPhase := none, clearTarget := none, supervision := none } := h.of_eq rfl
    exact ((((h1.cancelAll .mode).forceAllDark.raiseAll .fault).raiseAll .mode).refreshAllLamps).handOn _

/-! ### Configuration apply (R105, R168, R169) -/

/-- The new image is in force; the channels still stand as the old one left them. -/
theorem withImage (h : Tabled a L s) (img : Image) : Tabled (some img) L { s with active := some img, commit := .storing } :=
  { h with active := rfl }

theorem applyGroups (h : Tabled a L s) (old : Image) : Tabled a L (forEach allGroups (applyGroup old) s) := by
  rw [applyGroups_frame]
  exact h.of_eq rfl

theorem applyLampsAll (h : Tabled a L s) : Tabled a L (Machine.applyLampsAll s) :=
  (forEach_keeps (Tabled a L) _ _ (fun g _ _ ht => ht.modLamps g _) s h).refreshAllLamps

theorem applyEngine (h : Tabled a L s) (old : Image) (e : EngineId) : Tabled a L (Machine.applyEngine old e s) := by
  unfold Machine.applyEngine
  split
  · exact h.of_eq rfl
  · split
    · exact h.of_eq rfl
    · exact h

/-- Once the channels whose record has changed have restarted, all stand under the new records (R105). -/
theorem restartChannels {img old : Image} (h : Tabled (some img) old.loops s) :
    Tabled (some img) img.loops
      (forEach (allChannels.filter (loopChanged old img))
        (fun ch s => Machine.modChannel ch (restartChannel (loopCfg s ch)) s) s) := by
  have hall : ∀ l : List ChannelId, ∀ u : State, Tabled (some img) old.loops u →
      (∀ ch, ch ∉ l → loopChanged old img ch = true → ∀ c, ChannelLaw c (channel u ch)) →
      Tabled (some img) old.loops
          (forEach l (fun ch s => Machine.modChannel ch (restartChannel (loopCfg s ch)) s) u) ∧
        ∀ ch, loopChanged old img ch = true → ∀ c, ChannelLaw c
          (channel (forEach l (fun ch s => Machine.modChannel ch (restartChannel (loopCfg s ch)) s) u) ch) := by
    intro l
    induction l with
    | nil => exact fun u hu hdone => ⟨hu, fun ch => hdone ch (List.not_mem_nil)⟩
    | cons x rest ih =>
      intro u hu hdone
      have hx : ∀ c, ChannelLaw c (restartChannel (loopCfg u x) (channel u x)) :=
        fun c => channelLaw_of_started (c' := loopCfg u x) rfl rfl
      refine ih _ (hu.modChannel x (hx _)) fun ch hch hchanged c => ?_
      rw [channel_modChannel]
      split
      · next hxc => exact hxc ▸ hx c
      · next hxc => exact hdone ch (by simp [Ne.symm hxc, hch]) hchanged c
  obtain ⟨h1, h2⟩ := hall (allChannels.filter (loopChanged old img)) s h fun ch hch hchanged =>
    absurd (List.mem_filter.2 ⟨List.mem_finRange ch, hchanged⟩) hch
  refine { h1 with channels := fun ch => ?_ }
  cases hc : loopChanged old img ch with
  | true => exact h2 ch hc _
  | false =>
    have hsame : look old.loops ch = look img.loops ch := by simpa [loopChanged] using hc
    exact hsame ▸ h1.channels ch

theorem applyLoops {img old : Image} (h : Tabled (some img) old.loops s) :
    Tabled (some img) img.loops (Machine.applyLoops old s) := by
  have himg : cfg s = img := by
    rw [cfg, h.active]
    rfl
  unfold Machine.applyLoops
  rw [himg]
  refine forEach_keeps (Tabled (some img) img.loops) _ _ (fun e _ _ hu => hu.applyEngine old e) _ ?_
  exact forEach_keeps (Tabled (some img) img.loops) _ _ (fun ch _ _ hu => hu.handOccupancy _ ch _ _) _ h.restartChannels

theorem applyInputs (h : Tabled a L s) (old : Image) : Tabled a L (Machine.applyInputs old s) := by
  refine forEach_keeps (Tabled a L) _ _ (fun i _ u hu => ?_) s h
  exact hu.of_eq rfl

theorem applyGaps (h : Tabled a L s) : Tabled a L (Machine.applyGaps s) :=
  forEach_keeps (Tabled a L) _ _ (fun g _ _ hu => hu.updateGap g) s h

theorem applyBeacon (h : Tabled a L s) (old : Image) : Tabled a L (Machine.applyBeacon old s) :=
  iteInduction (motive := Tabled a L) (fun _ => h) (fun _ => h.modBeacon _)

end Tabled

namespace TableLaws

variable {s t : State}

theorem of_eq (h : TableLaws s) (ht : tablesOf t = tablesOf s) : TableLaws t := by
  have hactive : t.active = s.active := congrArg Prod.fst ht
  have h1 := h.tabled.of_eq ht
  rw [← hactive] at h1
  exact h1.laws

theorem applyImage (h : TableLaws s) : TableLaws (Machine.applyImage s) := by
  have h1 := ((h.tabled.withImage s.staging).applyGroups (cfg s)).applyLampsAll.retestAll
  have h2 : Tabled (some s.staging) (loopsOf (some s.staging)) _ := (Tabled.applyLoops (old := cfg s) h1).applyInputs (cfg s)
  exact (((h2.applyGaps.applyBeacon (cfg s)).applyTrams (cfg s)).emit .clearingExamine).laws

/-- Every block takes its hand-offs by the laws. -/
theorem handle (h : TableLaws s) (x : Handoff) : TableLaws (Machine.handle x s) := by
  have ht := h.tabled
  cases x with
  | arbiterEntry g st => exact (Tabled.arbiter.arbiterEntry g st ht).laws
  | tramEntry g st => exact (ht.tramEntry g st).laws
  | configExamine => exact iteInduction (motive := TableLaws) (fun _ => h.applyImage) (fun _ => h)
  | clearingExamine => exact ht.examineClearing.laws
  | clearDemand g => exact (Tabled.arbiter.takeClearEntry g ht).laws
  | arbiterExamine => exact (Tabled.arbiter.examineArbiter ht).laws
  | scheduleExamine => exact (Tabled.arbiter.examineSchedule ht).laws
  | arbiterLost g => exact (ht.takeLostMarking g).laws
  | lostExamine => exact ht.examineLost.laws
  | slotFree => exact ht.takeSlotFree.laws
  | tramCancelled id => exact (ht.tramCancelled id).laws
  | tramEvaluate k anew => exact (ht.evaluate k anew).laws
  | tramEvaluateAll => exact (ht.emitAll _).laws
  | tramEvaluateGroup g => exact (ht.emitAll _).laws

theorem settled (h : TableLaws s) : TableLaws (Machine.settled s) :=
  settled_keeps TableLaws (fun _ _ h => h.of_eq rfl) (fun x _ h => h.handle x) s h

end TableLaws

end Sys2Proof.Machine
end

section
/-! PROOF. Every step keeps the laws of the transition table, the tram list, the notice sets and the loop channels (R35,
R38, R98, R133, R159): the requests, the resets, and then each command. -/

namespace Sys2Proof.Machine

open Sys2Proof

namespace Tabled

variable {a : Option Image} {L : Vector LoopCfg 16} {s t : State}

/-! ### The link (R154, R155, R159) -/

/-- The counts are no part of a notice set. -/
theorem quieter_of_counts (l : LinkRec) (c : LinkCounts) : Quieter l { l with counts := c } :=
  ⟨fun _ hi => hi, fun hs => hs⟩

theorem countError (h : Tabled a L s) (r : Role) (f : LinkCounts → LinkCounts) :
    Tabled a L (Machine.countError r f s) := h.modLink r fun l => quieter_of_counts l _

theorem setSlot (h : Tabled a L s) (r : Role) (x : ReplySlot) :
    Tabled a L (Machine.modLink r (fun l => { l with slot := x }) s) :=
  h.modLink r fun _ => ⟨fun _ hi => hi, fun hs => hs⟩

theorem setSeen (h : Tabled a L s) (r : Role) : Tabled a L (Machine.setSeen r s) :=
  h.modLink r fun _ => ⟨fun _ hi => hi, fun _ => rfl⟩

theorem dropNotice (h : Tabled a L s) (n : Notice) (r : Role) : Tabled a L (Machine.dropNotice n r s) := by
  refine h.modLink r fun l => ⟨fun i hi => ?_, fun hs => hs⟩
  rw [look_put] at hi
  split at hi
  · cases hi
  · exact hi

theorem discardReply (h : Tabled a L s) (r : Role) : Tabled a L (Machine.discardReply r s) := by
  unfold Machine.discardReply
  split
  · refine setSlot ?_ r _
    split
    · exact h.dropNotice _ _
    · exact h
  · exact h

theorem answer (h : Tabled a L s) (r : Role) (reply : Reply) : Tabled a L (Machine.answer r reply s) := by
  refine setSlot (discardReply ?_ r) r _
  unfold countUnread
  split
  · exact h.countError _ _
  · exact h

theorem completePending (h : Tabled a L s) (r : Role) (reply : Reply) :
    Tabled a L (Machine.completePending r reply s) := (h.setSlot r _).raise _ _

theorem readReply (h : Tabled a L s) (role : Role) (n : Nat) : Tabled a L (Machine.readReply role n s) := by
  have h1 : ∀ bs, Tabled a L { s with replyLine := bs } := fun _ => h.of_eq rfl
  unfold Machine.readReply
  dsimp only
  split
  · refine iteInduction (motive := Tabled a L) (fun _ => ?_) (fun _ => h1 _)
    exact iteInduction (motive := Tabled a L) (fun _ => ((h1 _).setSlot role _).dropNotice _ _)
      (fun _ => (h1 _).setSlot role _)
  · exact h1 _

theorem dropFrame (h : Tabled a L s) (bytes : List Byte) : Tabled a L (Machine.dropFrame bytes s) := by
  unfold Machine.dropFrame countFormat
  split
  · exact h
  · split
    · exact h
    · split
      · exact h
      · exact h.countError _ _
      · exact h.countError _ _
      · exact (h.setSeen _).countError _ _

theorem timedOutSeen (h : Tabled a L s) (frame : TimedFrame) (r : Role) :
    Tabled a L (Machine.timedOutSeen frame r s) := by
  unfold Machine.timedOutSeen
  split
  · exact h.setSeen r
  · exact h
  · exact h

/-! ### Requests -/

/-- A request whose owner keeps the laws (R152, R154, R157). -/
theorem takeRequest (h : Tabled a (loopsOf a) s) {owner : State → State × Reply}
    (howner : ∀ s, Tabled a (loopsOf a) s → Tabled a (loopsOf a) (owner s).1) (role : Role) (granted : Bool)
    (params : List Byte) : TableLaws (Machine.takeRequest role granted params owner s) := by
  have hfinish : ∀ x : State × Reply, Tabled a (loopsOf a) x.1 → TableLaws (finishRequest role x) := by
    intro x hx
    refine TableLaws.settled (laws (a := a) ?_)
    have h1 := hx.answer role x.2
    exact iteInduction (motive := Tabled a (loopsOf a)) (fun _ => h1.of_eq rfl) (fun _ => h1)
  unfold Machine.takeRequest
  refine iteInduction (motive := TableLaws) (fun _ => (h.countError role _).laws) (fun _ => ?_)
  refine iteInduction (motive := TableLaws) (fun _ => ((h.setSeen role).countError role _).laws)
    (fun _ => hfinish _ ?_)
  split
  · exact howner _ (h.setSeen role)
  · exact h.setSeen role

/-- An owner that leaves the state as it is. -/
theorem takeRequest_of_read (h : Tabled a (loopsOf a) s) {owner : State → State × Reply} (ho : ∀ s, (owner s).1 = s)
    (role : Role) (granted : Bool) (params : List Byte) :
    TableLaws (Machine.takeRequest role granted params owner s) :=
  h.takeRequest (fun s hs => by rw [ho]; exact hs) role granted params

theorem noticePollOwner (role : Role) (s : State) (h : Tabled a L s) :
    Tabled a L (Machine.noticePollOwner role s).1 := by
  unfold Machine.noticePollOwner
  split
  · exact h
  · exact h.dropNotice _ _

theorem demandOwner (params : List Byte) (s : State) (h : Tabled a L s) :
    Tabled a L (Machine.demandOwner params s).1 := by
  unfold Machine.demandOwner
  split
  · exact h
  · exact forEach_keeps (Tabled a L) _ _ (fun g _ _ ht => ht.modGroup g _) s h

theorem priorityInhibitOwner (params : List Byte) (s : State) (h : Tabled a L s) :
    Tabled a L (Machine.priorityInhibitOwner params s).1 := by
  unfold Machine.priorityInhibitOwner
  split
  · exact h
  · refine forEach_keeps (Tabled a L) _ _ (fun g _ u hu => ?_) s h
    exact iteInduction (motive := Tabled a L) (fun _ => (hu.modGroup g _).emit _) (fun _ => hu.modGroup g _)

theorem groupInhibitOwner (params : List Byte) (s : State) (h : Tabled a L s) :
    Tabled a L (Machine.groupInhibitOwner params s).1 := by
  unfold Machine.groupInhibitOwner
  split
  · exact h
  · refine forEach_keeps (Tabled a L) _ _ (fun g _ u hu => ?_) s h
    exact iteInduction (motive := Tabled a L) (fun _ => hu) (fun _ => (hu.modGroup g _).handOn _)

/-- A TRANSITION joins the table only while there is room for it (R37 check 6, R38). -/
theorem transitionOwner (role : Role) (params : List Byte) (s : State) (h : Tabled a L s) :
    Tabled a L (Machine.transitionOwner role params s).1 := by
  have haccept : ∀ te re, roomFor s = true → Tabled a L (acceptTransition role te re s).1 := by
    intro te re hroom
    rw [roomFor, Bool.and_eq_true, decide_eq_true_eq] at hroom
    unfold acceptTransition
    split
    · exact h
    · exact h.writeRecordAt _ _ _ _ _ _ fun _ => hroom.1
  unfold Machine.transitionOwner
  split
  · exact h
  split
  · exact h
  split
  · exact h
  refine iteInduction (motive := fun x : State × Reply => Tabled a L x.1) (fun _ => h) fun _ => ?_
  refine iteInduction (motive := fun x : State × Reply => Tabled a L x.1) (fun _ => h) fun _ => ?_
  refine iteInduction (motive := fun x : State × Reply => Tabled a L x.1) (fun _ => h) fun _ => ?_
  exact iteInduction (motive := fun x : State × Reply => Tabled a L x.1) (fun _ => h)
    fun hroom => haccept _ _ (by simpa using hroom)

theorem cancelTransitionOwner (role : Role) (params : List Byte) (s : State) (h : Tabled a L s) :
    Tabled a L (Machine.cancelTransitionOwner role params s).1 := by
  unfold Machine.cancelTransitionOwner
  split
  · split
    · exact h
    · split
      · exact arbiter.cancelRecord _ _ h
      · exact h
  · exact h

theorem modeOwner (params : List Byte) (s : State) (h : Tabled a L s) : Tabled a L (Machine.modeOwner params s).1 := by
  have hrest : ∀ target, Tabled a L (wantResting target s).1 := by
    intro target
    unfold wantResting
    split
    · exact h
    · exact h.of_eq rfl
    · exact h.enterClearing target
    · exact h.enterResting _
    · split
      · exact h
      · exact h.enterResting _
  have hnormal : Tabled a L (wantNormal s).1 := by
    unfold wantNormal
    split
    · split
      · exact h.enterStart
      · exact h
    · split
      · exact h.enterStart
      · exact h
    all_goals exact h
  unfold Machine.modeOwner
  split
  · split
    · exact hnormal
    · exact hrest .flash
    · exact hrest .dark
    · exact h
  · exact h

theorem tramCheckInOwner (params : List Byte) (s : State) (h : Tabled a L s) :
    Tabled a L (Machine.tramCheckInOwner params s).1 := by
  unfold Machine.tramCheckInOwner
  split
  · exact h
  · exact h.takeCheckIn _

theorem onTram {act : EntryId → TramRec → State → State} (hact : ∀ k r s, Tabled a L s → Tabled a L (act k r s))
    (params : List Byte) (s : State) (h : Tabled a L s) : Tabled a L (Machine.onTram act params s).1 := by
  unfold Machine.onTram
  split
  · exact h
  · split
    · exact h
    · split
      · exact hact _ _ s h
      · exact h

theorem clearLampFaultsOwner (params : List Byte) (s : State) (h : Tabled a L s) :
    Tabled a L (Machine.clearLampFaultsOwner params s).1 := by
  unfold Machine.clearLampFaultsOwner
  split
  · exact h
  · refine forEach_keeps (Tabled a L) _ _ (fun g _ u hu => ?_) s h
    have h1 := (hu.modGroup g (fun r => { r with redLost := false, faults := noFaults })).modLamps g clearLampTimes
    exact iteInduction (motive := Tabled a L) (fun _ => h1.emit _) (fun _ => h1)

/-- Counters that go to 0 are no part of the laws (R162). -/
theorem clearAllCounts (h : Tabled a L s) : Tabled a L (Machine.clearAllCounts s) := by
  unfold Machine.clearAllCounts
  refine h.of_parts rfl rfl rfl rfl (fun r => ?_) (fun ch => ?_)
  · simp only [link, look_tabulate]
    exact quieter_of_counts _ _
  · simp only [channel, look_tabulate]
    exact h.channels ch

/-! ### Events -/

/-- Junction time advances: no kept time is part of the laws (R1). -/
theorem advanceTime (h : Tabled a L s) : Tabled a L (Machine.advanceTime s) := by
  refine h.of_parts rfl rfl rfl rfl (fun r => ⟨fun _ hi => hi, fun hs => hs⟩) (fun ch => ?_)
  simp only [channel, Machine.advanceTime, look_tabulate]
  exact h.channels ch

theorem changeFlashPhase (h : Tabled a L s) : Tabled a L (Machine.changeFlashPhase s) := by
  unfold Machine.changeFlashPhase
  exact forEach_keeps (Tabled a L) _ _ (fun g _ _ hu => hu.modLamps g _) _ (h.of_eq rfl)

theorem leaveGreenMin (h : Tabled a L s) (g : GroupId) : Tabled a L (Machine.leaveGreenMin g s) :=
  iteInduction (motive := Tabled a L) (fun _ => arbiter.enterState g .clear (h.modGroup g _))
    (fun _ => arbiter.enterState g .green h)

theorem enterGreenMin (h : Tabled a L s) (g : GroupId) (u : Time) : Tabled a L (Machine.enterGreenMin g u s) :=
  arbiter.enterState g .greenMin (h.modGroup g _)

theorem beginPrepare (h : Tabled a L s) (g : GroupId) (sch : Schedule) : Tabled a L (Machine.beginPrepare g sch s) :=
  iteInduction (motive := Tabled a L) (fun _ => h.enterGreenMin g sch.t) (fun _ => arbiter.enterState g .prepare h)

theorem handOnMismatch (h : Tabled a L s) (g : GroupId) (which : Circuit) :
    Tabled a L (Machine.handOnMismatch g which s) := h.modLamps g _

theorem handOffMismatch (h : Tabled a L s) (g : GroupId) (which : Circuit) :
    Tabled a L (Machine.handOffMismatch g which s) := h.modLamps g _

theorem sampleCheck (h : Tabled a L s) (sense : BitVec 72) : Tabled a L (Machine.sampleCheck sense s) := by
  have h1 : ∀ c, Tabled a L { s with lockoutCheck := c } := fun _ => h.of_eq rfl
  unfold Machine.sampleCheck
  split
  · exact h
  · split
    · exact h
    · split
      · exact (h1 none).completePending _ _
      · exact h1 _

theorem raiseLamp (h : Tabled a L s) : Tabled a L (Machine.raiseLamp s) := by
  unfold Machine.raiseLamp
  exact h.raiseFor _ _

theorem markLost (h : Tabled a L s) (g : GroupId) : Tabled a L (Machine.markLost g s) :=
  iteInduction (motive := Tabled a L) (fun _ => h)
    (fun _ => ((h.modGroup g _).raiseLamp.raiseAll .fault).handOn _)

theorem latchLampOut (h : Tabled a L s) (g : GroupId) (which : Circuit) :
    Tabled a L (Machine.latchLampOut g which s) :=
  iteInduction (motive := Tabled a L) (fun _ => h) (fun _ => (h.modGroup g _).raiseLamp)

theorem latchStuckOn (h : Tabled a L s) (g : GroupId) (which : Circuit) :
    Tabled a L (Machine.latchStuckOn g which s) :=
  iteInduction (motive := Tabled a L) (fun _ => h) (fun _ => (h.modGroup g _).raiseLamp)

theorem endHold (h : Tabled a L s) (k : EntryId) (r : TramRec) : Tabled a L (Machine.endHold k r s) := by
  refine recomputeHold (h.modTram k ?_) _
  exact fun _ => ⟨rfl, rfl⟩

theorem endStoreWrite (h : Tabled a L s) (held : Store) : Tabled a L (Machine.endStoreWrite held s) := by
  have h1 : Tabled a L { s with store := held, commit := .idle } := h.of_eq rfl
  exact h1.completePending _ _

end Tabled

namespace TableLaws

variable {s t : State}

theorem of_next (h : TableLaws s) (he : (.next s : Host.Outcome State Fault Refusal) = .next t) : TableLaws t := by
  cases he
  exact h

/-- A conditional event keeps the laws when its effect does. -/
theorem event (h : TableLaws s) {p : Prop} [Decidable p] {u : State} (hu : p → TableLaws u) :
    TableLaws (if p then u else s) := iteInduction (motive := TableLaws) hu (fun _ => h)

/-- Either reset leaves empty tables, empty notice sets and channels that start (R57, R106, R150, R163). -/
theorem afterReset (service carried : Bool) (straps : Straps) (level : Bool) (store : Store)
    (cause : Option LockoutCause) (pending : List Instr) (order : OpenOrders) :
    TableLaws (Machine.afterReset service carried straps level store cause pending order) where
  finish := tableLaws_reset.finish
  cards := tableLaws_reset.cards
  trams := tableLaws_reset.trams
  notices := tableLaws_reset.notices
  channels ch := by
    rw [channel, Machine.afterReset, look_tabulate]
    exact channelLaw_of_started rfl rfl

theorem autostart (h : TableLaws s) : TableLaws (Machine.autostart s) := by
  have h1 : TableLaws { s with autostartDue := false } := h.of_eq rfl
  exact iteInduction (motive := TableLaws) (fun _ => h1.tabled.enterStart.laws.settled) (fun _ => h1)

theorem dropOne (h : TableLaws s) (g : GroupId) (stamp : Stamp) : TableLaws (Machine.dropOne g stamp s) := by
  have h1 := h.tabled.modGroup g (fun r => dropStamp r stamp)
  exact iteInduction (motive := TableLaws) (fun _ => (Tabled.arbiter.takeTerminate g h1).laws.settled) (fun _ => h1.laws)

theorem passCheck (h : TableLaws s) : TableLaws (Machine.passCheck s) := by
  have h1 : TableLaws { s with lockoutCheck := none } := h.of_eq rfl
  exact ((h1.tabled.enterResting .flash).completePending _ _).laws.settled

/-- The presence limit expires on an OCCUPIED channel only (R99). -/
theorem occupied_of_presenceDue {ch : ChannelId} (h : presenceDue s ch = true) : (channel s ch).state = .occupied := by
  simp only [presenceDue, Bool.and_eq_true, beq_iff_eq] at h
  exact h.1.1

/-- Every command keeps the laws. -/
theorem exec (h : TableLaws s) (c : Instr) (he : Machine.exec c s = .next t) : TableLaws t := by
  have ht := h.tabled
  cases c with
  | powerOnReset pins => exact of_next (afterReset _ _ _ _ _ _ _ _) he
  | autostart => exact of_next (h.event fun _ => h.autostart) he
  | junctionTimeAdvance => exact of_next ht.advanceTime.laws he
  | flashPhaseChange => exact of_next (h.event fun _ => ht.changeFlashPhase.laws) he
  | stampDrop g stamp => exact of_next (h.event fun _ => h.dropOne g stamp) he
  | minimumRedExpires g =>
    exact of_next (h.event fun _ => (Tabled.arbiter.enterState g _ ht).laws.settled) he
  | nowReachesS g =>
    refine of_next ?_ he
    split
    · exact (ht.beginPrepare g _).laws.settled
    · exact h
  | nowReachesT g =>
    refine of_next ?_ he
    split
    · exact (ht.enterGreenMin g _).laws.settled
    · exact h
  | minimumGreenExpires g => exact of_next (h.event fun _ => (ht.leaveGreenMin g).laws.settled) he
  | nowReachesHoldUntil g =>
    exact of_next (h.event fun _ => (Tabled.arbiter.takeTerminate g ht).laws.settled) he
  | clearTimeExpires g =>
    exact of_next (h.event fun _ => (Tabled.arbiter.enterState g .redMin (ht.modGroup g _)).laws.settled) he
  | startFlashExpires => exact of_next (h.event fun _ => ht.enterRedPhase.laws.settled) he
  | startRedExpires => exact of_next (h.event fun _ => ht.enterNormal.laws.settled) he
  | supervisionExpires => exact of_next (h.event fun _ => (ht.enterClearing .flash).laws.settled) he
  | lampSenseSample sense =>
    have h1 := forEach_keeps (Tabled s.active (loopsOf s.active)) allGroups (sampleGroup sense)
      (fun g _ _ hu => hu.modLamps g _) s ht
    exact of_next (h1.sampleCheck sense).laws he
  | unwantedProceed g =>
    exact of_next (h.event fun _ => ((ht.handOffMismatch g .c).enterLockout g .c).laws.settled) he
  | redLost g => exact of_next (h.event fun _ => ((ht.handOnMismatch g .a).markLost g).laws.settled) he
  | lampOut g which => exact of_next (h.event fun _ => ((ht.handOnMismatch g which).latchLampOut g which).laws) he
  | stuckOn g which => exact of_next (h.event fun _ => ((ht.handOffMismatch g which).latchStuckOn g which).laws) he
  | clearLockoutCheckPasses => exact of_next (h.event fun _ => h.passCheck) he
  | noOsc e => exact of_next (ht.completeMeasurement e fun _ _ hm => by cases hm).laws.settled he
  | lowFreq e => exact of_next (ht.completeMeasurement e fun _ _ hm => by cases hm).laws.settled he
  | measurementComplete e n =>
    exact of_next (ht.completeMeasurement e fun _ _ hm => validCount_of_judgeCount hm).laws.settled he
  | trackingMoment => exact of_next (h.event fun _ => ht.trackAll.laws) he
  | presenceLimitExpires ch =>
    exact of_next (h.event fun hdue => (ht.expirePresence ch (occupied_of_presenceDue hdue)).laws.settled) he
  | inputSample pins =>
    refine of_next (forEach_keeps TableLaws _ _ (fun i _ u hu => ?_) s h) he
    exact hu.of_eq rfl
  | debouncedStateChange i => exact of_next (h.event fun _ => (ht.changeDebounced i).laws.settled) he
  | gapValueSaturates g => exact of_next (h.event fun _ => (ht.modGroup g _).laws) he
  | framingError => exact of_next (h.event fun _ => (ht.modBeacon _).laws) he
  | byteComplete =>
    refine of_next ?_ he
    split
    · exact (ht.takeCompleted _).laws.settled
    · exact h
  | gapTimerExpires => exact of_next (h.event fun _ => (ht.modBeacon _).laws) he
  | lineBreak => exact of_next (h.event fun _ => ((ht.modBeacon _).raiseFor _ _).laws) he
  | brokenWaitComplete => exact of_next (h.event fun _ => (ht.modBeacon _).laws) he
  | holdTimerExpires k =>
    refine of_next ?_ he
    split
    · exact (ht.endHold k _).laws.settled
    · exact h
  | lostTimerExpires k =>
    refine of_next ?_ he
    split
    · exact (ht.loseTram k _).laws.settled
    · exact h
  | requestFrameDrop bytes close => exact of_next (ht.dropFrame bytes).laws he
  | linkClockTimeout r frame => exact of_next ((ht.timedOutSeen frame r).countError r _).laws he
  | replyRead r n => exact of_next (ht.readReply r n).laws he
  | requestCodeUnknown r code =>
    exact of_next (iteInduction (motive := TableLaws) (fun _ => h)
      fun _ => ht.takeRequest_of_read (fun _ => rfl) r true []) he
  | readJunction r p => exact of_next (ht.takeRequest_of_read (readJunctionOwner_fst p) r true p) he
  | readGroups r p => exact of_next (ht.takeRequest_of_read (readGroupsOwner_fst p) r true p) he
  | readTransitions r p => exact of_next (ht.takeRequest_of_read (readTransitionsOwner_fst p) r true p) he
  | readLoops r p => exact of_next (ht.takeRequest_of_read (readLoopsOwner_fst p) r true p) he
  | readTrams r p => exact of_next (ht.takeRequest_of_read (readTramsOwner_fst p) r true p) he
  | readCounts r p => exact of_next (ht.takeRequest_of_read (readCountsOwner_fst p) r true p) he
  | noticePoll r p =>
    exact of_next (ht.takeRequest (noParams_keeps (Tabled.noticePollOwner r) p) r true p) he
  | keepalive r p =>
    exact of_next (ht.takeRequest (noParams_keeps (fun _ hu => hu) p) r (planOnly r) p) he
  | demand r p => exact of_next (ht.takeRequest (Tabled.demandOwner p) r (planOnly r) p) he
  | priorityInhibit r p => exact of_next (ht.takeRequest (Tabled.priorityInhibitOwner p) r (planOnly r) p) he
  | transition r p => exact of_next (ht.takeRequest (Tabled.transitionOwner r p) r (planOrCentral r) p) he
  | cancelTransition r p =>
    exact of_next (ht.takeRequest (Tabled.cancelTransitionOwner r p) r (planOrCentral r) p) he
  | mode r p => exact of_next (ht.takeRequest (Tabled.modeOwner p) r (modeRoles r) p) he
  | groupInhibit r p => exact of_next (ht.takeRequest (Tabled.groupInhibitOwner p) r (centralOnly r) p) he
  | tramCheckIn r p => exact of_next (ht.takeRequest (Tabled.tramCheckInOwner p) r (tramnetOnly r) p) he
  | tramCheckOut r p =>
    exact of_next (ht.takeRequest (Tabled.onTram (fun k q _ hu => hu.checkOut k q) p) r (tramnetOnly r) p) he
  | tramCancel r p =>
    exact of_next (ht.takeRequest (Tabled.onTram (fun k q _ hu => hu.removeTram k q) p) r (tramnetOnly r) p) he
  | writeConfig r p =>
    refine of_next (ht.takeRequest (fun u hu => ?_) r (serviceOnly r) p) he
    unfold writeConfigOwner
    split
    · exact hu
    · exact hu.of_eq rfl
  | commitConfig r p =>
    refine of_next (ht.takeRequest (noParams_keeps (fun u hu => ?_) p) r (serviceOnly r) p) he
    split
    · exact hu
    · exact hu.of_eq rfl
  | storeWriteEnd held => exact of_next (h.event fun _ => (ht.endStoreWrite _).laws) he
  | discardStaging r p =>
    refine of_next (ht.takeRequest (noParams_keeps (fun u hu => ?_) p) r (serviceOnly r) p) he
    exact hu.of_eq rfl
  | readConfig r p => exact of_next (ht.takeRequest_of_read (readConfigOwner_fst p) r (serviceOnly r) p) he
  | clearLockout r p =>
    refine of_next (ht.takeRequest (noParams_keeps (fun u hu => ?_) p) r (serviceOnly r) p) he
    split
    · exact hu.of_eq rfl
    · exact hu
  | clearLampFaults r p => exact of_next (ht.takeRequest (Tabled.clearLampFaultsOwner p) r (serviceOnly r) p) he
  | clearCounts r p =>
    exact of_next
      (ht.takeRequest (noParams_keeps (fun _ hu => hu.clearAllCounts.discardReply r) p) r (serviceOnly r) p) he
  | restart r p =>
    exact of_next (iteInduction (motive := TableLaws) (fun _ => afterReset _ _ _ _ _ _ _ _)
      fun _ => ht.takeRequest_of_read (fun _ => rfl) r (serviceOnly r) p) he
  | beaconLineSample level => exact of_next (ht.modBeacon _).laws he

end TableLaws

/-- Settles O58: a command is taken from the queue, and every command keeps the laws. -/
theorem stepsKeepTheTableLaws : Obligations.StepsKeepTheTableLaws := by
  intro s t h hstep
  unfold step at hstep
  split at hstep
  · exact h.of_next hstep
  · refine TableLaws.exec ?_ _ hstep
    exact h.of_eq rfl

end Sys2Proof.Machine
end

section
/-! PROOF. TRANSITION at the release arbiter: the checks of R37 in their order, and a record that passes them all, which
keeps its id and sets whatever its acceptance sets off (R34 to R38, R44). -/

namespace Sys2Proof.Machine

open Sys2Proof

/-! ### The bytes of a TRANSITION (R164) -/

/-- The two lists of a TRANSITION are one list of groups, cut where the terminate list ends. -/
theorem transitionLists_eq (fit : GroupId → Bool) (tb rb : List Byte) :
    transitionLists fit tb rb =
      (actionOnGroups fit (0#8 :: (tb ++ rb))).map fun x => (x.2.take tb.length, x.2.drop tb.length) := by
  have hact : actionOf 0#8 = some false := rfl
  cases hgs : namedGroups (tb ++ rb) with
  | none => simp [transitionLists, actionOnGroups, hact, hgs]
  | some gs => simp [transitionLists, actionOnGroups, hact, hgs]

theorem transitionBytes_of_short {k : Byte} {bs : List Byte} (h : bs.length < k.toNat) :
    transitionBytes (k :: bs) = none := if_neg (Nat.not_le.2 h)

theorem transitionBytes_of_le {k : Byte} {bs : List Byte} (h : k.toNat ≤ bs.length) :
    transitionBytes (k :: bs) = some (bs.take k.toNat, bs.drop k.toNat) := if_pos h

/-- A list that check 2 of R37 refuses. -/
theorem transitionLists_of_refused {fit : GroupId → Bool} {bs : List Byte} (n : Nat)
    (h : bs = [] ∨ (∃ b ∈ bs, b.toNat = 0 ∨ 24 < b.toNat) ∨ ¬ bs.Nodup ∨ ∃ g, groupByte g ∈ bs ∧ fit g = false) :
    transitionLists fit (bs.take n) (bs.drop n) = none := by
  rw [transitionLists_eq, List.take_append_drop, actionOnGroups_of_refused (.inr h)]
  rfl

/-- Lists of distinct used groups are read as they were written. -/
theorem transitionLists_of_fit {fit : GroupId → Bool} {te re : List GroupId} (hne : te ++ re ≠ [])
    (hnodup : (te ++ re).Nodup) (hfit : ∀ g ∈ te ++ re, fit g = true) :
    transitionLists fit (te.map groupByte) (re.map groupByte) = some (te, re) := by
  rw [transitionLists_eq, ← List.map_append, actionOnGroups_of_fit (.inl rfl) hne hnodup hfit]
  simp

/-- There are no more than 24 distinct groups, so a byte holds their number. -/
theorem toNat_byte_length {l : List GroupId} (h : l.Nodup) : (byte l.length).toNat = l.length := by
  have hlen : l.length ≤ 24 := by simpa using h.length_le_card
  rw [byte, BitVec.toNat_ofNat]
  omega

theorem transitionBytes_of_groups {te re : List GroupId} (hnodup : (te ++ re).Nodup) :
    transitionBytes (byte te.length :: (te ++ re).map groupByte) =
      some (te.map groupByte, re.map groupByte) := by
  have hk := toNat_byte_length (List.nodup_append.1 hnodup).1
  rw [transitionBytes_of_le (by simp [hk]), hk]
  simp

/-! ### The checks of R37 -/

/-- Check 3. -/
theorem releaseFree_iff {s : State} {re : List GroupId} :
    ¬ releaseFree s re = false ↔ ∀ i ∈ re, ∀ j ∈ re, conflicts s i j = false := by
  simp [releaseFree]

/-- Check 4. -/
theorem releaseAllowed_iff {s : State} {re : List GroupId} :
    ¬ releaseAllowed s re = false ↔ ∀ g ∈ re, (grp s g).inhibited = false := by
  simp [releaseAllowed]

/-- Check 5. -/
theorem covered_iff {s : State} {te re : List GroupId} : ¬ covered s te re = false ↔ Covered s te re := by
  simp only [Bool.not_eq_false, covered, Covered, List.all_eq_true, mem_allGroups, true_implies, Bool.or_eq_true, Bool.not_eq_true',
    List.any_eq_true, decide_eq_true_eq]
  refine forall_congr' fun i => ⟨fun h hc hp => ?_, fun h => ?_⟩
  · rcases h with (h | h) | h
    · obtain ⟨j, hj, hij⟩ := hc
      exact absurd hij (by simpa using List.any_eq_false.1 h j hj)
    · rw [Bool.or_eq_false_iff, List.any_eq_false] at h
      rcases hp with hp | ⟨r, hr, hi⟩
      · exact absurd hp (by simp [h.1])
      · exact absurd hi (h.2 r hr)
    · exact h
  · by_cases hc : ∃ j ∈ re, conflicts s i j = true
    · by_cases hp : inProceed s i = true ∨ ∃ r ∈ liveRecs s, inSet .release r i = true
      · exact .inr (h hc hp)
      · rw [not_or] at hp
        refine .inl (.inr ?_)
        rw [Bool.or_eq_false_iff, List.any_eq_false]
        exact ⟨by simpa using hp.1, fun r hr hi => hp.2 ⟨r, hr, hi⟩⟩
    · refine .inl (.inl ?_)
      rw [List.any_eq_false]
      exact fun j hj hij => hc ⟨j, hj, hij⟩

/-- With a slot that holds no live record there is one for a new record (R35). -/
theorem isSome_freeSlot_iff {s : State} (hf : FinishLaw s) :
    (freeSlot s).isSome = true ↔ ∃ k, ∀ r, slot s k = some r → isLive r = false := by
  constructor
  · intro h
    obtain ⟨k, hk⟩ := Option.isSome_iff_exists.1 h
    exact ⟨k, fun r hr => not_isLive_of_freeSlot hf hk hr⟩
  · rintro ⟨k, hk⟩
    unfold freeSlot
    split
    · rfl
    · next hnone =>
      have hsome := List.find?_eq_none.1 hnone k (List.mem_finRange k)
      rw [Option.isNone_iff_eq_none] at hsome
      obtain ⟨r, hr⟩ := Option.ne_none_iff_exists'.1 hsome
      have hmem := (hf k).2 ⟨r, hr, hk r hr⟩
      cases hl : s.finishOrder with
      | nil => rw [hl] at hmem; cases hmem
      | cons j rest => rfl

/-- Check 6. -/
theorem roomFor_iff {s : State} (hf : FinishLaw s) : roomFor s = true ↔ RoomFor s := by
  rw [roomFor, Bool.and_eq_true, decide_eq_true_eq, isSome_freeSlot_iff hf, RoomFor]

/-- The checks that remain once the two lists are read (R37 checks 3 to 6). -/
theorem transitionOwner_of_lists (role : Role) {te re : List GroupId} {s : State} (hm : s.mode = .normal)
    (hne : te ++ re ≠ []) (hnodup : (te ++ re).Nodup) (hused : ∀ g ∈ te ++ re, used s g = true) :
    transitionOwner role (byte te.length :: (te ++ re).map groupByte) s =
      if releaseFree s re = false then refuse .refusedConflict s
      else if releaseAllowed s re = false then refuse .refusedState s
      else if covered s te re = false then refuse .refusedConflict s
      else if roomFor s = false then refuse .refusedFull s
      else acceptTransition role te re s := by
  simp only [transitionOwner, transitionBytes_of_groups hnodup, transitionLists_of_fit hne hnodup hused, hm,
    ne_eq, not_true_eq_false, if_false]

/-! ### Refusals -/

theorem planOrCentral_eq_true {role : Role} (h : role = .plan ∨ role = .central) : planOrCentral role = true := by
  rcases h with rfl | rfl <;> rfl

/-- A TRANSITION that the arbiter refuses is answered so, and does nothing else. -/
theorem exec_transition_of_refuse {role : Role} {params : List Byte} {s : State} {c : ReplyCode}
    (hr : role = .plan ∨ role = .central) (h : Answerable role params s)
    (ho : transitionOwner role params (setSeen role s) = refuse c (setSeen role s)) :
    ∃ t, exec (.transition role params) s = .next t ∧ Replied role (plain c) s t := by
  refine ⟨_, rfl, ?_⟩
  rw [planOrCentral_eq_true hr]
  exact takeRequest_replied role params _ _ s s h ho h.work

/-- Settles O45, check by check. -/
theorem transitionChecksInOrder : Obligations.TransitionChecksInOrder := by
  intro role s hr
  refine ⟨fun h => exec_transition_of_refuse hr h rfl, fun k bs h hlen => ?_, fun k bs h hlen => ⟨fun hm => ?_,
    fun hm hbad => ?_⟩, fun te re h hm hne hnodup hused => ?_⟩
  · refine exec_transition_of_refuse hr h ?_
    rw [transitionOwner, transitionBytes_of_short hlen]
  · refine exec_transition_of_refuse hr h ?_
    rw [transitionOwner, transitionBytes_of_le hlen]
    exact if_pos hm
  · refine exec_transition_of_refuse hr h ?_
    have hmode : ¬ (setSeen role s).mode ≠ .normal := not_not.2 hm
    have hlists : transitionLists (used (setSeen role s)) (bs.take k.toNat) (bs.drop k.toNat) = none :=
      transitionLists_of_refused k.toNat hbad
    simp only [transitionOwner, transitionBytes_of_le hlen, if_neg hmode, hlists]
  · have hchecks := transitionOwner_of_lists role (s := setSeen role s) hm hne hnodup hused
    have h3 : ¬ releaseFree (setSeen role s) re = false ↔ ∀ i ∈ re, ∀ j ∈ re, conflicts s i j = false :=
      releaseFree_iff
    have h4 : ¬ releaseAllowed (setSeen role s) re = false ↔ ∀ g ∈ re, (grp s g).inhibited = false :=
      releaseAllowed_iff
    have h5 : ¬ covered (setSeen role s) te re = false ↔ Covered s te re := covered_iff
    refine ⟨?_, fun hfree => ⟨?_, fun hallowed => ⟨fun hcov => ?_, fun hcov hf hroom => ?_⟩⟩⟩
    · rintro ⟨i, hi, j, hj, hij⟩
      refine exec_transition_of_refuse hr h (hchecks.trans (if_pos (by_contra fun hn => ?_)))
      rw [h3.1 hn i hi j hj] at hij
      cases hij
    · rintro ⟨g, hg, hinh⟩
      refine exec_transition_of_refuse hr h
        (hchecks.trans ((if_neg (h3.2 hfree)).trans (if_pos (by_contra fun hn => ?_))))
      rw [h4.1 hn g hg] at hinh
      cases hinh
    · exact exec_transition_of_refuse hr h (hchecks.trans ((if_neg (h3.2 hfree)).trans
        ((if_neg (h4.2 hallowed)).trans (if_pos (by_contra fun hn => hcov (h5.1 hn))))))
    · have h6 : roomFor (setSeen role s) = false := by
        rw [Bool.eq_false_iff, ne_eq, roomFor_iff (s := setSeen role s) hf]
        exact hroom
      exact exec_transition_of_refuse hr h (hchecks.trans ((if_neg (h3.2 hfree)).trans
        ((if_neg (h4.2 hallowed)).trans ((if_neg (h5.2 hcov)).trans (if_pos h6)))))

end Sys2Proof.Machine
end

section
/-! PROOF. A TRANSITION that passes the checks of R37: its record and every live one keep what they are while the
acceptance is settled (R34 to R36, R38, R44). -/

namespace Sys2Proof.Machine

open Sys2Proof

/-! ### Settling without a RED_LOST marking -/

/-- What every hand-off but a RED_LOST marking keeps, settling keeps, when no marking is set off. -/
theorem settle_keeps_unmarked {P : State → Prop} (hw : ∀ s w, (∀ x ∈ w, isMarking x = false) → P s → P { s with work := w })
    (hm : ∀ s, P s → ∀ x ∈ s.work, isMarking x = false)
    (hh : ∀ x s, isMarking x = false → P s → P (handle x s)) (n : Nat) : ∀ s, P s → P (settle n s) := by
  induction n with
  | zero => exact fun s hs => hs
  | succ n ih =>
    intro s hs
    cases hwork : s.work with
    | nil =>
      rw [settle_of_no_work _ s hwork]
      exact hs
    | cons x rest =>
      rw [settle_cons n s x rest hwork]
      have hx : ∀ y ∈ x :: rest, isMarking y = false := hwork ▸ hm s hs
      have h1 := hh x _ (hx x List.mem_cons_self) (hw s [] (fun y hy => nomatch hy) hs)
      refine ih _ (hw _ _ (fun y hy => ?_) h1)
      rcases List.mem_append.1 hy with hy | hy
      · exact hm _ h1 y hy
      · exact hx y (List.mem_cons_of_mem x hy)

/-! ### Records that keep what they are -/

/-- A record keeps its id, class, origin, acceptance time and sets. -/
structure SameRecord (r q : TransRec) : Prop where
  id : q.id = r.id
  cls : q.cls = r.cls
  origin : q.origin = r.origin
  acceptedAt : q.acceptedAt = r.acceptedAt
  sets : ∀ kd g, inSet kd q g = inSet kd r g

theorem SameRecord.refl (r : TransRec) : SameRecord r r := ⟨rfl, rfl, rfl, rfl, fun _ _ => rfl⟩

theorem SameRecord.trans {r q p : TransRec} (h : SameRecord r q) (h' : SameRecord q p) : SameRecord r p :=
  ⟨h'.id.trans h.id, h'.cls.trans h.cls, h'.origin.trans h.origin, h'.acceptedAt.trans h.acceptedAt,
    fun kd g => (h'.sets kd g).trans (h.sets kd g)⟩

/-- The table holds every record that another state held, in its slot. -/
def RecordsStand (u s : State) : Prop := ∀ k r, slot u k = some r → ∃ q, slot s k = some q ∧ SameRecord r q

theorem RecordsStand.of_slots {u s t : State} (h : RecordsStand u s)
    (ht : ∀ k q, slot s k = some q → ∃ p, slot t k = some p ∧ SameRecord q p) : RecordsStand u t := by
  intro k r hr
  obtain ⟨q, hq, hrq⟩ := h k r hr
  obtain ⟨p, hp, hqp⟩ := ht k q hq
  exact ⟨p, hp, hrq.trans hqp⟩

theorem RecordsStand.modSlot {u s : State} (h : RecordsStand u s) (k : SlotId) {f : TransRec → TransRec}
    (hf : ∀ r, SameRecord r (f r)) : RecordsStand u (Machine.modSlot k f s) := by
  refine h.of_slots fun j q hq => ?_
  rw [slot_modSlot]
  split
  · next hk => exact ⟨f q, by rw [hk, hq]; rfl, hf q⟩
  · exact ⟨q, hq, .refl q⟩

/-! ### While an acceptance is settled -/

/-- A junction in NORMAL with no tram, no group marked RED_LOST and no commit that waits, in which the acceptance of a
role's request is being settled: the records of `u` stand, and the role's reply. -/
structure Settling (role : Role) (u s : State) : Prop where
  mode : s.mode = .normal
  commit : s.commit ≠ .waitingApply
  trams : ∀ k, tram s k = none
  lost : ∀ g, (grp s g).redLost = false
  work : ∀ x ∈ s.work, isMarking x = false
  counter : s.acceptCounter = u.acceptCounter
  reply : (link s role).slot = (link u role).slot
  seen : (link s role).seen = (link u role).seen
  records : RecordsStand u s

namespace Settling

variable {role : Role} {u s : State}

theorem of_eq {t : State} (h : Settling role u s) (he : t = s) : Settling role u t := he ▸ h

/-- Without a RED_LOST flag none stands against a group. -/
theorem lostNear_eq_false (h : Settling role u s) (j : GroupId) : lostNear s j = false := by
  simp [lostNear, h.lost]

theorem raise (h : Settling role u s) (n : Notice) (r : Role) : Settling role u (Machine.raise n r s) := by
  unfold Machine.raise
  split
  · have hlink : (link (modLink r (fun l => { l with notices := put l.notices (noticeIndex n) true }) s) role).slot =
          (link s role).slot ∧
        (link (modLink r (fun l => { l with notices := put l.notices (noticeIndex n) true }) s) role).seen =
          (link s role).seen := by
      rw [link_modLink]
      split
      · next hr => exact hr ▸ ⟨rfl, rfl⟩
      · exact ⟨rfl, rfl⟩
    exact { h with reply := hlink.1.trans h.reply, seen := hlink.2.trans h.seen }
  · exact h

/-- What the arbiter does leaves the records what they are, for no release is dropped. -/
theorem arbiter : ArbiterKeeps (Settling role u) where
  work s w hw h := { h with work := fun x hx => (hw x hx).elim (h.work x) id }
  order _ _ h := ⟨h.mode, h.commit, h.trams, h.lost, h.work, h.counter, h.reply, h.seen, h.records⟩
  raise n r _ h := h.raise n r
  group g f s hf h :=
    { h with
      lost := fun i => by
        rw [grp_modGroup]
        split
        · next hi => rw [hf, hi, h.lost]
        · exact h.lost i }
  lamps _ _ _ h := ⟨h.mode, h.commit, h.trams, h.lost, h.work, h.counter, h.reply, h.seen, h.records⟩
  outcome k g o _ h :=
    { h with records := h.records.modSlot k fun r => ⟨rfl, rfl, rfl, rfl, fun _ _ => inSet_setOutcome g _ o r _⟩ }
  start k _ _ h := { h with records := h.records.modSlot k fun _ => ⟨rfl, rfl, rfl, rfl, fun _ _ => rfl⟩ }
  lost _ j _ hj h := by
    rw [h.lostNear_eq_false j] at hj
    cases hj
  finish k r st cause s _ hr h :=
    { h with
      records := h.records.of_slots fun j q hq => by
        rw [slot_finishedTable]
        split
        · next hk =>
          obtain rfl := Option.some.inj ((hk ▸ hr).symm.trans hq)
          exact ⟨_, rfl, rfl, rfl, rfl, rfl, fun _ _ => rfl⟩
        · exact ⟨q, hq, .refl q⟩ }

/-- With no lost red the junction stays in NORMAL (R66). -/
theorem examineLost (h : Settling role u s) : Machine.examineLost s = s := by
  refine if_neg fun hc => ?_
  have hcount : lostCount s = 0 := by simp [lostCount, h.lost]
  rw [hcount] at hc
  exact absurd hc.2 (by decide)

theorem evaluateWhere (h : Settling role u s) (p : TramRec → Bool) (anew : Bool) :
    Machine.evaluateWhere p anew s = s := by
  simp [Machine.evaluateWhere, tramOrder_of_no_trams s h.trams, Machine.emitAll]

theorem tramCancelled (h : Settling role u s) (id : TransId) : Machine.tramCancelled id s = s := by
  have hnone : (allEntries.find? fun k => (tram s k).any fun r => r.transition == some id) = none := by
    simp [h.trams]
  simp only [Machine.tramCancelled, hnone]

theorem evaluate (h : Settling role u s) (k : EntryId) (anew : Bool) : Machine.evaluate k anew s = s := by
  simp only [Machine.evaluate, h.trams k]

/-- Every hand-off but a RED_LOST marking lets the records stand. -/
theorem handle (h : Settling role u s) (x : Handoff) (hx : isMarking x = false) :
    Settling role u (Machine.handle x s) := by
  cases x with
  | arbiterEntry g st => exact arbiter.arbiterEntry g st h
  | tramEntry g st => exact h.of_eq (tramEntry_of_no_trams s h.trams g st)
  | configExamine => exact iteInduction (motive := Settling role u) (fun hc => absurd hc.1 h.commit) (fun _ => h)
  | clearingExamine =>
    refine iteInduction (motive := Settling role u) (fun hc => ?_) (fun _ => h)
    rw [h.mode] at hc
    exact nomatch hc.1
  | clearDemand g => exact arbiter.takeClearEntry g h
  | arbiterExamine => exact arbiter.examineArbiter h
  | scheduleExamine => exact arbiter.examineSchedule h
  | arbiterLost g => cases hx
  | lostExamine => exact h.of_eq h.examineLost
  | slotFree => exact h.of_eq (takeSlotFree_of_no_trams s h.trams)
  | tramCancelled id => exact h.of_eq (h.tramCancelled id)
  | tramEvaluate k anew => exact h.of_eq (h.evaluate k anew)
  | tramEvaluateAll => exact h.of_eq (h.evaluateWhere _ _)
  | tramEvaluateGroup g => exact h.of_eq (h.evaluateWhere _ _)

theorem settled (h : Settling role u s) : Settling role u (Machine.settled s) :=
  settle_keeps_unmarked (P := Settling role u) (fun _ _ hw h => { h with work := hw }) (fun _ h => h.work)
    (fun x _ hx h => h.handle x hx) settleFuel s h

end Settling

/-! ### The new record (R34 to R36) -/

theorem inSet_newItems {te re : List GroupId} (hnodup : (te ++ re).Nodup) {r : TransRec}
    (hr : r.items = newItems te re) (g : GroupId) :
    inSet .terminate r g = decide (g ∈ te) ∧ inSet .release r g = decide (g ∈ re) := by
  obtain ⟨_, _, hdisjoint⟩ := List.nodup_append.1 hnodup
  simp only [inSet, itemOf, hr, newItems, look_tabulate]
  by_cases hg : g ∈ re
  · have hte : g ∉ te := fun ht => hdisjoint g ht g hg rfl
    simp [hg, hte]
  · by_cases ht : g ∈ te <;> simp [hg, ht]

/-- The record of an accepted TRANSITION (R34, R38). -/
def cardRecord (role : Role) (te re : List GroupId) (s : State) : TransRec :=
  { id := nextId s, cls := requestClass role, origin := .role role, items := newItems te re,
    hadRelease := !re.isEmpty, tram := none, acceptedAt := s.now, state := .queued, finishedAt := none,
    endCause := none }

/-- A TRANSITION that passes the checks is written into the free slot and answered with its id (R37, R38). -/
theorem transitionOwner_of_passed (role : Role) {te re : List GroupId} {s : State} {k : SlotId}
    (hm : s.mode = .normal) (hne : te ++ re ≠ []) (hnodup : (te ++ re).Nodup) (hused : ∀ g ∈ te ++ re, used s g = true)
    (hfree : ∀ i ∈ re, ∀ j ∈ re, conflicts s i j = false) (hallowed : ∀ g ∈ re, (grp s g).inhibited = false)
    (hcov : Covered s te re) (hroom : roomFor s = true) (hk : freeSlot s = some k) :
    transitionOwner role (byte te.length :: (te ++ re).map groupByte) s =
      (writeRecordAt k (requestClass role) (.role role) te re none s, { code := .accepted, data := [nextId s] }) := by
  rw [transitionOwner_of_lists role hm hne hnodup hused, if_neg (releaseFree_iff.2 hfree),
    if_neg (releaseAllowed_iff.2 hallowed), if_neg (covered_iff.2 hcov), hroom, if_neg (by decide), acceptTransition, hk]

/-- The junction with the record in its slot and the role answered, before the arbiter examines activation. -/
def acceptedState (role : Role) (k : SlotId) (te re : List GroupId) (s : State) : State :=
  modLink role (repliedLink { code := .accepted, data := [nextId s] })
    (writeRecordAt k (requestClass role) (.role role) te re none (setSeen role s))

theorem slot_acceptedState (role : Role) (k j : SlotId) (te re : List GroupId) (s : State) :
    slot (acceptedState role k te re s) j = if k = j then some (cardRecord role te re s) else slot s j :=
  look_put s.slots k j (some (cardRecord role te re s))

theorem link_acceptedState (role : Role) (k : SlotId) (te re : List GroupId) (s : State) :
    (link (acceptedState role k te re s) role).slot = .ready { code := .accepted, data := [nextId s] } false ∧
      (link (acceptedState role k te re s) role).seen = true := by
  rw [acceptedState, link_modLink, if_pos rfl]
  exact ⟨repliedLink_slot _ _, repliedLink_seen _ _⟩

/-- What the acceptance sets off is settled with the records standing. -/
theorem settling_acceptedState {role : Role} {s : State} (k : SlotId) (te re : List GroupId) (hw : s.work = [])
    (hm : s.mode = .normal) (hc : s.commit ≠ .waitingApply) (htrams : ∀ e, tram s e = none)
    (hlost : ∀ g, (grp s g).redLost = false) :
    Settling role (acceptedState role k te re s) (acceptedState role k te re s) where
  mode := hm
  commit := hc
  trams := htrams
  lost := hlost
  counter := rfl
  reply := rfl
  seen := rfl
  records _ r hr := ⟨r, hr, .refl r⟩
  work x hx := by
    rw [show (acceptedState role k te re s).work = s.work ++ [.arbiterExamine] from rfl, hw] at hx
    rw [List.mem_singleton.1 hx]
    rfl

/-- Settles O46: the record is written, the role is answered, and what the acceptance sets off lets the records stand. -/
theorem passedTransitionIsAccepted : Obligations.PassedTransitionIsAccepted := by
  intro role te re s hr params h hm hc htrams hlost hf hne hnodup hused hfree hallowed hcov hroom
  have hroom' : roomFor s = true := (roomFor_iff hf).2 hroom
  obtain ⟨_, hsome⟩ := Bool.and_eq_true _ _ ▸ hroom'
  obtain ⟨k, hk⟩ := Option.isSome_iff_exists.1 hsome
  have howner := transitionOwner_of_passed role (s := setSeen role s) hm hne hnodup hused hfree hallowed hcov hroom' hk
  have hu := settling_acceptedState (role := role) k te re h.work hm hc htrams hlost
  have hend : Settling role (acceptedState role k te re s)
      (settled (superviseRestart role .accepted (acceptedState role k te re s))) :=
    Settling.settled (iteInduction (motive := Settling role (acceptedState role k te re s))
      (fun _ => ⟨hm, hc, htrams, hlost, hu.work, rfl, rfl, rfl, hu.records⟩) fun _ => hu)
  have hexec : exec (.transition role params) s =
      .next (settled (superviseRestart role .accepted (acceptedState role k te re s))) := by
    show Host.Outcome.next (takeRequest role (planOrCentral role) params (transitionOwner role params) s) = _
    rw [planOrCentral_eq_true hr, takeRequest_eq h howner
      (show (link (setSeen role s) role).seen = true by simp [setSeen])]
    rfl
  obtain ⟨r, hslot, hrec⟩ := hend.records k (cardRecord role te re s) ((slot_acceptedState ..).trans (if_pos rfl))
  obtain ⟨hreply, hseen⟩ := link_acceptedState role k te re s
  have hsets := inSet_newItems hnodup (r := cardRecord role te re s) rfl
  refine ⟨_, k, r, hexec, hslot, fun j q hq hqr => ?_, ?_, hend.seen.trans hseen, hrec.cls, hrec.origin, hrec.acceptedAt,
    fun g => (hrec.sets _ g).trans (hsets g).1, fun g => (hrec.sets _ g).trans (hsets g).2, ?_, fun j q hq hl => ?_⟩
  · have hheld := idHeld_eq_true.2 ⟨j, q, hq, hqr.trans hrec.id⟩
    rw [show (cardRecord role te re s).id = nextId s from rfl, idHeld_nextId] at hheld
    cases hheld
  · rw [hrec.id]
    exact hend.reply.trans hreply
  · rw [hrec.id]
    exact hend.counter
  · have hkj : k ≠ j := by
      rintro rfl
      rw [not_isLive_of_freeSlot hf hk hq] at hl
      cases hl
    obtain ⟨p, hp, hqp⟩ := hend.records j q ((slot_acceptedState ..).trans ((if_neg hkj).trans hq))
    exact ⟨p, hp, hqp.id⟩

end Sys2Proof.Machine
end

section
/-! PROOF. The power-on values of every block (R19, R57, R59, R73, R88, R106, R129, R150, R163, R171 to R174): what
the common part of both resets leaves, block by block. -/

namespace Sys2Proof.Machine

open Sys2Proof

/-- A search over the four places of an engine finds the first that passes. -/
theorem find?_finRange_eq_some (p : Fin 4 → Bool) (k : Fin 4) :
    (List.finRange 4).find? p = some k ↔ p k = true ∧ ∀ j, j < k → p j = false := by
  rw [List.find?_eq_some_iff_getElem]
  simp only [List.getElem_finRange, List.length_finRange]
  constructor
  · rintro ⟨hk, i, hi, rfl, hbefore⟩
    exact ⟨hk, fun j hj => by simpa using hbefore j.val hj⟩
  · rintro ⟨hk, hbefore⟩
    exact ⟨hk, k.val, k.isLt, rfl, fun j hj => by simpa using hbefore ⟨j, by omega⟩ hj⟩

section
variable (service carried : Bool) (straps : Straps) (level : Bool) (store : Store) (cause : Option LockoutCause)
  (pending : List Instr) (order : OpenOrders)

/-- The flash generator starts with the ON time of the loaded image, 5 ds without one (R88, R165). -/
theorem figure_flashOn_getD (active : Option Image) :
    figure (active.getD defaultImage) .flashOn =
      match active with | none => 5 | some img => figure img .flashOn := by
  cases active <;> rfl

theorem channel_afterReset (ch : ChannelId) :
    channel (afterReset service carried straps level store cause pending order) ch =
      channelAfterReset ((loadStore store).2.getD defaultImage) ch :=
  look_tabulate (channelAfterReset ((loadStore store).2.getD defaultImage)) ch

theorem showsPattern_afterReset :
    showsPattern (afterReset service carried straps level store cause pending order) =
      (modeAfterReset carried straps != .dark) := by
  have hmode : (afterReset service carried straps level store cause pending order).mode =
      modeAfterReset carried straps := rfl
  unfold showsPattern
  rw [hmode]
  unfold modeAfterReset
  cases carried with
  | true => rfl
  | false => cases straps.smode <;> rfl

/-- Every circuit carries the command of the table for a DARK group in the mode entered (R88). -/
theorem circuit_afterReset (g : GroupId) (which : Circuit) :
    circuit (lamp (afterReset service carried straps level store cause pending order) g) which =
      lampAfterReset ((loadStore store).2.getD defaultImage) (modeAfterReset carried straps != .dark) g which := by
  show circuit (look (tabulate _) g) which = _
  rw [look_tabulate]
  cases which <;> rfl

/-- A channel is enabled after a reset exactly where its function is not DISABLED (R106). -/
theorem placeEnabled_of_channels {t : State}
    (h : ∀ ch, channel t ch = resetChannel (if loopFn (loopCfg t ch) = .disabled then .disabled else .settling))
    (e : EngineId) (k : Fin 4) :
    placeEnabled t e k = true ↔ loopFn (loopCfg t (engineChannel e k)) ≠ .disabled := by
  unfold placeEnabled
  rw [h]
  by_cases hd : loopFn (loopCfg t (engineChannel e k)) = .disabled
  · simp [hd, resetChannel]
  · simp [hd, resetChannel]

theorem engine_afterReset (e : EngineId) :
    look (afterReset service carried straps level store cause pending order).engines e =
      firstPlace (afterReset service carried straps level store cause pending order) e := by
  show look (tabulate _) e = _
  rw [look_tabulate]
  rfl

/-- Either reset leaves every block at its reset values, with the straps, the level, the store, the cause, the
waiting commands and the free orders as given. -/
theorem freshPart_afterReset :
    FreshPart store (afterReset service carried straps level store cause pending order) where
  now := rfl
  groups := (freshGroups_afterReset _ _ _ _ _ _ _ _).records
  slots := slot_reset
  accepted := rfl
  trams := tram_reset
  stats := look_replicate _
  drops := rfl
  links r := look_replicate _ (roleIndex r)
  inputs := look_replicate _
  commit := rfl
  store := rfl
  active := rfl
  staging := rfl
  entered := rfl
  phase := rfl
  target := rfl
  supervision := rfl
  check := rfl
  flash := congrArg (FlashGen.mk true 0#32) (figure_flashOn_getD (loadStore store).2)
  lamps g which := by
    rw [circuit_afterReset, showsPattern_afterReset]
    rfl
  channels := channel_afterReset _ _ _ _ _ _ _ _
  engines e k := by
    have henabled := placeEnabled_of_channels (channel_afterReset service carried straps level store cause pending order) e
    rw [engine_afterReset, firstPlace, find?_finRange_eq_some, henabled]
    simp only [← Bool.not_eq_true, henabled, ne_eq, not_not]
  tracked := rfl
  receiver := ⟨rfl, rfl, rfl⟩
  heard := look_replicate _
  line := rfl
  beaconCounts := rfl

end

/-- Settles O3: the power-on reset is the common reset with the pins latched and no cause kept. -/
theorem powerOnResetValues : Obligations.PowerOnResetValues := fun pins s =>
  ⟨powerOn pins s, rfl, freshPart_afterReset _ _ _ _ _ _ _ _, rfl, rfl, rfl, rfl, rfl, rfl⟩

end Sys2Proof.Machine
end

section
/-! PROOF. The reads: how many entries a reply takes, the entries each read asks for, and the reply that reaches the
role's slot (R56, R104, R158). -/

namespace Sys2Proof.Machine

open Sys2Proof

/-! ### The entries that fit (R158) -/

theorem fitting_eq_take (room : Nat) (entries : List (List Byte)) :
    fitting room entries = entries.take (fitting room entries).length := by
  induction entries generalizing room with
  | nil => rfl
  | cons e rest ih =>
    by_cases hfits : e.length ≤ room
    · simp only [fitting, if_pos hfits, List.length_cons, List.take_succ_cons]
      rw [← ih]
    · simp [fitting, if_neg hfits]

theorem length_fitting_le (room : Nat) (entries : List (List Byte)) :
    (fitting room entries).length ≤ entries.length := by
  rw [fitting_eq_take]
  exact List.length_take_le' _ _

theorem length_flatten_fitting_le (room : Nat) (entries : List (List Byte)) :
    (fitting room entries).flatten.length ≤ room := by
  induction entries generalizing room with
  | nil => simp [fitting]
  | cons e rest ih =>
    by_cases hfits : e.length ≤ room
    · have hrest := ih (room - e.length)
      simp only [fitting, if_pos hfits, List.flatten_cons, List.length_append]
      omega
    · simp [fitting, if_neg hfits]

/-- The first entry left out does not fit behind those taken. -/
theorem lt_length_of_left_out (room : Nat) (entries : List (List Byte))
    (hleft : (fitting room entries).length < entries.length) :
    room < (entries.take ((fitting room entries).length + 1)).flatten.length := by
  induction entries generalizing room with
  | nil => simp at hleft
  | cons e rest ih =>
    by_cases hfits : e.length ≤ room
    · simp only [fitting, if_pos hfits, List.length_cons, Nat.add_lt_add_iff_right] at hleft ⊢
      have hrest := ih (room - e.length) hleft
      simp only [List.take_succ_cons, List.flatten_cons, List.length_append] at hrest ⊢
      omega
    · simpa [fitting, if_neg hfits] using hfits

/-- A reply to a read holds the time, the number of its entries, and the longest run of entries that fits. -/
theorem readReplyOf_fits (s : State) (entries : List (List Byte)) :
    ∃ m, m ≤ entries.length ∧
      (readReplyOf s entries).data = bytes32 s.now ++ [byte m] ++ (entries.take m).flatten ∧
      (readReplyOf s entries).data.length ≤ 64 ∧
      (m < entries.length → 64 < 5 + ((entries.take (m + 1)).flatten).length) := by
  have hdata : (readReplyOf s entries).data =
      bytes32 s.now ++ [byte (fitting 59 entries).length] ++ (fitting 59 entries).flatten := rfl
  refine ⟨(fitting 59 entries).length, length_fitting_le _ _, ?_, ?_, fun hleft => ?_⟩
  · rw [← fitting_eq_take]
    exact hdata
  · have hroom := length_flatten_fitting_le 59 entries
    simp only [hdata, List.length_append, bytes32, List.length_cons, List.length_nil]
    omega
  · have hover := lt_length_of_left_out 59 entries hleft
    omega

/-! ### The range of a read (R158) -/

theorem readRange_of_within {base size : Nat} {first count : Byte} (hlow : base ≤ first.toNat)
    (hhigh : first.toNat < base + size) (hcount : count.toNat ≠ 0) :
    readRange base size [first, count] = some (first.toNat - base, count.toNat) :=
  if_pos ⟨hlow, hhigh, hcount⟩

theorem readRange_of_zero (base size : Nat) (first : Byte) : readRange base size [first, 0#8] = none :=
  if_neg fun h => h.2.2 rfl

theorem count_of_readRange {base size f c : Nat} {first count : Byte}
    (h : readRange base size [first, count] = some (f, c)) : c = count.toNat := by
  simp only [readRange, Option.ite_none_right_eq_some, Option.some.injEq, Prod.mk.injEq] at h
  exact h.2.2.symm

/-- An index below eight is its own first index (R158). -/
theorem readRange_byte (k : Fin 8) {count : Byte} (hcount : count.toNat ≠ 0) :
    readRange 0 8 [byte k.val, count] = some (k.val, count.toNat) := by
  have hk : (byte k.val).toNat = k.val := by
    simp only [byte, BitVec.toNat_ofNat]
    omega
  rw [readRange_of_within (Nat.zero_le _) (by omega) hcount, hk, Nat.sub_zero]

theorem toNat_ne_zero_of_ne {count : Byte} (h : count ≠ 0#8) : count.toNat ≠ 0 :=
  fun h0 => h (BitVec.eq_of_toNat_eq h0)

/-! ### What each read asks for -/

theorem readGroupsOwner_full (g : GroupId) (s : State) :
    readGroupsOwner [groupByte g] s = answerRead s [fullGroup s g] := by
  simp only [readGroupsOwner, groupOfNat_groupByte]

theorem readGroupsOwner_compact (g : GroupId) {count : Byte} (hlow : 1 ≤ count.toNat) (hhigh : count.toNat ≤ 7)
    (s : State) :
    readGroupsOwner [groupByte g, count] s =
      answerRead s (((allGroups.drop g.val).take count.toNat).map (compactGroup s)) := by
  simp only [readGroupsOwner, groupOfNat_groupByte]
  exact if_pos ⟨hlow, hhigh⟩

theorem readTransitionsOwner_slots (k : SlotId) {count : Byte} (hlow : 1 ≤ count.toNat) (hhigh : count.toNat ≤ 8)
    (s : State) :
    readTransitionsOwner [byte k.val, count] s =
      answerRead s (((allSlots.drop k.val).take count.toNat).map (slotEntry s)) := by
  have hcount : count.toNat ≠ 0 := by omega
  simp only [readTransitionsOwner, readRange_byte k hcount]
  exact if_pos hhigh

/-- A count of none or of more than the eight slots is refused, whatever the first slot (R158). -/
theorem readTransitionsOwner_of_bad_count (first : Byte) {count : Byte} (h : count = 0#8 ∨ 8 < count.toNat)
    (s : State) : readTransitionsOwner [first, count] s = (s, plain .refusedParam) := by
  obtain rfl | hmany := h
  · simp only [readTransitionsOwner, readRange_of_zero]
  · unfold readTransitionsOwner
    split
    next f c hrange =>
      have hc := count_of_readRange hrange
      exact if_neg (by omega)
    next => rfl

theorem readLoopsOwner_items {first count : Byte} (hlow : 1 ≤ first.toNat) (hhigh : first.toNat ≤ 32)
    (hcount : count ≠ 0#8) (s : State) :
    readLoopsOwner [first, count] s = answerRead s (((loopItems s).drop (first.toNat - 1)).take count.toNat) := by
  have hrange := readRange_of_within (size := 32) hlow (by omega) (toNat_ne_zero_of_ne hcount)
  simp only [readLoopsOwner, hrange]

theorem readTramsOwner_entries (k : EntryId) {count : Byte} (hcount : count ≠ 0#8) (s : State) :
    readTramsOwner [byte k.val, count] s =
      answerRead s (((allEntries.drop k.val).take count.toNat).map (tramEntryBytes s)) := by
  have hrange := readRange_byte k (toNat_ne_zero_of_ne hcount)
  simp only [readTramsOwner, hrange]
  exact if_neg nofun

theorem readCountsOwner_counters {block : Byte} {s : State} {cs : List Counter} (h : countersOf s block = some cs) :
    readCountsOwner [block] s = answerRead s (cs.map bytes16) := by
  simp only [readCountsOwner, h]

/-! ### The role seen on the way to its owner -/

/-- The request that asks for the counters leaves them as they were (R154, R161). -/
theorem countersOf_setSeen (role : Role) (s : State) (block : Byte) :
    countersOf (setSeen role s) block = countersOf s block := by
  have hcounts : ∀ r, (link (setSeen role s) r).counts = (link s r).counts := fun r => by
    simp only [setSeen, link_modLink]
    split
    next hr => rw [← hr]
    next => rfl
  simp only [countersOf, hcounts]
  rfl

/-- An owner that answers a read of the state it is given puts the read's reply in the role's slot. -/
theorem read_replied {role : Role} {params : List Byte} {owner : State → State × Reply} {s : State}
    (entries : List (List Byte)) (h : Answerable role params s)
    (ho : owner (setSeen role s) = answerRead (setSeen role s) entries) :
    Replied role (readReplyOf s entries) s (takeRequest role true params owner s) :=
  takeRequest_replied role params owner (readReplyOf s entries) s s h ho h.work

/-- Settles O40: each read's owner names its entries, and `readReplyOf` takes the longest run of them that fits. -/
theorem readsAnswerWhatFits : Obligations.ReadsAnswerWhatFits := by
  refine ⟨?_, readReplyOf_fits⟩
  intro role s answered
  refine ⟨fun h => ⟨?junction, ?beacon⟩, fun first count h => ?_⟩
  case junction => exact ⟨_, rfl, read_replied [junctionEntry s] h rfl⟩
  case beacon => exact ⟨_, rfl, read_replied [beaconEntry s] h rfl⟩
  have hone : Answerable role [first] s := ⟨by simp, h.slot, h.work⟩
  refine ⟨?full, ?compact, ?slots, ?refused, ?loops, ?trams, ?counts⟩
  case full =>
    rintro g rfl
    exact ⟨_, rfl, read_replied [fullGroup s g] hone (readGroupsOwner_full g _)⟩
  case compact =>
    rintro g rfl hlow hhigh
    exact ⟨_, rfl, read_replied _ h (readGroupsOwner_compact g hlow hhigh _)⟩
  case slots =>
    rintro k rfl hlow hhigh
    exact ⟨_, rfl, read_replied _ h (readTransitionsOwner_slots k hlow hhigh _)⟩
  case refused =>
    intro hcount
    exact ⟨_, rfl, takeRequest_replied _ _ _ _ s s h (readTransitionsOwner_of_bad_count first hcount _) h.work⟩
  case loops =>
    intro hlow hhigh hcount
    exact ⟨_, rfl, read_replied _ h (readLoopsOwner_items hlow hhigh hcount _)⟩
  case trams =>
    rintro k rfl hcount
    exact ⟨_, rfl, read_replied _ h (readTramsOwner_entries k hcount _)⟩
  case counts =>
    intro cs hcs
    rw [← countersOf_setSeen role] at hcs
    exact ⟨_, rfl, read_replied _ hone (readCountsOwner_counters hcs)⟩

end Sys2Proof.Machine
end

section
/-! SUPPORT. What the detectors, the beacon receiver, the check-ins and a configuration apply can do, said once on top of
`BlocksKeep`: a property that their primitive updates keep is kept by every operation of theirs. -/

namespace Sys2Proof.Machine

open Sys2Proof

/-- The primitive updates of the four blocks, of the detectors, of the beacon receiver and of lamp drive keep a
property. -/
structure PartKeeps (P : State → Prop) : Prop extends BlocksKeep P where
  /-- The lamps of a group change. -/
  lamps : ∀ g f s, P s → P (modLamps g f s)
  /-- A channel record changes. -/
  channel : ∀ ch f s, P s → P (modChannel ch f s)
  /-- An engine begins on a place or becomes idle. -/
  engine : ∀ e k s, P s → P (setEngine e k s)
  /-- An input record changes. -/
  input : ∀ i f s, P s → P (modInput i f s)
  /-- The beacon receiver changes. -/
  beacon : ∀ b s, P s → P { s with beacon := b }
  /-- A tram record is written. -/
  enlist : ∀ k r s, P s → P { s with trams := put s.trams k (some r) }
  /-- A drop of the tram priority engine is counted. -/
  drops : ∀ d s, P s → P { s with tramDrops := d }

namespace PartKeeps

variable {P : State → Prop} (H : PartKeeps P) {s : State}

include H

/-! ### Demand logic and detectors -/

theorem occupy (src : DemandSource) (g : GroupId) (hs : P s) : P (Machine.occupy src g s) :=
  iteInduction (motive := P) (fun _ => H.group g _ s (fun _ => rfl) hs) (fun _ => hs)

theorem takeFaultEntry (ch : ChannelId) (g : GroupId) (hs : P s) : P (Machine.takeFaultEntry ch g s) :=
  iteInduction (motive := P) (fun _ => H.group g _ s (fun _ => rfl) hs) (fun _ => hs)

theorem takeFaultLeft (g : GroupId) (hs : P s) : P (Machine.takeFaultLeft g s) := H.group g _ s (fun _ => rfl) hs

theorem loopCheckOut (a : ApproachId) (hs : P s) : P (Machine.loopCheckOut a s) := by
  unfold Machine.loopCheckOut
  split
  · exact H.drops _ s hs
  · split
    · exact H.checkOut _ _ hs
    · exact hs

theorem handOccupancy (c : LoopCfg) (ch : ChannelId) (old new : ChState) (hs : P s) :
    P (Machine.handOccupancy c ch old new s) := by
  unfold Machine.handOccupancy
  split
  · next g hg =>
    have h1 : P _ := iteInduction (c := new = .occupied ∧ old ≠ .occupied) (motive := P)
      (fun _ => H.occupy (.loop ch) g hs) (fun _ => hs)
    have h2 : P _ := iteInduction (c := new = .fault ∧ old ≠ .fault) (motive := P)
      (fun _ => H.takeFaultEntry ch g h1) (fun _ => h1)
    exact iteInduction (motive := P) (fun _ => H.takeFaultLeft g h2) (fun _ => h2)
  · exact iteInduction (motive := P) (fun _ => H.loopCheckOut _ hs) (fun _ => hs)
  · exact hs

theorem updateGapOf (fed : Option GroupId) (hs : P s) : P (Machine.updateGapOf fed s) := by
  unfold Machine.updateGapOf
  split
  · exact H.updateGap _ hs
  · exact hs

theorem handChannel (c : LoopCfg) (ch : ChannelId) (old new : ChState) (hs : P s) :
    P (Machine.handChannel c ch old new s) := H.updateGapOf _ (H.handOccupancy c ch old new hs)

theorem afterChannel (ch : ChannelId) (old : ChState) (hs : P s) : P (Machine.afterChannel ch old s) := by
  have h1 : P _ := iteInduction (c := ((Machine.channel s ch).state = .fault) ≠ (old = .fault)) (motive := P)
    (fun _ => H.raiseFor .detector [.plan, .service] hs) (fun _ => hs)
  exact iteInduction (motive := P) (fun _ => h1) (fun _ => H.handChannel _ ch old _ h1)

theorem completeMeasurement (e : EngineId) (m : LoopCfg → Measured) (hs : P s) :
    P (Machine.completeMeasurement e m s) := by
  unfold Machine.completeMeasurement
  split
  · exact hs
  · exact H.afterChannel _ _ (H.engine e _ _ (H.channel _ _ s hs))

theorem expirePresence (ch : ChannelId) (hs : P s) : P (Machine.expirePresence ch s) :=
  H.handChannel _ ch _ _ (H.raiseFor .detector [.plan, .service] (H.channel ch _ s hs))

theorem changeDebounced (i : InputId) (hs : P s) : P (Machine.changeDebounced i s) := by
  have h1 : P (modInput i changeInput s) := H.input i _ s hs
  unfold Machine.changeDebounced
  refine iteInduction (motive := P) (fun _ => H.updateGapOf _ h1) (fun _ => ?_)
  unfold handActivation
  split
  · exact H.updateGap _ (H.occupy _ _ h1)
  · exact H.loopCheckOut _ h1
  · exact h1

/-! ### Check-ins and telegrams -/

theorem takeCheckIn (c : CheckIn) (hs : P s) : P (Machine.takeCheckIn c s).1 := by
  unfold Machine.takeCheckIn
  split
  · exact hs
  · split
    · split
      · exact H.updateTram _ _ c _ hs
      · exact hs
    · split
      · exact H.evaluate _ _ (H.enlist _ _ s hs)
      · exact hs

theorem handMessage (a : ApproachId) (m : Message) (hs : P s) : P (Machine.handMessage a m s) := by
  cases m with
  | checkIn c =>
    have h1 := H.takeCheckIn c hs
    show P (beaconCheckIn c s)
    unfold beaconCheckIn
    split
    · next hc => rw [hc] at h1; exact h1
    · next hc => rw [hc] at h1; exact H.drops _ _ h1
    · next hc => rw [hc] at h1; exact H.raiseFor _ _ (H.drops _ _ h1)
  | checkOut number =>
    show P (beaconCheckOut number a s)
    unfold beaconCheckOut
    split
    · exact H.drops _ s hs
    · split
      · exact H.checkOut _ _ hs
      · exact hs
  | cancel number =>
    show P (beaconCancel number a s)
    unfold beaconCancel
    split
    · exact H.drops _ s hs
    · split
      · exact H.removeTram _ _ hs
      · exact hs
  | status => exact hs

theorem takeTelegram (telegram : List Byte) (hs : P s) : P (Machine.takeTelegram telegram s) := by
  unfold Machine.takeTelegram
  refine iteInduction (motive := P) (fun _ => ?_) (fun _ => H.beacon _ s hs)
  split
  · exact H.handMessage _ _ (H.beacon _ s hs)
  · exact H.beacon _ s hs

theorem takeCompleted (b : Byte) (hs : P s) : P (Machine.takeCompleted b s) := by
  unfold Machine.takeCompleted
  dsimp only
  split
  · exact H.takeTelegram _ (H.beacon _ s hs)
  · exact H.beacon _ s hs

/-! ### Configuration apply, after the signal group table (R169) -/

theorem refreshLamps (g : GroupId) (hs : P s) : P (Machine.refreshLamps g s) := by
  unfold Machine.refreshLamps
  exact H.lamps g _ s hs

theorem refreshAllLamps (hs : P s) : P (Machine.refreshAllLamps s) :=
  forEach_keeps P _ _ (fun g _ _ ht => H.refreshLamps g ht) s hs

theorem applyLampsAll (hs : P s) : P (Machine.applyLampsAll s) :=
  H.refreshAllLamps (forEach_keeps P _ _ (fun g _ t ht => H.lamps g _ t ht) s hs)

theorem applyEngine (old : Image) (e : EngineId) (hs : P s) : P (Machine.applyEngine old e s) := by
  unfold Machine.applyEngine
  split
  · exact H.engine e _ s hs
  · exact iteInduction (motive := P) (fun _ => H.engine e _ s hs) (fun _ => hs)

theorem applyLoops (old : Image) (hs : P s) : P (Machine.applyLoops old s) := by
  unfold Machine.applyLoops
  refine forEach_keeps P _ _ (fun e _ _ ht => H.applyEngine old e ht) _ ?_
  refine forEach_keeps P _ _ (fun ch _ _ ht => H.handOccupancy _ ch _ _ ht) _ ?_
  exact forEach_keeps P _ _ (fun ch _ t ht => H.channel ch _ t ht) s hs

theorem applyInputs (old : Image) (hs : P s) : P (Machine.applyInputs old s) :=
  forEach_keeps P _ _ (fun i _ t ht => H.input i _ t ht) s hs

theorem applyGaps (hs : P s) : P (Machine.applyGaps s) := forEach_keeps P _ _ (fun g _ _ ht => H.updateGap g ht) s hs

theorem applyBeacon (old : Image) (hs : P s) : P (Machine.applyBeacon old s) :=
  iteInduction (motive := P) (fun _ => hs) (fun _ => H.beacon _ s hs)

/-- What holds once the signal group table has taken an apply holds after the whole of it. -/
theorem applyImage (hs : P (forEach allGroups (applyGroup (cfg s)) { s with active := some s.staging, commit := .storing })) :
    P (Machine.applyImage s) :=
  H.emit _ (H.applyTrams _ (H.applyBeacon _ (H.applyGaps (H.applyInputs _ (H.applyLoops _
    (H.retestAll (H.applyLampsAll hs)))))))

end PartKeeps

end Sys2Proof.Machine
end

section
/-! SUPPORT. What a command can do to the junction mode, to the active and the staging image, to the commit, to the
CLEAR_LOCKOUT check and to whether SERVICE's slot is PENDING: every command but a reset and a passed check goes by the
moves of `Control.Move` (R60 to R71, R154, R166 to R170). -/

namespace Sys2Proof.Machine

open Sys2Proof

/-! ### The control of the junction -/

/-- The mode, the images, the commit, the CLEAR_LOCKOUT check, and whether SERVICE's slot is PENDING. -/
structure Control where
  mode : Mode
  active : Option Image
  staging : Image
  commit : CommitState
  check : Option LockoutCheck
  pending : Bool

/-- The control that a state holds. -/
def control (s : State) : Control where
  mode := s.mode
  active := s.active
  staging := s.staging
  commit := s.commit
  check := s.lockoutCheck
  pending := (link s .service).slot == .pending

/-- What one operation of a block, or one reply, can do to the control. -/
inductive Control.Move : Control → Control → Prop
  /-- START is entered from DARK or FLASH with an active image (R61). -/
  | start {c : Control} (hm : c.mode = .dark ∨ c.mode = .flash) (ha : c.active.isSome = true) :
      Move c { c with mode := .start }
  /-- DARK or FLASH is entered from a mode other than LOCKOUT (R63, R65). -/
  | rest {c : Control} (target : ClearTarget) (hm : c.mode ≠ .lockout) : Move c { c with mode := targetMode target }
  /-- NORMAL is entered from START (R62). -/
  | normal {c : Control} (hm : c.mode = .start) : Move c { c with mode := .normal }
  /-- CLEARING is entered from NORMAL (R64). -/
  | clearing {c : Control} (hm : c.mode = .normal) : Move c { c with mode := .clearing }
  /-- LOCKOUT is entered (R69). -/
  | lockout {c : Control} : Move c { c with mode := .lockout }
  /-- A waiting commit is applied (R169). -/
  | apply {c : Control} (hc : c.commit = .waitingApply) : Move c { c with active := some c.staging, commit := .storing }
  /-- The staging image is written while SERVICE's slot is not PENDING (R166). -/
  | stage {c : Control} (img : Image) (hp : c.pending = false) : Move c { c with staging := img }
  /-- A commit begins to wait for its apply, and SERVICE's slot becomes PENDING (R167, R168). -/
  | wait {c : Control} (hp : c.pending = false) (hv : validate c.staging = none) :
      Move c { c with commit := .waitingApply, pending := true }
  /-- A CLEAR_LOCKOUT check begins, and SERVICE's slot becomes PENDING (R71). -/
  | check {c : Control} (k : LockoutCheck) (hp : c.pending = false) : Move c { c with check := some k, pending := true }
  /-- A CLEAR_LOCKOUT check takes a sample (R71). -/
  | count {c : Control} (k : LockoutCheck) (hk : c.check.isSome = true) : Move c { c with check := some k }
  /-- A CLEAR_LOCKOUT check fails, and SERVICE is answered (R84). -/
  | fail {c : Control} (hk : c.check.isSome = true) : Move c { c with check := none, pending := false }
  /-- A store write ends, and SERVICE is answered (R170). -/
  | stored {c : Control} (hc : c.commit = .storing) : Move c { c with commit := .idle, pending := false }
  /-- A reply is written over SERVICE's slot when it is not PENDING (R154). -/
  | answered {c : Control} (p : Bool) (hp : c.pending = false) : Move c { c with pending := p }

/-- Any number of moves. -/
def Control.Moves : Control → Control → Prop := Relation.ReflTransGen Control.Move

theorem Control.Moves.refl (c : Control) : Moves c c := Relation.ReflTransGen.refl

theorem Control.Moves.move {a b c : Control} (h : Moves a b) (h' : Move b c) : Moves a c :=
  Relation.ReflTransGen.tail h h'

theorem Control.Moves.of_eq {a b c : Control} (h : Moves a b) (h' : c = b) : Moves a c := h' ▸ h

/-- No move. -/
theorem Control.Moves.of_same {a b : Control} (h : b = a) : Moves a b := h ▸ .refl b

/-- What every move keeps, any number of them keeps. -/
theorem Control.Moves.keeps {Q : Control → Prop} (hq : ∀ a b, Move a b → Q a → Q b) {a b : Control} (h : Moves a b)
    (ha : Q a) : Q b := by
  induction h with
  | refl => exact ha
  | tail _ hmove ih => exact hq _ _ hmove ih

/-! ### Operations that leave the control alone -/

section
variable (s : State)

/-- Groups, lamps, hand-offs and the free order have no part in the control. -/
theorem control_withGroups (g : Vector GroupRec 24) (l : Vector Lamps 24) (w : List Handoff) (o : OpenOrders) :
    control { s with groups := g, lamps := l, work := w, order := o } = control s := rfl

/-- The link has a part in the control by SERVICE's slot alone. -/
theorem control_modLink (r : Role) (f : LinkRec → LinkRec) (hf : ∀ l, (f l).slot = l.slot) :
    control (modLink r f s) = control s := by
  have hslot : (link (modLink r f s) .service).slot = (link s .service).slot := by
    rw [link_modLink]
    split
    · next hr => rw [hf, hr]
    · rfl
  unfold control
  rw [hslot]
  rfl

theorem control_raise (n : Notice) (r : Role) : control (raise n r s) = control s :=
  iteInduction (motive := fun t => control t = control s) (fun _ => control_modLink s r _ fun _ => rfl) (fun _ => rfl)

/-- What is true of the control, the blocks, the detectors and the receiver leave true. -/
theorem controlKeeps (Q : Control → Prop) : PartKeeps (fun s => Q (control s)) where
  work _ _ h := h
  order _ _ h := h
  raise n r s h := by rw [control_raise]; exact h
  group _ _ _ _ h := h
  enter _ _ _ _ h := h
  record _ _ _ _ h := h
  finish _ _ _ _ _ _ _ h := h
  post _ _ _ _ _ _ h := h
  tram _ _ _ _ h := h
  gone _ _ h := h
  stats _ _ _ h := h
  lamps _ _ _ h := h
  channel _ _ _ h := h
  engine _ _ _ h := h
  input _ _ _ h := h
  beacon _ _ h := h
  enlist _ _ _ h := h
  drops _ _ h := h

theorem control_raiseAll (n : Notice) : control (raiseAll n s) = control s :=
  (controlKeeps (· = control s)).raiseAll n rfl

theorem control_enterState (g : GroupId) (st : GState) : control (enterState g st s) = control s := by
  rw [enterState_frame]
  exact control_withGroups s _ _ _ _

theorem control_forceAll (f : GroupRec → GroupRec) (st : GState) :
    control (forEach allGroups (forceGroup f st) s) = control s := by
  rw [forceAll_frame]
  exact control_withGroups s _ _ _ _

@[simp] theorem control_modGroup (g : GroupId) (f : GroupRec → GroupRec) : control (modGroup g f s) = control s := rfl

@[simp] theorem control_modLamps (g : GroupId) (f : Lamps → Lamps) : control (modLamps g f s) = control s := rfl

@[simp] theorem control_modChannel (ch : ChannelId) (f : ChannelRec → ChannelRec) :
    control (modChannel ch f s) = control s := rfl

@[simp] theorem control_modInput (i : InputId) (f : InputRec → InputRec) : control (modInput i f s) = control s := rfl

@[simp] theorem control_modBeacon (f : BeaconRec → BeaconRec) : control (modBeacon f s) = control s := rfl

@[simp] theorem control_emit (x : Handoff) : control (emit x s) = control s := rfl

@[simp] theorem control_handOn (f : Neighbour → Option Handoff) : control (handOn f s) = control s := rfl

theorem control_takeTerminate (g : GroupId) : control (takeTerminate g s) = control s :=
  (controlKeeps (· = control s)).takeTerminate g rfl

theorem control_junctionTerminate (g : GroupId) : control (junctionTerminate g s) = control s :=
  iteInduction (motive := fun t => control t = control s) (fun _ => control_takeTerminate _ g) (fun _ => rfl)

theorem control_refreshAllLamps : control (refreshAllLamps s) = control s :=
  (controlKeeps (· = control s)).refreshAllLamps rfl

/-! ### Mode changes (R60 to R69) -/

theorem control_enterMode (m : Mode) : control (enterMode m s) = { control s with mode := m } := by
  unfold enterMode
  rw [control_refreshAllLamps, control_raiseAll]
  rfl

theorem control_enterStart : control (enterStart s) = { control s with mode := .start } := by
  unfold enterStart
  rw [control_emit, control_enterMode]
  rfl

theorem control_enterResting (m : Mode) : control (enterResting m s) = { control s with mode := m } := by
  unfold enterResting forceAllDark
  rw [forceDark_eq, control_emit, control_forceAll, control_enterMode]
  rfl

theorem control_enterClearing (target : ClearTarget) :
    control (enterClearing target s) = { control s with mode := .clearing } := by
  have h1 := control_enterMode { s with clearTarget := some target, supervision := none } .clearing
  have h2 := (controlKeeps (· = { control s with mode := .clearing })).cancelAll .mode h1
  unfold enterClearing
  rw [control_handOn]
  generalize cancelAll .mode _ = t at h2 ⊢
  exact (forEach_frame control allGroups junctionTerminate (fun g _ t => control_junctionTerminate t g) t).trans h2

theorem control_enterNormal : control (enterNormal s) = { control s with mode := .normal } := by
  unfold enterNormal
  rw [forceRed_eq, control_handOn, control_forceAll, control_enterMode]
  rfl

theorem control_enterRedPhase : control (enterRedPhase s) = control s := by
  unfold enterRedPhase
  rw [forceRedMin_eq, control_refreshAllLamps, control_forceAll]
  rfl

theorem control_enterLockout (g : GroupId) (which : Circuit) :
    control (enterLockout g which s) = { control s with mode := .lockout } := by
  unfold enterLockout
  split
  · next hm =>
    show _ = ({ mode := .lockout, .. } : Control)
    rw [← hm]
    rfl
  · dsimp only
    rw [control_handOn, control_refreshAllLamps, control_raiseAll, control_raiseAll, forceAllDark, forceDark_eq,
      control_forceAll]
    exact (controlKeeps (· = { control s with mode := .lockout })).cancelAll .mode rfl

end

/-! ### Settling -/

variable {c : Control} {s : State}

/-- A waiting commit is applied when it may be (R168). -/
theorem moves_examineCommit (h : Control.Moves c (control s)) : Control.Moves c (control (examineCommit s)) := by
  refine iteInduction (motive := fun t => Control.Moves c (control t)) (fun hc => ?_) (fun _ => h)
  refine (controlKeeps (Control.Moves c)).applyImage ?_
  rw [applyGroups_frame, control_withGroups]
  exact h.move (.apply hc.1)

theorem moves_examineClearing (h : Control.Moves c (control s)) : Control.Moves c (control (examineClearing s)) := by
  refine iteInduction (motive := fun t => Control.Moves c (control t)) (fun hc => ?_) (fun _ => h)
  rw [control_enterResting]
  refine h.move (.rest _ ?_)
  show s.mode ≠ .lockout
  rw [hc.1]
  decide

theorem moves_examineLost (h : Control.Moves c (control s)) : Control.Moves c (control (examineLost s)) := by
  refine iteInduction (motive := fun t => Control.Moves c (control t)) (fun hc => ?_) (fun _ => h)
  rw [control_enterClearing]
  exact h.move (.clearing hc.1)

theorem moves_settled (h : Control.Moves c (control s)) : Control.Moves c (control (settled s)) :=
  (controlKeeps (Control.Moves c)).settled (fun _ h => moves_examineCommit h) (fun _ h => moves_examineClearing h)
    (fun _ h => moves_examineLost h) s h

/-! ### The link (R152, R154, R155) -/

/-- A reply that is discarded was no PENDING request (R154). -/
theorem control_discardReply (r : Role) (s : State) : control (discardReply r s) = control s := by
  unfold discardReply dropNotice
  cases hl : (link s r).slot with
  | empty => rfl
  | pending => rfl
  | ready reply p =>
    have hslot : ∀ u : State, link u r = { link s r with notices := (link u r).notices } →
        (∀ r', r ≠ r' → link u r' = link s r') →
        ((link (modLink r (fun l => { l with slot := .empty }) u) .service).slot == .pending) =
          ((link s .service).slot == .pending) := by
      intro u hu hu'
      rw [link_modLink]
      by_cases hr : r = .service
      · rw [if_pos hr, ← hr, hl]
        rfl
      · rw [if_neg hr, hu' _ hr]
    dsimp only
    unfold control
    rw [hslot]
    · cases p <;> rfl
    · cases p <;> simp
    · intro r' hr'
      cases p <;> simp [hr']

theorem control_countUnread (r : Role) (s : State) : control (countUnread r s) = control s := by
  unfold countUnread countError
  split
  · exact control_modLink s r _ fun _ => rfl
  · rfl

/-- A reply decides whether the slot it is written into is PENDING (R154). -/
theorem control_answer (r : Role) (reply : Reply) (s : State) :
    control (answer r reply s) =
      { control s with pending := if r = .service then reply.code == .pending else (control s).pending } := by
  have h := (control_discardReply r (countUnread r s)).trans (control_countUnread r s)
  unfold answer
  generalize discardReply r (countUnread r s) = u at h ⊢
  rw [← h]
  unfold control
  rw [link_modLink]
  by_cases hr : r = .service
  · simp only [if_pos hr, slotOf]
    by_cases hc : reply.code = .pending <;> simp [hc]
  · simp only [if_neg hr]
    rfl

/-- A reply over a slot that is not PENDING. -/
theorem moves_answer {r : Role} {reply : Reply} (h : Control.Moves c (control s))
    (hp : r = .service → (control s).pending = false) : Control.Moves c (control (answer r reply s)) := by
  rw [control_answer]
  by_cases hr : r = .service
  · rw [if_pos hr]
    exact h.move (.answered _ (hp hr))
  · rw [if_neg hr]
    exact h

theorem control_superviseRestart (role : Role) (code : ReplyCode) (s : State) :
    control (superviseRestart role code s) = control s :=
  iteInduction (motive := fun t => control t = control s) (fun _ => rfl) (fun _ => rfl)

theorem control_setSeen (r : Role) (s : State) : control (setSeen r s) = control s :=
  control_modLink s r _ fun _ => rfl

theorem control_countError (r : Role) (f : LinkCounts → LinkCounts) (s : State) :
    control (countError r f s) = control s := control_modLink s r _ fun _ => rfl

/-- An owner's effect and its reply go by moves when the role's slot is not PENDING. -/
def OwnerMoves (role : Role) (owner : State → State × Reply) : Prop :=
  ∀ s, (role = .service → (control s).pending = false) →
    Control.Moves (control s) (control (answer role (owner s).2 (owner s).1))

/-- A request whose owner goes by moves does (R152, R154, R157). -/
theorem moves_takeRequest {role : Role} {granted : Bool} {owner : State → State × Reply}
    (ho : granted = true → OwnerMoves role owner) (params : List Byte) (s : State) :
    Control.Moves (control s) (control (takeRequest role granted params owner s)) := by
  unfold takeRequest
  refine iteInduction (motive := fun t => Control.Moves (control s) (control t)) (fun _ => ?_) (fun _ => ?_)
  · exact Control.Moves.of_same (control_countError role _ s)
  have hseen := control_setSeen role s
  dsimp only
  generalize setSeen role s = u at hseen ⊢
  rw [← hseen]
  refine iteInduction (motive := fun t => Control.Moves (control u) (control t)) (fun _ => ?_) (fun hslot => ?_)
  · exact Control.Moves.of_same (control_countError role _ u)
  · have hp : role = .service → (control u).pending = false := by
      rintro rfl
      exact beq_false_of_ne hslot
    refine moves_settled ((?_ : Control.Moves _ _).of_eq (control_superviseRestart _ _ _))
    cases granted with
    | true => exact ho rfl u hp
    | false => exact moves_answer (.refl _) hp

/-- An owner that moves the control, and leaves SERVICE's slot alone. -/
theorem ownerMoves_of_moves {role : Role} {owner : State → State × Reply}
    (h : ∀ s, Control.Moves (control s) (control (owner s).1))
    (hp : ∀ s, (control (owner s).1).pending = (control s).pending) : OwnerMoves role owner := by
  intro s hs
  exact moves_answer (h s) fun hr => (hp s).trans (hs hr)

/-- An owner that leaves the control alone. -/
theorem ownerMoves_of_eq {role : Role} {owner : State → State × Reply}
    (h : ∀ s, control (owner s).1 = control s) : OwnerMoves role owner :=
  ownerMoves_of_moves (fun s => Control.Moves.of_same (h s)) fun s => by rw [h s]

/-- The same for a request without parameters. -/
theorem ownerMoves_noParams {role : Role} {owner : State → State × Reply} (h : OwnerMoves role owner)
    (params : List Byte) : OwnerMoves role (noParams params owner) := by
  intro s hs
  unfold noParams
  split
  · exact h s hs
  · exact moves_answer (.refl _) hs

/-- A request whose owner leaves the control alone. -/
theorem moves_takeRequest_of_eq {role : Role} {owner : State → State × Reply}
    (h : ∀ s, control (owner s).1 = control s) (granted : Bool) (params : List Byte) (s : State) :
    Control.Moves (control s) (control (takeRequest role granted params owner s)) :=
  moves_takeRequest (fun _ => ownerMoves_of_eq h) params s

/-- Reads leave the state as it is (R158). -/
theorem moves_takeRequest_of_read {role : Role} {owner : State → State × Reply} (h : ∀ s, (owner s).1 = s)
    (granted : Bool) (params : List Byte) (s : State) :
    Control.Moves (control s) (control (takeRequest role granted params owner s)) :=
  moves_takeRequest_of_eq (fun s => by rw [h]) granted params s

end Sys2Proof.Machine
end

section
/-! PROOF. The junction mode and the configuration along every step (R61, R70, R71, R168): every command goes by the
moves of `Control.Move`, but for the resets and a CLEAR_LOCKOUT check that passes. -/

namespace Sys2Proof.Machine

open Sys2Proof

variable {s t : State}

/-! ### Requests -/

theorem control_dropNotice (n : Notice) (role : Role) (s : State) : control (dropNotice n role s) = control s :=
  control_modLink s role (fun l => { l with notices := put l.notices (noticeIndex n) false }) fun _ => rfl

theorem control_noticePollOwner (role : Role) (s : State) : control (noticePollOwner role s).1 = control s := by
  unfold noticePollOwner
  split
  · rfl
  · exact control_dropNotice _ role s

theorem control_demandOwner (params : List Byte) (s : State) : control (demandOwner params s).1 = control s := by
  unfold demandOwner
  split
  · rfl
  · exact forEach_frame control _ _ (fun g _ u => control_modGroup u g _) s

theorem control_priorityInhibitOwner (params : List Byte) (s : State) :
    control (priorityInhibitOwner params s).1 = control s := by
  unfold priorityInhibitOwner
  split
  · rfl
  · refine forEach_frame control _ _ (fun g _ u => ?_) s
    exact iteInduction (motive := fun t => control t = control u) (fun _ => rfl) (fun _ => rfl)

theorem control_groupInhibitOwner (params : List Byte) (s : State) :
    control (groupInhibitOwner params s).1 = control s := by
  unfold groupInhibitOwner
  split
  · rfl
  · refine forEach_frame control _ _ (fun g _ u => ?_) s
    exact iteInduction (motive := fun t => control t = control u) (fun _ => rfl) (fun _ => rfl)

theorem control_clearLampFaultsOwner (params : List Byte) (s : State) :
    control (clearLampFaultsOwner params s).1 = control s := by
  unfold clearLampFaultsOwner
  split
  · rfl
  · refine forEach_frame control _ _ (fun g _ u => ?_) s
    exact iteInduction (motive := fun t => control t = control u) (fun _ => rfl) (fun _ => rfl)

theorem control_transitionOwner (role : Role) (params : List Byte) (s : State) :
    control (transitionOwner role params s).1 = control s := by
  unfold transitionOwner acceptTransition refuse
  repeat' split
  all_goals rfl

theorem control_cancelTransitionOwner (role : Role) (params : List Byte) (s : State) :
    control (cancelTransitionOwner role params s).1 = control s := by
  unfold cancelTransitionOwner
  split
  · split
    · rfl
    · split
      · exact (controlKeeps (· = control s)).cancelRecord _ _ rfl
      · rfl
  · rfl

theorem control_tramCheckInOwner (params : List Byte) (s : State) :
    control (tramCheckInOwner params s).1 = control s := by
  unfold tramCheckInOwner
  split
  · rfl
  · exact (controlKeeps (· = control s)).takeCheckIn _ rfl

theorem control_onTram {act : EntryId → TramRec → State → State} (h : ∀ k r s, control (act k r s) = control s)
    (params : List Byte) (s : State) : control (onTram act params s).1 = control s := by
  unfold onTram
  split
  · rfl
  · split
    · rfl
    · split
      · exact h _ _ s
      · rfl

/-- CLEAR_COUNTS discards a READY reply and sets counters (R162). -/
theorem control_clearCounts (role : Role) (s : State) : control (discardReply role (clearAllCounts s)) = control s := by
  have hslot : (link (clearAllCounts s) .service).slot = (link s .service).slot := by simp [link, clearAllCounts]
  rw [control_discardReply]
  unfold control
  rw [hslot]
  rfl

/-- MODE enters no mode that the table of R60 does not give, and leaves SERVICE's slot alone. -/
theorem moves_modeOwner (params : List Byte) (s : State) :
    Control.Moves (control s) (control (modeOwner params s).1) ∧
      (control (modeOwner params s).1).pending = (control s).pending := by
  have hsame : Control.Moves (control s) (control s) ∧ (control s).pending = (control s).pending := ⟨.refl _, rfl⟩
  have hstart : (s.mode = .dark ∨ s.mode = .flash) → s.active.isSome = true →
      Control.Moves (control s) (control (enterStart s)) ∧
        (control (enterStart s)).pending = (control s).pending := by
    intro hm ha
    rw [control_enterStart]
    exact ⟨(Control.Moves.refl _).move (.start hm ha), rfl⟩
  have hnormal : Control.Moves (control s) (control (wantNormal s).1) ∧
      (control (wantNormal s).1).pending = (control s).pending := by
    unfold wantNormal
    split
    · next hm =>
      split
      · next ha => exact hstart (.inl hm) ha
      · exact hsame
    · next hm =>
      split
      · next ha => exact hstart (.inr hm) ha
      · exact hsame
    all_goals exact hsame
  have hrest : ∀ target, s.mode ≠ .lockout →
      Control.Moves (control s) (control (enterResting (targetMode target) s)) ∧
        (control (enterResting (targetMode target) s)).pending = (control s).pending := by
    intro target hm
    rw [control_enterResting]
    exact ⟨(Control.Moves.refl _).move (.rest target hm), rfl⟩
  have hresting : ∀ target, Control.Moves (control s) (control (wantResting target s).1) ∧
      (control (wantResting target s).1).pending = (control s).pending := by
    intro target
    unfold wantResting
    split
    · exact hsame
    · exact hsame
    · next hm =>
      rw [control_enterClearing]
      exact ⟨(Control.Moves.refl _).move (.clearing hm), rfl⟩
    · next hm => exact hrest target (by rw [hm]; decide)
    · next hl _ _ _ =>
      split
      · exact hsame
      · exact hrest target hl
  unfold modeOwner
  split
  · split
    · exact hnormal
    · exact hresting .flash
    · exact hresting .dark
    · exact hsame
  · exact hsame

/-- WRITE_CONFIG writes the staging image, for SERVICE alone (R166). -/
theorem ownerMoves_writeConfig {role : Role} (hr : serviceOnly role = true) (params : List Byte) :
    OwnerMoves role (writeConfigOwner params) := by
  intro s hs
  have hp := hs (eq_of_beq hr)
  unfold writeConfigOwner
  split
  · exact moves_answer (.refl _) hs
  · exact moves_answer ((Control.Moves.refl _).move (.stage _ hp)) hs

theorem ownerMoves_discardStaging {role : Role} (hr : serviceOnly role = true) (params : List Byte) :
    OwnerMoves role (discardStagingOwner params) :=
  ownerMoves_noParams (fun _ hs => moves_answer ((Control.Moves.refl _).move (.stage _ (hs (eq_of_beq hr)))) hs) params

/-- COMMIT_CONFIG waits for the apply of a valid staging image, for SERVICE alone (R167, R168). -/
theorem ownerMoves_commitConfig {role : Role} (hr : serviceOnly role = true) (params : List Byte) :
    OwnerMoves role (commitConfigOwner params) := by
  refine ownerMoves_noParams (fun s hs => ?_) params
  split
  · exact moves_answer (.refl _) hs
  · next hv =>
    rw [control_answer, if_pos (eq_of_beq hr)]
    exact (Control.Moves.refl _).move (.wait (hs (eq_of_beq hr)) hv)

/-- CLEAR_LOCKOUT begins its check, for SERVICE alone (R71). -/
theorem ownerMoves_clearLockout {role : Role} (hr : serviceOnly role = true) (params : List Byte) :
    OwnerMoves role (clearLockoutOwner params) := by
  refine ownerMoves_noParams (fun s hs => ?_) params
  split
  · rw [control_answer, if_pos (eq_of_beq hr)]
    exact (Control.Moves.refl _).move (.check _ (hs (eq_of_beq hr)))
  · exact moves_answer (.refl _) hs

/-! ### Events -/

/-- SERVICE's PENDING request is completed (R154). -/
theorem control_completePending (reply : Reply) (s : State) :
    control (completePending .service reply s) = { control s with pending := false } := by
  unfold completePending
  rw [control_raise]
  unfold control
  rw [link_modLink]
  rfl

theorem control_sampleGroups (sense : BitVec 72) (s : State) :
    control (forEach allGroups (sampleGroup sense) s) = control s :=
  forEach_frame control allGroups (sampleGroup sense) (fun g _ u => control_modLamps u g _) s

theorem moves_sampleCheck (sense : BitVec 72) (s : State) :
    Control.Moves (control s) (control (sampleCheck sense s)) := by
  unfold sampleCheck
  split
  · exact .refl _
  · next k hk =>
    have hcheck : (control s).check.isSome = true := by
      show s.lockoutCheck.isSome = true
      rw [hk]
      rfl
    refine iteInduction (motive := fun t => Control.Moves (control s) (control t)) (fun _ => .refl _) (fun _ => ?_)
    refine iteInduction (motive := fun t => Control.Moves (control s) (control t)) (fun _ => ?_) (fun _ => ?_)
    · rw [control_completePending]
      exact (Control.Moves.refl _).move (.fail hcheck)
    · exact (Control.Moves.refl _).move (.count _ hcheck)

theorem control_changeFlashPhase (s : State) : control (changeFlashPhase s) = control s := by
  unfold changeFlashPhase
  exact (forEach_frame control _ _ (fun g _ u => control_modLamps u g _) _).trans rfl

theorem control_trackAll (s : State) : control (trackAll s) = control s := by
  unfold trackAll
  exact (forEach_frame control _ _ (fun ch _ u => control_modChannel u ch _) _).trans rfl

theorem control_handOnMismatch (g : GroupId) (which : Circuit) (s : State) :
    control (handOnMismatch g which s) = control s := control_modLamps s g _

theorem control_handOffMismatch (g : GroupId) (which : Circuit) (s : State) :
    control (handOffMismatch g which s) = control s := control_modLamps s g _

theorem control_markLost (g : GroupId) (s : State) : control (markLost g s) = control s := by
  refine iteInduction (motive := fun t => control t = control s) (fun _ => rfl) (fun _ => ?_)
  rw [control_handOn, control_raiseAll]
  exact (controlKeeps (· = control s)).raiseFor .lamp _ rfl

theorem control_latchLampOut (g : GroupId) (which : Circuit) (s : State) :
    control (latchLampOut g which s) = control s :=
  iteInduction (motive := fun t => control t = control s) (fun _ => rfl)
    (fun _ => (controlKeeps (· = control s)).raiseFor .lamp _ rfl)

theorem control_latchStuckOn (g : GroupId) (which : Circuit) (s : State) :
    control (latchStuckOn g which s) = control s :=
  iteInduction (motive := fun t => control t = control s) (fun _ => rfl)
    (fun _ => (controlKeeps (· = control s)).raiseFor .lamp _ rfl)

theorem control_enterRedMin (g : GroupId) (s : State) : control (enterRedMin g s) = control s :=
  (control_enterState _ _ _).trans (control_modGroup s g _)

theorem control_leaveGreenMin (g : GroupId) (s : State) : control (leaveGreenMin g s) = control s :=
  iteInduction (motive := fun t => control t = control s) (fun _ => control_enterState _ _ _)
    (fun _ => control_enterState _ _ _)

theorem control_beginPrepare (g : GroupId) (sch : Schedule) (s : State) :
    control (beginPrepare g sch s) = control s :=
  iteInduction (motive := fun t => control t = control s) (fun _ => control_enterState _ _ _)
    (fun _ => control_enterState _ _ _)

theorem control_dropFrame (bytes : List Byte) (s : State) : control (dropFrame bytes s) = control s := by
  unfold dropFrame countFormat
  split
  · rfl
  · split
    · rfl
    · split
      · rfl
      · exact control_countError _ _ s
      · exact control_countError _ _ s
      · rw [control_countError, control_setSeen]

theorem control_timedOutSeen (frame : TimedFrame) (r : Role) (s : State) :
    control (timedOutSeen frame r s) = control s := by
  unfold timedOutSeen
  split
  · exact control_setSeen r s
  · rfl
  · rfl

/-- A reply that is read was no PENDING request (R155). -/
theorem control_readReply (role : Role) (n : Nat) (s : State) : control (readReply role n s) = control s := by
  unfold readReply
  cases hl : (link s role).slot with
  | empty => rfl
  | pending => rfl
  | ready reply p =>
    refine iteInduction (motive := fun t => control t = control s) (fun _ => ?_) (fun _ => rfl)
    have hslot : ∀ line, control (modLink role (fun l => { l with slot := .empty }) { s with replyLine := line }) =
        control s := by
      intro line
      unfold control
      rw [link_modLink]
      by_cases hr : role = .service
      · have hs : (link s .service).slot = .ready reply p := hr ▸ hl
        rw [if_pos hr, hs]
        rfl
      · rw [if_neg hr]
        rfl
    cases p with
    | false => exact hslot _
    | true => exact (control_dropNotice .reply role _).trans (hslot _)

/-! ### Commands -/

/-- The command is neither a reset that is taken nor a CLEAR_LOCKOUT check that passes. -/
def Ordinary (c : Instr) (s : State) : Prop :=
  match c with
  | .powerOnReset _ => False
  | .restart role params => restartAccepted role params s = false
  | .clearLockoutCheckPasses => checkPassed s = false
  | _ => True

/-- What an event leaves alone or settles goes by moves. -/
theorem moves_of_settled {u : State} (h : control u = control s) : Control.Moves (control s) (control (settled u)) :=
  moves_settled ((Control.Moves.refl _).of_eq h)

/-- A conditional event goes by moves when its effect does. -/
theorem moves_event {p : Prop} [Decidable p] {u : State} (h : p → Control.Moves (control s) (control u)) :
    Control.Moves (control s) (control (if p then u else s)) :=
  iteInduction (motive := fun t => Control.Moves (control s) (control t)) h (fun _ => .refl _)

theorem moves_autostart (s : State) : Control.Moves (control s) (control (autostart s)) := by
  refine iteInduction (motive := fun t => Control.Moves (control s) (control t)) (fun hc => ?_) (fun _ => .refl _)
  simp only [canAutostart, Bool.and_eq_true, Bool.or_eq_true, beq_iff_eq] at hc
  obtain ⟨ha, hm⟩ := hc
  refine moves_settled ?_
  rw [control_enterStart]
  exact (Control.Moves.refl _).move (.start hm ha)

theorem moves_dropOne (g : GroupId) (stamp : Stamp) (s : State) :
    Control.Moves (control s) (control (dropOne g stamp s)) :=
  iteInduction (motive := fun t => Control.Moves (control s) (control t))
    (fun _ => moves_of_settled (control_takeTerminate _ g)) (fun _ => .refl _)

/-- A next state that `exec` names is reached by moves when the state it is built as is. -/
theorem moves_of_next {c : Control} {u : State} (h : Control.Moves c (control u))
    (he : (.next u : Host.Outcome State Fault Refusal) = .next t) : Control.Moves c (control t) := by
  cases he
  exact h

/-- Every ordinary command goes by moves. -/
theorem moves_exec (c : Instr) (hc : Ordinary c s) (he : exec c s = .next t) :
    Control.Moves (control s) (control t) := by
  have hkeep := controlKeeps (· = control s)
  cases c with
  | powerOnReset pins => exact hc.elim
  | autostart => exact moves_of_next (moves_event fun _ => moves_autostart s) he
  | junctionTimeAdvance => exact moves_of_next (u := advanceTime s) (.refl _) he
  | flashPhaseChange => exact moves_of_next (moves_event fun _ => Control.Moves.of_same (control_changeFlashPhase s)) he
  | stampDrop g stamp => exact moves_of_next (moves_event fun _ => moves_dropOne g stamp s) he
  | minimumRedExpires g => exact moves_of_next (moves_event fun _ => moves_of_settled (control_enterState _ _ _)) he
  | nowReachesS g =>
    refine moves_of_next ?_ he
    split
    · exact moves_of_settled (control_beginPrepare g _ s)
    · exact .refl _
  | nowReachesT g =>
    refine moves_of_next ?_ he
    split
    · exact moves_of_settled (control_enterState _ _ _)
    · exact .refl _
  | minimumGreenExpires g => exact moves_of_next (moves_event fun _ => moves_of_settled (control_leaveGreenMin g s)) he
  | nowReachesHoldUntil g => exact moves_of_next (moves_event fun _ => moves_of_settled (control_takeTerminate s g)) he
  | clearTimeExpires g =>
    exact moves_of_next (moves_event fun _ => moves_of_settled (control_enterRedMin g s)) he
  | startFlashExpires => exact moves_of_next (moves_event fun _ => moves_of_settled (control_enterRedPhase s)) he
  | startRedExpires =>
    refine moves_of_next (moves_event fun hdue => moves_settled ?_) he
    simp only [startRedDue, Bool.and_eq_true, beq_iff_eq] at hdue
    rw [control_enterNormal]
    exact (Control.Moves.refl _).move (.normal hdue.1)
  | supervisionExpires =>
    refine moves_of_next (moves_event fun hdue => moves_settled ?_) he
    simp only [supervisionDue, Bool.and_eq_true, beq_iff_eq] at hdue
    rw [control_enterClearing]
    exact (Control.Moves.refl _).move (.clearing hdue.1)
  | lampSenseSample sense =>
    have h1 := moves_sampleCheck sense (forEach allGroups (sampleGroup sense) s)
    rw [control_sampleGroups] at h1
    exact moves_of_next h1 he
  | unwantedProceed g =>
    refine moves_of_next (moves_event fun _ => moves_settled ?_) he
    rw [control_enterLockout, control_handOffMismatch]
    exact (Control.Moves.refl _).move .lockout
  | redLost g =>
    exact moves_of_next (moves_event fun _ => moves_of_settled
      ((control_markLost g _).trans (control_handOnMismatch g .a s))) he
  | lampOut g which =>
    exact moves_of_next (moves_event fun _ => .of_same
      ((control_latchLampOut g which _).trans (control_handOnMismatch g which s))) he
  | stuckOn g which =>
    exact moves_of_next (moves_event fun _ => .of_same
      ((control_latchStuckOn g which _).trans (control_handOffMismatch g which s))) he
  | clearLockoutCheckPasses =>
    refine moves_of_next (moves_event fun hp => ?_) he
    rw [show checkPassed s = false from hc] at hp
    cases hp
  | noOsc e => exact moves_of_next (moves_of_settled (hkeep.completeMeasurement e _ rfl)) he
  | lowFreq e => exact moves_of_next (moves_of_settled (hkeep.completeMeasurement e _ rfl)) he
  | measurementComplete e n => exact moves_of_next (moves_of_settled (hkeep.completeMeasurement e _ rfl)) he
  | trackingMoment =>
    exact moves_of_next (moves_event fun _ => .of_same (control_trackAll s)) he
  | presenceLimitExpires ch => exact moves_of_next (moves_event fun _ => moves_of_settled (hkeep.expirePresence ch rfl)) he
  | inputSample pins =>
    exact moves_of_next (Control.Moves.of_same (forEach_frame control _ _ (fun i _ u => control_modInput u i _) s)) he
  | debouncedStateChange i =>
    exact moves_of_next (moves_event fun _ => moves_of_settled (hkeep.changeDebounced i rfl)) he
  | gapValueSaturates g => exact moves_of_next (moves_event fun _ => .of_same (control_modGroup s g _)) he
  | framingError => exact moves_of_next (moves_event fun _ => .of_same (control_modBeacon s _)) he
  | byteComplete =>
    refine moves_of_next ?_ he
    split
    · exact moves_of_settled (hkeep.takeCompleted _ rfl)
    · exact .refl _
  | gapTimerExpires => exact moves_of_next (moves_event fun _ => .of_same (control_modBeacon s _)) he
  | lineBreak =>
    exact moves_of_next (moves_event fun _ => .of_same (hkeep.raiseFor .tram _ (control_modBeacon s _))) he
  | brokenWaitComplete => exact moves_of_next (moves_event fun _ => .of_same (control_modBeacon s _)) he
  | holdTimerExpires k =>
    refine moves_of_next ?_ he
    split
    · exact moves_of_settled (hkeep.recomputeHold _ rfl)
    · exact .refl _
  | lostTimerExpires k =>
    refine moves_of_next ?_ he
    split
    · exact moves_of_settled (hkeep.loseTram k _ rfl)
    · exact .refl _
  | requestFrameDrop bytes close => exact moves_of_next (Control.Moves.of_same (control_dropFrame bytes s)) he
  | linkClockTimeout r frame =>
    exact moves_of_next (Control.Moves.of_same
      ((control_countError r _ _).trans (control_timedOutSeen frame r s))) he
  | replyRead r n => exact moves_of_next (Control.Moves.of_same (control_readReply r n s)) he
  | requestCodeUnknown r code =>
    exact moves_of_next (iteInduction (motive := fun u => Control.Moves (control s) (control u)) (fun _ => .refl _)
      fun _ => moves_takeRequest_of_read (fun _ => rfl) true [] s) he
  | readJunction r p => exact moves_of_next (moves_takeRequest_of_read (readJunctionOwner_fst p) true p s) he
  | readGroups r p => exact moves_of_next (moves_takeRequest_of_read (readGroupsOwner_fst p) true p s) he
  | readTransitions r p => exact moves_of_next (moves_takeRequest_of_read (readTransitionsOwner_fst p) true p s) he
  | readLoops r p => exact moves_of_next (moves_takeRequest_of_read (readLoopsOwner_fst p) true p s) he
  | readTrams r p => exact moves_of_next (moves_takeRequest_of_read (readTramsOwner_fst p) true p s) he
  | readCounts r p => exact moves_of_next (moves_takeRequest_of_read (readCountsOwner_fst p) true p s) he
  | noticePoll r p =>
    exact moves_of_next
      (moves_takeRequest (fun _ => ownerMoves_noParams (ownerMoves_of_eq (control_noticePollOwner r)) p) p s) he
  | keepalive r p =>
    exact moves_of_next (moves_takeRequest (fun _ => ownerMoves_noParams (ownerMoves_of_eq fun _ => rfl) p) p s) he
  | demand r p => exact moves_of_next (moves_takeRequest_of_eq (control_demandOwner p) _ p s) he
  | priorityInhibit r p => exact moves_of_next (moves_takeRequest_of_eq (control_priorityInhibitOwner p) _ p s) he
  | transition r p => exact moves_of_next (moves_takeRequest_of_eq (control_transitionOwner r p) _ p s) he
  | cancelTransition r p => exact moves_of_next (moves_takeRequest_of_eq (control_cancelTransitionOwner r p) _ p s) he
  | mode r p =>
    exact moves_of_next (moves_takeRequest (fun _ => ownerMoves_of_moves (fun u => (moves_modeOwner p u).1)
      fun u => (moves_modeOwner p u).2) p s) he
  | groupInhibit r p => exact moves_of_next (moves_takeRequest_of_eq (control_groupInhibitOwner p) _ p s) he
  | tramCheckIn r p => exact moves_of_next (moves_takeRequest_of_eq (control_tramCheckInOwner p) _ p s) he
  | tramCheckOut r p =>
    exact moves_of_next (moves_takeRequest_of_eq (control_onTram
      (fun k q u => (controlKeeps (· = control u)).checkOut k q rfl) p) _ p s) he
  | tramCancel r p =>
    exact moves_of_next (moves_takeRequest_of_eq (control_onTram
      (fun k q u => (controlKeeps (· = control u)).removeTram k q rfl) p) _ p s) he
  | writeConfig r p => exact moves_of_next (moves_takeRequest (fun hr => ownerMoves_writeConfig hr p) p s) he
  | commitConfig r p => exact moves_of_next (moves_takeRequest (fun hr => ownerMoves_commitConfig hr p) p s) he
  | storeWriteEnd held =>
    refine moves_of_next (moves_event fun hst => ?_) he
    unfold endStoreWrite
    rw [control_completePending]
    exact (Control.Moves.refl _).move (.stored hst)
  | discardStaging r p => exact moves_of_next (moves_takeRequest (fun hr => ownerMoves_discardStaging hr p) p s) he
  | readConfig r p => exact moves_of_next (moves_takeRequest_of_read (readConfigOwner_fst p) _ p s) he
  | clearLockout r p => exact moves_of_next (moves_takeRequest (fun hr => ownerMoves_clearLockout hr p) p s) he
  | clearLampFaults r p => exact moves_of_next (moves_takeRequest_of_eq (control_clearLampFaultsOwner p) _ p s) he
  | clearCounts r p =>
    exact moves_of_next
      (moves_takeRequest (fun _ => ownerMoves_noParams (ownerMoves_of_eq (control_clearCounts r)) p) p s) he
  | restart r p =>
    refine moves_of_next ?_ he
    rw [if_neg (by rw [show restartAccepted r p s = false from hc]; decide)]
    exact moves_takeRequest_of_read (fun _ => rfl) _ p s
  | beaconLineSample level => exact moves_of_next (.of_same (control_modBeacon s _)) he

/-! ### LOCKOUT -/

/-- No move leaves LOCKOUT. -/
theorem Control.Move.lockout_stays {a b : Control} (h : Move a b) (ha : a.mode = .lockout) : b.mode = .lockout := by
  cases h with
  | start hm _ => rcases hm with hm | hm <;> rw [ha] at hm <;> cases hm
  | rest _ hm => exact absurd ha hm
  | normal hm => rw [ha] at hm; cases hm
  | clearing hm => rw [ha] at hm; cases hm
  | lockout => rfl
  | _ => exact ha

/-- An accepted RESTART brings the service restart (R173). -/
theorem execRestart_of_accepted {role : Role} {params : List Byte} (h : restartAccepted role params s = true) :
    exec (.restart role params) s = .next (serviceRestart s) := by
  show Host.Outcome.next (if restartAccepted role params s then _ else _) = _
  rw [if_pos h]

/-- The check passes when it has taken its ten samples in LOCKOUT (R71). -/
theorem execClearLockoutCheckPasses_of_passed (h : checkPassed s = true) :
    exec .clearLockoutCheckPasses s = .next (passCheck s) := by
  show Host.Outcome.next (if checkPassed s then _ else _) = _
  rw [if_pos h]

/-- Settles O59: no move leaves LOCKOUT, and RESTART carries it over. -/
theorem lockoutStaysUntilCleared : Obligations.LockoutStaysUntilCleared := by
  intro c s t hm he hreset hpass
  have hmoves : Ordinary c s → t.mode = .lockout := fun hc =>
    (moves_exec c hc he).keeps (Q := fun a => a.mode = .lockout) (fun _ _ => Control.Move.lockout_stays) hm
  cases c with
  | powerOnReset pins => exact absurd rfl (hreset pins)
  | clearLockoutCheckPasses => exact hmoves (hpass rfl)
  | restart r p =>
    cases ha : restartAccepted r p s with
    | false => exact hmoves ha
    | true =>
      cases (execRestart_of_accepted ha).symm.trans he
      show modeAfterReset (s.mode == .lockout) _ = _
      rw [hm]
      rfl
  | _ => exact hmoves trivial

/-! ### The laws of the mode and of the configuration -/

/-- `ModeLaw` as it is read off the control. -/
def Control.ModeHolds (c : Control) : Prop :=
  (c.mode = .start ∨ c.mode = .normal ∨ c.mode = .clearing) → c.active.isSome = true

/-- `ConfigLaw` as it is read off the control. -/
structure Control.ConfigHolds (c : Control) : Prop where
  valid : ∀ img, c.active = some img → validate img = none
  staged : c.commit = .waitingApply → validate c.staging = none
  pending : c.commit ≠ .idle → c.pending = true
  checking : c.check.isSome = true → c.pending = true
  single : c.check.isSome = true → c.commit = .idle

theorem modeLaw_iff (s : State) : ModeLaw s ↔ (control s).ModeHolds := Iff.rfl

theorem configLaw_iff (s : State) : ConfigLaw s ↔ (control s).ConfigHolds := by
  have hslot : (control s).pending = true ↔ (link s .service).slot = .pending := beq_iff_eq
  constructor
  · rintro ⟨h1, h2, h3, h4, h5⟩
    exact ⟨h1, h2, fun hc => hslot.2 (h3 hc), fun hc => hslot.2 (h4 hc), h5⟩
  · rintro ⟨h1, h2, h3, h4, h5⟩
    exact ⟨h1, h2, fun hc => hslot.1 (h3 hc), fun hc => hslot.1 (h4 hc), h5⟩

theorem Control.Move.modeHolds {a b : Control} (h : Move a b) (ha : a.ModeHolds) : b.ModeHolds := by
  cases h with
  | start _ hact => exact fun _ => hact
  | rest target _ => cases target <;> rintro (h | h | h) <;> cases h
  | normal hm => exact fun _ => ha (.inl hm)
  | clearing hm => exact fun _ => ha (.inr (.inl hm))
  | lockout => rintro (h | h | h) <;> cases h
  | apply _ => exact fun _ => rfl
  | _ => exact ha

/-- While SERVICE's slot is not PENDING no commit is under way and no check runs. -/
theorem Control.ConfigHolds.at_rest {c : Control} (h : c.ConfigHolds) (hp : c.pending = false) :
    c.commit = .idle ∧ c.check = none := by
  constructor
  · by_contra hc
    rw [h.pending hc] at hp
    cases hp
  · cases hk : c.check with
    | none => rfl
    | some k =>
      rw [h.checking (by rw [hk]; rfl)] at hp
      cases hp

theorem Control.Move.configHolds {a b : Control} (h : Move a b) (ha : a.ConfigHolds) : b.ConfigHolds := by
  cases h with
  | apply hc =>
    have hcheck : a.check.isSome = true → False := fun hk => by
      rw [ha.single hk] at hc
      cases hc
    exact
      { valid := fun img himg => by
          obtain rfl := Option.some.inj himg
          exact ha.staged hc
        staged := fun h => nomatch h
        pending := fun _ => ha.pending (by rw [hc]; decide)
        checking := ha.checking
        single := fun hk => (hcheck hk).elim }
  | stage img hp =>
    obtain ⟨hidle, _⟩ := ha.at_rest hp
    exact { ha with staged := fun hw => by rw [show a.commit = .waitingApply from hw] at hidle; cases hidle }
  | wait hp hv =>
    obtain ⟨_, hnone⟩ := ha.at_rest hp
    exact
      { valid := ha.valid
        staged := fun _ => hv
        pending := fun _ => rfl
        checking := fun _ => rfl
        single := fun hk => by rw [show a.check = none from hnone] at hk; cases hk }
  | check k hp =>
    obtain ⟨hidle, _⟩ := ha.at_rest hp
    exact { ha with pending := fun _ => rfl, checking := fun _ => rfl, single := fun _ => hidle }
  | count k hk => exact { ha with checking := fun _ => ha.checking hk, single := fun _ => ha.single hk }
  | fail hk =>
    exact
      { ha with
        pending := fun hc => absurd (ha.single hk) hc
        checking := fun h => nomatch h
        single := fun h => nomatch h }
  | stored hc =>
    have hcheck : a.check.isSome = true → False := fun hk => by
      rw [ha.single hk] at hc
      cases hc
    exact
      { valid := ha.valid
        staged := fun h => nomatch h
        pending := fun h => absurd rfl h
        checking := fun hk => (hcheck hk).elim
        single := fun _ => rfl }
  | answered p hp =>
    obtain ⟨hidle, hnone⟩ := ha.at_rest hp
    exact
      { ha with
        pending := fun hc => absurd hidle hc
        checking := fun hk => by rw [show a.check = none from hnone] at hk; cases hk }
  | _ => exact { ha with }

/-- The image that a reset loads is a valid one (R171). -/
theorem validate_of_loaded {store : Store} {img : Image} (h : (loadStore store).2 = some img) :
    validate img = none := by
  unfold loadStore at h
  split at h
  · cases h
  · split at h
    · split at h
      · next hv =>
        obtain rfl := Option.some.inj h
        exact hv
      · cases h
    · cases h

/-- A reset loads a valid image or none, and enters DARK, FLASH or LOCKOUT (R73, R171). -/
theorem laws_afterReset (service carried : Bool) (straps : Straps) (level : Bool) (store : Store)
    (cause : Option LockoutCause) (pending : List Instr) (order : OpenOrders) :
    (control (afterReset service carried straps level store cause pending order)).ModeHolds ∧
      (control (afterReset service carried straps level store cause pending order)).ConfigHolds := by
  refine ⟨fun hm => ?_, {
    valid := fun img himg => validate_of_loaded himg
    staged := fun h => nomatch h
    pending := fun h => absurd rfl h
    checking := fun h => nomatch h
    single := fun h => nomatch h }⟩
  have hmode : (control (afterReset service carried straps level store cause pending order)).mode =
      modeAfterReset carried straps := rfl
  rw [hmode] at hm
  unfold modeAfterReset at hm
  cases carried with
  | true => simp at hm
  | false => cases hs : straps.smode <;> simp [hs] at hm

/-- A check that passes ends in FLASH with SERVICE answered (R71). -/
theorem laws_passCheck (s : State) (hp : checkPassed s = true) :
    (ModeLaw s → ModeLaw (passCheck s)) ∧ (ConfigLaw s → ConfigLaw (passCheck s)) := by
  have hcheck : s.lockoutCheck.isSome = true := by
    simp only [checkPassed, Bool.and_eq_true] at hp
    obtain ⟨_, hany⟩ := hp
    cases hk : s.lockoutCheck with
    | none => rw [hk] at hany; cases hany
    | some k => rfl
  have hflash : Control.Moves { control s with mode := .flash, check := none, pending := false }
      (control (passCheck s)) := by
    refine moves_settled ((Control.Moves.refl _).of_eq ?_)
    rw [control_completePending, control_enterResting]
    rfl
  constructor
  · intro _
    rw [modeLaw_iff]
    refine hflash.keeps (Q := Control.ModeHolds) (fun _ _ => Control.Move.modeHolds) ?_
    rintro (h | h | h) <;> cases h
  · intro h
    rw [configLaw_iff] at h ⊢
    refine hflash.keeps (Q := Control.ConfigHolds) (fun _ _ => Control.Move.configHolds) ?_
    exact
      { h with
        pending := fun hc => absurd (h.single hcheck) hc
        checking := fun h => nomatch h
        single := fun h => nomatch h }

/-- Every command keeps both laws. -/
theorem exec_keeps_mode_and_config_laws (c : Instr) (he : exec c s = .next t) :
    (ModeLaw s → ModeLaw t) ∧ (ConfigLaw s → ConfigLaw t) := by
  have hmoves : Ordinary c s → (ModeLaw s → ModeLaw t) ∧ (ConfigLaw s → ConfigLaw t) := by
    intro hc
    have h := moves_exec c hc he
    simp only [modeLaw_iff, configLaw_iff]
    exact ⟨h.keeps fun _ _ => Control.Move.modeHolds, h.keeps fun _ _ => Control.Move.configHolds⟩
  have hreset : ∀ service carried straps level store cause pending order,
      (.next (afterReset service carried straps level store cause pending order) : Host.Outcome State Fault Refusal) =
        .next t → (ModeLaw s → ModeLaw t) ∧ (ConfigLaw s → ConfigLaw t) := by
    intro service carried straps level store cause pending order h
    cases h
    obtain ⟨hmode, hconfig⟩ := laws_afterReset service carried straps level store cause pending order
    exact ⟨fun _ => hmode, fun _ => (configLaw_iff _).2 hconfig⟩
  cases c with
  | powerOnReset pins => exact hreset _ _ _ _ _ _ _ _ he
  | clearLockoutCheckPasses =>
    cases hp : checkPassed s with
    | false => exact hmoves hp
    | true =>
      rw [← Host.Outcome.next.inj ((execClearLockoutCheckPasses_of_passed hp).symm.trans he)]
      exact laws_passCheck s hp
  | restart r p =>
    cases ha : restartAccepted r p s with
    | false => exact hmoves ha
    | true => exact hreset _ _ _ _ _ _ _ _ ((execRestart_of_accepted ha).symm.trans he)
  | _ => exact hmoves trivial

/-- Settles O55: a command is taken from the queue, and every command keeps both laws. -/
theorem stepsKeepTheModeAndConfigLaws : Obligations.StepsKeepTheModeAndConfigLaws := by
  intro s t hstep
  unfold step at hstep
  split at hstep
  · cases hstep
    exact ⟨id, id⟩
  · next c rest _ =>
    obtain ⟨hmode, hconfig⟩ := exec_keeps_mode_and_config_laws c hstep
    exact ⟨hmode, fun h => hconfig ⟨h.valid, h.staged, h.pending, h.checking, h.single⟩⟩

end Sys2Proof.Machine
end

section
/-! PROOF. Lamp events and requests that touch the lamps and the supervision timer alone: FLASH_PHASE_CHANGE (R59, R75),
LAMP_SENSE_SAMPLE during a CLEAR_LOCKOUT check (R71, R84), CLEAR_LOCKOUT, CLEAR_LAMP_FAULTS (R85), KEEPALIVE (R68) and
RESTART (R173). -/

namespace Sys2Proof.Machine

open Sys2Proof

/-! ### Passes over groups -/

/-- What a pass that writes one group each leaves of each group, read by any reading of a group. -/
theorem read_forEach {β : Type} {I : State → Prop} {get : State → GroupId → β} {f : GroupId → State → State} {w : β → β}
    (hI : ∀ g s, I s → I (f g s)) (hown : ∀ g s, I s → get (f g s) g = w (get s g))
    (hother : ∀ g h s, g ≠ h → get (f g s) h = get s h) (l : List GroupId) (hl : l.Nodup) :
    ∀ s, I s → (∀ g ∈ l, get (forEach l f s) g = w (get s g)) ∧ ∀ g, g ∉ l → get (forEach l f s) g = get s g := by
  induction l with
  | nil => exact fun s _ => ⟨fun g hg => absurd hg List.not_mem_nil, fun g _ => rfl⟩
  | cons a l ih =>
    intro s hs
    obtain ⟨ha, hl'⟩ := List.nodup_cons.1 hl
    obtain ⟨hin, hout⟩ := ih hl' (f a s) (hI a s hs)
    rw [forEach_cons]
    refine ⟨fun g hg => ?_, fun g hg => ?_⟩
    · rcases List.mem_cons.1 hg with rfl | hg
      · rw [hout g ha, hown g s hs]
      · rw [hin g hg, hother a g s fun h => ha (h ▸ hg)]
    · rw [hout g fun h => hg (List.mem_cons_of_mem a h), hother a g s fun h => hg (h ▸ List.mem_cons_self)]

/-- What each operation of a pass may set off, the pass sets off for each member. -/
theorem length_work_forEach_le {α : Type} {f : α → State → State} {k : Nat}
    (h : ∀ a s, (f a s).work.length ≤ s.work.length + k) (l : List α) :
    ∀ s, (forEach l f s).work.length ≤ s.work.length + k * l.length := by
  induction l with
  | nil => exact fun s => Nat.le_refl _
  | cons a l ih =>
    intro s
    have h1 := ih (f a s)
    have h2 := h a s
    rw [forEach_cons, List.length_cons, Nat.mul_succ]
    omega

/-! ### FLASH_PHASE_CHANGE -/

/-- The circuits of a group at a change of the flash phase (R75). -/
def phaseChangeLamps (now : Time) (l : Lamps) : Lamps :=
  { a := phaseChangeLamp now l.a, b := phaseChangeLamp now l.b, c := phaseChangeLamp now l.c }

theorem circuit_phaseChangeLamps (now : Time) (l : Lamps) (which : Circuit) :
    circuit (phaseChangeLamps now l) which = phaseChangeLamp now (circuit l which) := by cases which <;> rfl

/-- The generator enters its other phase, and each group's circuits take the change (R59, R75). -/
theorem changeFlashPhase_eq (s : State) :
    changeFlashPhase s =
      forEach allGroups (fun g u => modLamps g (phaseChangeLamps u.now) u)
        { s with flash :=
            { on := !s.flash.on, since := s.now,
              duration := if s.flash.on then figure (cfg s) .flashOff else figure (cfg s) .flashOn } } := by
  unfold changeFlashPhase
  cases s.flash.on <;> rfl

/-- Settles O6: the generator, and then the circuits group by group. -/
theorem flashPhaseChanges : Obligations.FlashPhaseChanges := by
  intro s hdue
  have hexec : exec .flashPhaseChange s = .next (changeFlashPhase s) := by
    show Host.Outcome.next (if flashDue s then _ else _) = _
    rw [if_pos (show flashDue s = true from hdue)]
  rw [changeFlashPhase_eq] at hexec
  generalize hv : ({ s with flash := _ } : State) = v at hexec
  have hframe : forEach allGroups (fun g u => modLamps g (phaseChangeLamps u.now) u) v =
      { v with lamps := (forEach allGroups (fun g u => modLamps g (phaseChangeLamps u.now) u) v).lamps } :=
    forEach_keeps (fun t => t = { v with lamps := t.lamps }) _ _ (fun g _ t ht => by rw [ht]; rfl) v rfl
  have hlamps := (read_forEach (I := fun u => u.now = s.now) (get := lamp) (w := phaseChangeLamps s.now)
    (f := fun g u => modLamps g (phaseChangeLamps u.now) u) (fun _ _ hu => hu)
    (fun g u hu => by simp [hu]) (fun g h u hgh => by simp [hgh]) allGroups nodup_allGroups v (by rw [← hv])).1
  generalize forEach allGroups _ v = t at hexec hframe hlamps
  refine ⟨t, hexec, ?_, fun g which => ?_, ?_⟩
  · rw [hframe, ← hv]
  · rw [hlamps g (mem_allGroups g), circuit_phaseChangeLamps, ← hv]
    rfl
  · rw [hframe, ← hv]

/-! ### LAMP_SENSE_SAMPLE (R71, R84) -/

/-- A sample writes the lamps alone. -/
theorem sampleGroups_frame (sense : BitVec 72) (s : State) :
    forEach allGroups (sampleGroup sense) s = { s with lamps := (forEach allGroups (sampleGroup sense) s).lamps } :=
  forEach_keeps (fun t => t = { s with lamps := t.lamps }) _ _ (fun g _ t ht => by rw [ht]; rfl) s rfl

theorem proceedSensed_iff (sense : BitVec 72) : proceedSensed sense = true ↔ ∃ g, senseBit sense g .c = true := by
  simp [proceedSensed]

/-- A completed request is READY, from PENDING (R154). -/
theorem slot_completePending (role : Role) (reply : Reply) (s : State) :
    (link (completePending role reply s) role).slot = .ready reply true := by
  unfold completePending
  rw [link_raise, noticedLink]
  split <;> simp

theorem hasNotice_raise (n : Notice) (role : Role) (s : State) (h : (link s role).seen = true) :
    hasNotice (raise n role s) role n = true := by
  unfold hasNotice
  rw [link_raise, noticedLink]
  simp [h]

/-- A completed request raises REPLY for a role that is seen (R154, R159). -/
theorem hasNotice_completePending (role : Role) (reply : Reply) (s : State) (h : (link s role).seen = true) :
    hasNotice (completePending role reply s) role .reply = true :=
  hasNotice_raise .reply role _ (by simpa using h)

/-- A completed request writes the links alone. -/
theorem completePending_frame (role : Role) (reply : Reply) (s : State) :
    completePending role reply s = { s with links := (completePending role reply s).links } := by
  unfold completePending
  rw [raise_frame]
  rfl

/-- Settles O22: a proceed circuit sensed on, or one sample more. -/
theorem lockoutCheckWatchesTenSamples : Obligations.LockoutCheckWatchesTenSamples := by
  intro sense s c hc hten
  have hframe := sampleGroups_frame sense s
  have hexec : exec (.lampSenseSample sense) s = .next (sampleCheck sense (forEach allGroups (sampleGroup sense) s)) := rfl
  generalize forEach allGroups (sampleGroup sense) s = u at hframe hexec
  have huc : u.lockoutCheck = some c := by rw [hframe]; exact hc
  have hmode : u.mode = s.mode := by rw [hframe]
  have hlinks : u.links = s.links := by rw [hframe]
  cases hp : proceedSensed sense with
  | true =>
    have hcheck : sampleCheck sense u =
        completePending .service (plain .refusedState) { u with lockoutCheck := none } := by
      simp [sampleCheck, huc, hp, Nat.not_le.2 hten]
    refine ⟨_, hexec.trans (congrArg _ hcheck), ?_, fun _ => ⟨?_, slot_completePending _ _ _, fun hseen => ?_⟩, fun hno => ?_⟩
    · rw [completePending_frame]
      exact hmode
    · rw [completePending_frame]
    · refine hasNotice_completePending _ _ _ ?_
      exact (congrArg LinkRec.seen (link_congr hlinks .service)).trans hseen
    · obtain ⟨g, hg⟩ := (proceedSensed_iff sense).1 hp
      rw [hno g] at hg
      cases hg
  | false =>
    have hcheck : sampleCheck sense u = { u with lockoutCheck := some { c with samples := c.samples + 1 } } := by
      simp [sampleCheck, huc, hp, Nat.not_le.2 hten]
    refine ⟨_, hexec.trans (congrArg _ hcheck), hmode, fun hsome => ?_, fun _ => ⟨rfl, hlinks⟩⟩
    rw [(proceedSensed_iff sense).2 hsome] at hp
    cases hp

/-! ### KEEPALIVE (R68) -/

/-- Settles O42: the reply, and the restart that goes with every reply to PLAN in NORMAL that is no refusal. -/
theorem keepaliveRestartsSupervision : Obligations.KeepaliveRestartsSupervision := by
  intro params s h
  have hreplied : Replied .plan (plain (if params = [] then .done else .refusedParam)) s
      (takeRequest .plan true params (keepaliveOwner params) s) := by
    refine takeRequest_replied .plan params _ _ s s h ?_ h.work
    unfold keepaliveOwner noParams
    split <;> rfl
  refine ⟨_, rfl, hreplied, hreplied.supervision.trans ?_⟩
  by_cases hp : params = []
  · simp [hp, plain, isRefusal]
  · simp [hp, plain, isRefusal]

/-! ### RESTART (R173) -/

/-- Settles O4: the service restart is the common reset with straps, store and cause kept. -/
theorem restartKeepsStrapsAndLockout : Obligations.RestartKeepsStrapsAndLockout := by
  refine ⟨fun s hslot => ?_, fun b bs s h => ?_⟩
  · have haccepted : restartAccepted .service [] s = true := by simpa [restartAccepted, serviceOnly] using hslot
    refine ⟨serviceRestart s, execRestart_of_accepted haccepted, freshPart_afterReset _ _ _ _ _ _ _ _, ?_, rfl, rfl, rfl,
      rfl⟩
    show modeAfterReset (s.mode == .lockout) s.straps = _
    unfold modeAfterReset
    by_cases hm : s.mode = .lockout <;> simp [hm]
  · have hexec : exec (.restart .service (b :: bs)) s =
        .next (takeRequest .service true (b :: bs) (fun u => (u, plain .refusedParam)) s) := by
      show Host.Outcome.next (if restartAccepted .service (b :: bs) s then _ else _) = _
      rw [if_neg (by simp [restartAccepted])]
      rfl
    exact ⟨_, hexec, takeRequest_replied .service (b :: bs) _ _ s s h rfl h.work⟩

/-! ### CLEAR_LOCKOUT and CLEAR_LAMP_FAULTS (R71, R85) -/

/-- A list that names a group outside the table, or one twice, is no list of groups (R164). -/
theorem namedGroups_of_bad {bs : List Byte} (h : (∃ b ∈ bs, b.toNat = 0 ∨ 24 < b.toNat) ∨ ¬ bs.Nodup) :
    namedGroups bs = none := by
  cases hgs : namedGroups bs with
  | none => rfl
  | some gs =>
    obtain ⟨rfl, hnodup⟩ := namedGroups_eq_some hgs
    rcases h with ⟨b, hb, hrange⟩ | hdup
    · obtain ⟨g, _, rfl⟩ := List.mem_map.1 hb
      have : ∀ g : GroupId, ¬ ((groupByte g).toNat = 0 ∨ 24 < (groupByte g).toNat) := by decide
      exact absurd hrange (this g)
    · exact absurd (hnodup.map groupByte_injective) hdup

/-- The record of a group without its lamp faults (R85). -/
def withoutFaults (r : GroupRec) : GroupRec := { r with redLost := false, faults := noFaults }

/-- The lamp faults of a group are cleared, and a cleared RED_LOST flag has scheduling examined (R48, R85). -/
theorem clearFaults_eq (g : GroupId) (s : State) :
    clearFaults g s =
      if (grp s g).redLost then emit .scheduleExamine (modLamps g clearLampTimes (modGroup g withoutFaults s))
      else modLamps g clearLampTimes (modGroup g withoutFaults s) := rfl

/-- What a pass of CLEAR_LAMP_FAULTS leaves. -/
structure FaultsCleared (l : List GroupId) (s t : State) : Prop where
  named : ∀ g ∈ l, grp t g = withoutFaults (grp s g) ∧ lamp t g = clearLampTimes (lamp s g)
  others : ∀ g, g ∉ l → grp t g = grp s g ∧ lamp t g = lamp s g
  work : ∀ x ∈ t.work, x ∈ s.work ∨ x = .scheduleExamine
  length : t.work.length ≤ s.work.length + 1 * l.length
  rest : t = { s with groups := t.groups, lamps := t.lamps, work := t.work }

theorem faultsCleared_forEach (l : List GroupId) (hl : l.Nodup) (s : State) :
    FaultsCleared l s (forEach l clearFaults s) := by
  have hread := read_forEach (I := fun _ => True) (get := fun u g => (grp u g, lamp u g)) (f := clearFaults)
    (w := fun x => (withoutFaults x.1, clearLampTimes x.2)) (fun _ _ _ => trivial)
    (fun g u _ => by rw [clearFaults_eq]; split <;> simp) (fun g h u hgh => by rw [clearFaults_eq]; split <;> simp [hgh])
    l hl s trivial
  refine ⟨fun g hg => Prod.mk.inj (hread.1 g hg), fun g hg => Prod.mk.inj (hread.2 g hg), ?_, ?_, ?_⟩
  · refine forEach_keeps (fun t : State => ∀ x ∈ t.work, x ∈ s.work ∨ x = .scheduleExamine) _ _
      (fun g _ u hu x hx => ?_) s fun x hx => .inl hx
    rw [clearFaults_eq] at hx
    split at hx
    · rcases List.mem_append.1 hx with hx | hx
      · exact hu x hx
      · exact .inr (List.mem_singleton.1 hx)
    · exact hu x hx
  · refine length_work_forEach_le (fun g u => ?_) l s
    rw [clearFaults_eq]
    split
    · simp
    · exact Nat.le_succ _
  · refine forEach_keeps (fun t => t = { s with groups := t.groups, lamps := t.lamps, work := t.work }) _ _
      (fun g _ u hu => ?_) s rfl
    rw [clearFaults_eq]
    split
    · rw [hu]; rfl
    · rw [hu]; rfl

theorem circuit_clearLampTimes (l : Lamps) (which : Circuit) :
    circuit (clearLampTimes l) which = clearMismatch (circuit l which) := by cases which <;> rfl

/-- CLEAR_LAMP_FAULTS on distinct groups in a quiet junction: the faults of the groups named are cleared, and SERVICE is
answered (R85). -/
theorem takeRequest_clearLampFaults {params : List Byte} {l : List GroupId} {s : State} (hq : Quiet s)
    (h : Answerable .service params s) (hl : l.Nodup)
    (ho : clearLampFaultsOwner params (setSeen .service s) = (forEach l clearFaults (setSeen .service s), plain .done)) :
    ∃ t, exec (.clearLampFaults .service params) s = .next t ∧
      Replied .service (plain .done) { s with groups := t.groups, lamps := t.lamps } t ∧
      (∀ g ∈ l, grp t g = withoutFaults (grp s g) ∧ lamp t g = clearLampTimes (lamp s g)) ∧
      ∀ g, g ∉ l → grp t g = grp s g ∧ lamp t g = lamp s g := by
  have hu := faultsCleared_forEach l hl (setSeen .service s)
  generalize forEach l clearFaults (setSeen .service s) = u at hu ho
  have hrest := hu.rest
  have hwork : (setSeen .service s).work = [] := hq.work
  have hreplied := takeRequest_replied_of_idle h ho (by rw [hrest])
    (hq.still.of_eq (by rw [hrest]; rfl) (by rw [hrest]; rfl) (by rw [hrest]; rfl))
    (by
      have hlen := hu.length
      have h24 := length_le_of_nodup hl
      rw [hwork, List.length_nil] at hlen
      have : u.work.length ≤ 24 := by omega
      exact this.trans (by decide))
    fun x hx v => by
      rcases hu.work x hx with hx | rfl
      · rw [hwork] at hx
        cases hx
      · trivial
  have hstate : ({ u with work := [], links := s.links } : State) = { s with groups := u.groups, lamps := u.lamps } := by
    rw [hrest, ← hq.work]
    rfl
  rw [hstate] at hreplied
  have hexec : exec (.clearLampFaults .service params) s =
      .next (takeRequest .service true params (clearLampFaultsOwner params) s) := rfl
  generalize takeRequest .service true params (clearLampFaultsOwner params) s = t at hreplied hexec
  have hgroups : t.groups = u.groups := by rw [hreplied.rest]
  have hlamps : t.lamps = u.lamps := by rw [hreplied.rest]
  refine ⟨t, hexec, by rw [hgroups, hlamps]; exact hreplied, fun g hg => ?_, fun g hg => ?_⟩
  · rw [grp_congr hgroups, lamp_congr hlamps]
    exact hu.named g hg
  · rw [grp_congr hgroups, lamp_congr hlamps]
    exact hu.others g hg

/-- Settles O52: the check begins in LOCKOUT alone, a bad list is refused, and the groups named lose their faults. -/
theorem serviceClearsLockoutAndFaults : Obligations.ServiceClearsLockoutAndFaults := by
  refine ⟨fun s h => ?_, fun bs s h hbad => ?_, fun gs s hq h hgs => ?_⟩
  · refine ⟨_, rfl, fun hm => ?_, fun hm => ?_⟩
    · refine takeRequest_replied .service [] _ _ s _ h ?_ h.work
      unfold clearLockoutOwner
      simp only [noParams, if_true]
      rw [if_pos (show (setSeen .service s).mode = .lockout from hm)]
      rfl
    · refine takeRequest_replied .service [] _ _ s s h ?_ h.work
      unfold clearLockoutOwner
      simp only [noParams, if_true]
      rw [if_neg (show (setSeen .service s).mode ≠ .lockout from hm)]
  · refine ⟨_, rfl, takeRequest_refused h ?_⟩
    unfold clearLampFaultsOwner
    rw [namedGroups_of_bad hbad]
    rfl
  · have hl : (if gs = [] then allGroups else gs).Nodup := by
      split
      · exact nodup_allGroups
      · exact hgs
    obtain ⟨t, hexec, hreplied, hnamed, hothers⟩ := takeRequest_clearLampFaults hq h hl
      (by unfold clearLampFaultsOwner; rw [namedGroups_groupByte gs hgs])
    refine ⟨t, hexec, hreplied, fun g => ⟨fun hg => ?_, fun hne hg => ?_⟩⟩
    · have hmem : g ∈ if gs = [] then allGroups else gs := by
        split
        · exact mem_allGroups g
        · next hne => exact hg.resolve_left hne
      obtain ⟨hgrp, hlamp⟩ := hnamed g hmem
      refine ⟨hgrp, fun which => ?_⟩
      rw [hlamp, circuit_clearLampTimes]
      rfl
    · exact hothers g (by rw [if_neg hne]; exact hg)

end Sys2Proof.Machine
end

section
/-! SUPPORT. Mode changes whose hand-offs come to nothing or to one effect: START and DARK or FLASH entry with no commit
that waits (R61, R63, R65, R71), and CLEARING entry in a quiet junction, which ends at once when every used group is red
(R64, R65). -/

namespace Sys2Proof.Machine

open Sys2Proof

/-! ### Notices (R159) -/

/-- A kind raised for a seen role is in its set. -/
theorem look_noticedLink_own (n : Notice) {l : LinkRec} (h : l.seen = true) :
    look (noticedLink n true l).notices (noticeIndex n) = true := by simp [noticedLink, h]

/-- A kind in the set stays there when another is raised. -/
theorem look_noticedLink_of_look {n : Notice} {c : Bool} {l : LinkRec} {i : Fin 7} (h : look l.notices i = true) :
    look (noticedLink n c l).notices i = true := by
  unfold noticedLink
  split
  · simp [h]
  · exact h

/-- A reply leaves every kind but REPLY as it is (R154). -/
theorem look_repliedLink (reply : Reply) (l : LinkRec) {i : Fin 7} (hi : noticeIndex .reply ≠ i) :
    look (repliedLink reply l).notices i = look l.notices i := by
  unfold repliedLink
  split
  · simp [hi]
  all_goals rfl

/-- A role that is seen stays seen when a request of another is taken. -/
theorem seen_setSeen (role r : Role) (s : State) (h : (link s r).seen = true) :
    (link (setSeen role s) r).seen = true := by
  simp only [setSeen, link_modLink]
  split
  · rfl
  · exact h

/-! ### Hand-offs that one effect comes of, under any fuel -/

/-- The hand-off that acts is taken, and some of the inert ones stand behind what it sets off. -/
theorem settle_one {s u : State} {a : Handoff} {rest : List Handoff} (hp : s.work.Perm (a :: rest))
    (hu : handle a { s with work := [] } = u) (hbefore : ∀ x ∈ rest, Inert s x) (n : Nat) :
    ∃ post, (∀ x ∈ post, x ∈ rest) ∧ post.length ≤ rest.length ∧
      settle (n + s.work.length) s = settle (n + post.length) { u with work := u.work ++ post } := by
  obtain ⟨pre, post, hw⟩ := List.append_of_mem (hp.mem_iff.2 List.mem_cons_self)
  have hrest : (pre ++ post).Perm rest := by
    have : (a :: (pre ++ post)).Perm (a :: rest) := List.perm_middle.symm.trans (hw ▸ hp)
    exact this.cons_inv
  have hfuel : n + s.work.length = (n + post.length + 1) + pre.length := by
    rw [hw, List.length_append, List.length_cons]
    omega
  refine ⟨post, fun x hx => hrest.mem_iff.1 (List.mem_append_right _ hx), ?_, ?_⟩
  · have := hrest.length_eq
    rw [List.length_append] at this
    omega
  · rw [hfuel, settle_inert _ pre (a :: post) s hw fun x hx =>
      hbefore x (hrest.mem_iff.1 (List.mem_append_left _ hx)), settle_cons _ { s with work := a :: post } a post rfl,
      show handle a { s with work := [] } = u from hu]

/-- A command one of whose hand-offs acts, the others being inert before and after it. -/
theorem settle_of_one {s u : State} {a : Handoff} {rest : List Handoff} {n : Nat} (hp : s.work.Perm (a :: rest))
    (hl : s.work.length + u.work.length ≤ n) (hu : handle a { s with work := [] } = u)
    (hbefore : ∀ x ∈ rest, Inert s x) (hafter : ∀ x ∈ rest, Inert u x) (hnew : ∀ x ∈ u.work, Inert u x) :
    settle n s = { u with work := [] } := by
  obtain ⟨m, rfl⟩ := Nat.exists_eq_add_of_le hl
  obtain ⟨post, hpost, _, hsettle⟩ := settle_one hp hu hbefore (m + u.work.length)
  rw [show s.work.length + u.work.length + m = m + u.work.length + s.work.length by omega, hsettle,
    show m + u.work.length + post.length = m + (u.work ++ post).length by rw [List.length_append]; omega,
    settle_inert m (u.work ++ post) [] _ (by simp), settle_of_no_work m _ rfl]
  intro x hx
  rcases List.mem_append.1 hx with hx | hx
  · exact hnew x hx
  · exact hafter x (hpost x hx)

/-- What every hand-off of a kind keeps, setting nothing off, settling such hand-offs keeps. -/
theorem settle_keeps_members {P : State → Prop} {A : Handoff → Prop} (hw : ∀ s w, P s → P { s with work := w })
    (hh : ∀ x s, A x → s.work = [] → P s → P (handle x s) ∧ (handle x s).work = []) (n : Nat) :
    ∀ s, (∀ x ∈ s.work, A x) → P s → P (settle n s) := by
  induction n with
  | zero => exact fun s _ hs => hs
  | succ n ih =>
    intro s ha hs
    cases hwork : s.work with
    | nil =>
      rw [settle_of_no_work _ s hwork]
      exact hs
    | cons x rest =>
      rw [hwork] at ha
      obtain ⟨h1, h2⟩ := hh x { s with work := [] } (ha x List.mem_cons_self) rfl (hw s [] hs)
      rw [settle_cons n s x rest hwork, h2]
      exact ih _ (fun y hy => ha y (List.mem_cons_of_mem x hy)) (hw _ _ h1)

/-- The configuration manager finds nothing to apply while no commit waits (R168). -/
theorem inert_configExamine {s : State} (h : s.commit ≠ .waitingApply) : Inert s .configExamine := by
  show examineCommit { s with work := [] } = _
  simp [examineCommit, h]

/-! ### START (R61) -/

/-- What START entry leaves: the mode, its phase, the notices and the lamps. -/
structure StartEntry (s t : State) : Prop where
  law : LampLaw t
  links : ∀ r, link t r = noticedLink .mode true (link s r)
  rest : t =
    { s with
      mode := .start, modeEnteredAt := s.now, startPhase := some (.flashPhase, s.now), links := t.links,
      lamps := t.lamps, work := s.work ++ [.configExamine] }

theorem startEntry_enterStart (s : State) : StartEntry s (enterStart s) := by
  have hmoded := enterMode_frame .start { s with startPhase := some (.flashPhase, s.now) }
  have hlinks := link_enterMode .start { s with startPhase := some (.flashPhase, s.now) }
  have hlaw : LampLaw (enterMode .start { s with startPhase := some (.flashPhase, s.now) }) := lampLaw_refreshAllLamps _
  unfold enterStart
  generalize enterMode .start _ = m at hmoded hlinks hlaw
  exact ⟨hlaw, hlinks, by rw [hmoded]; rfl⟩

/-- START entry sets nothing further off while no commit waits (R168). -/
theorem StartEntry.inert {s t v : State} (h : StartEntry s t) (hw : s.work = []) (hv : v.commit ≠ .waitingApply) :
    t.work.length ≤ settleFuel ∧ ∀ x ∈ t.work, Inert v x := by
  have hwork : t.work = [.configExamine] := by rw [h.rest, hw]; rfl
  rw [hwork]
  refine ⟨by decide, fun x hx => ?_⟩
  rw [List.mem_singleton.1 hx]
  exact inert_configExamine hv

/-! ### DARK and FLASH (R63, R65) -/

theorem targetMode_ne (target : ClearTarget) :
    targetMode target ≠ .normal ∧ targetMode target ≠ .clearing ∧ targetMode target ≠ .lockout := by
  cases target <;> decide

/-- DARK entries outside NORMAL and CLEARING set nothing further off while no commit waits. -/
theorem RestingEntry.inert {mode : Mode} {s m u t v : State} (h : RestingEntry mode s m u t) (hw : s.work = [])
    (hc : s.commit ≠ .waitingApply) (hvm : v.mode ≠ .normal) (hvc : v.commit ≠ .waitingApply) :
    t.work.length ≤ settleFuel ∧ ∀ x ∈ t.work, Inert v x := by
  refine ⟨(h.work hw).1.trans (by decide), fun x hx => ?_⟩
  have hwork : t.work = u.work ++ [.configExamine] := by rw [h.handed]; rfl
  rw [hwork] at hx
  rcases List.mem_append.1 hx with hx | hx
  · rcases h.forced.work x hx with hx | ⟨g, w, n, hwc, _, hn⟩
    · rw [show m.work = s.work by rw [h.moded], hw] at hx
      cases hx
    · rcases entryHandoff_eq_some hn with ⟨_, rfl⟩ | ⟨_, _, hst⟩ | ⟨_, _, hcw⟩ | ⟨_, _, _, hst⟩ | ⟨_, _, hst⟩
      · show examineArbiter { v with work := [] } = _
        simp [examineArbiter, hvm]
      · simp at hst
      · rw [hwc, show m.commit = s.commit by rw [h.moded]] at hcw
        exact absurd hcw hc
      · simp at hst
      · cases hst
  · rw [List.mem_singleton.1 hx]
    exact inert_configExamine hvc

/-- What a settled entry to DARK or FLASH leaves, read from the state before it. -/
structure Rested (mode : Mode) (s t : State) : Prop where
  mode : t.mode = mode
  entered : t.modeEnteredAt = s.now
  phase : t.startPhase = none
  target : t.clearTarget = none
  dark : ∀ g, used s g = true → (grp t g).state = .dark
  lost : ∀ g, (grp t g).redLost = (grp s g).redLost
  links : ∀ r, link t r = noticedLink .mode true (link s r)
  rest : t = { s with mode := t.mode, modeEnteredAt := t.modeEnteredAt, startPhase := t.startPhase,
                      clearTarget := t.clearTarget, links := t.links, groups := t.groups, lamps := t.lamps,
                      work := t.work, order := t.order }

theorem rested_enterResting (mode : Mode) (s : State) : Rested mode s (enterResting mode s) := by
  obtain ⟨m, u, h⟩ := restingEntry_enterResting mode s
  generalize enterResting mode s = t at h
  have hrest := h.rest
  refine ⟨by rw [hrest], by rw [hrest], by rw [hrest], by rw [hrest], fun g hu => ?_, fun g => ?_, h.link, ?_⟩
  · rw [h.grp, if_pos hu, enteredRecord_state]
  · rw [h.grp]
    split <;> simp
  · rw [hrest]

theorem Rested.seenHave {mode : Mode} {s t : State} (h : Rested mode s t) : SeenHave .mode s t := by
  intro r hr
  show look (link t r).notices _ = true
  rw [h.links]
  exact look_noticedLink_own .mode hr

/-! ### CLEARING entry in a quiet junction (R64) -/

/-- The mode change of CLEARING entry. -/
def clearingMode (target : ClearTarget) (s : State) : State :=
  enterMode .clearing { s with clearTarget := some target, supervision := none }

theorem clearingMode_frame (target : ClearTarget) (s : State) :
    clearingMode target s =
      { s with
        mode := .clearing, modeEnteredAt := s.now, clearTarget := some target, supervision := none,
        links := (clearingMode target s).links, lamps := (clearingMode target s).lamps } :=
  enterMode_frame .clearing { s with clearTarget := some target, supervision := none }

theorem link_clearingMode (target : ClearTarget) (s : State) (r : Role) :
    link (clearingMode target s) r = noticedLink .mode true (link s r) :=
  link_enterMode .clearing { s with clearTarget := some target, supervision := none } r

theorem still_clearingMode {s : State} (h : Still s) (target : ClearTarget) : Still (clearingMode target s) := by
  have hframe := clearingMode_frame target s
  generalize clearingMode target s = m at hframe
  exact h.of_eq (by rw [hframe]) (by rw [hframe]) (by rw [hframe])

/-- With no live transition CLEARING entry is the mode change, the terminates and their hand-offs. -/
theorem enterClearing_of_still {s : State} (h : Still s) (target : ClearTarget) :
    enterClearing target s =
      handOn modeHandoff (forEach allGroups junctionTerminate (clearingMode target s)) := by
  show handOn modeHandoff (forEach allGroups junctionTerminate (cancelAll .mode (clearingMode target s))) = _
  rw [cancelAll, (still_clearingMode h target).queueOrder, forEach_nil]

/-- Every used group is in RED or RED_MIN. -/
def AllRed (s : State) : Prop := ∀ g, used s g = true → (grp s g).state = .red ∨ (grp s g).state = .redMin

theorem clearingDone_of_allRed {s : State} (h : AllRed s) : clearingDone s = true := by
  refine List.all_eq_true.2 fun g hg => ?_
  rcases h g (List.mem_filter.1 hg).2 with h | h <;> simp [h]

theorem AllRed.of_states {s t : State} (h : AllRed s) (ha : t.active = s.active)
    (hg : ∀ g, (grp t g).state = (grp s g).state) : AllRed t := by
  intro g hu
  rw [hg]
  exact h g (by rw [← used_congr ha]; exact hu)

/-- A group at red is given no terminate (R17). -/
theorem junctionTerminate_of_red {g : GroupId} {s : State}
    (h : used s g = true → (grp s g).state = .red ∨ (grp s g).state = .redMin) : junctionTerminate g s = s := by
  unfold junctionTerminate
  rw [if_neg]
  rw [Bool.and_eq_true]
  rintro ⟨hu, hp⟩
  unfold inProceed at hp
  rcases h hu with h | h <;> rw [h] at hp <;> cases hp

/-- A still junction in CLEARING with a target, in which the watch on its end is among the hand-offs and no other of them
finds anything to do (R65). -/
structure Departed (target : ClearTarget) (rest : List Handoff) (w : State) : Prop where
  still : Still w
  mode : w.mode = .clearing
  target : w.clearTarget = some target
  work : w.work.Perm (.clearingExamine :: rest)
  others : ∀ x ∈ rest, ∀ v, idle v x

/-- What CLEARING entry hands on, up to the free order. -/
theorem modeHandoffs_perm (s : State) :
    ((neighbourOrder s).filterMap modeHandoff).Perm [.clearingExamine, .tramEvaluateAll, .configExamine] := by
  refine (handedOn_perm s modeHandoff).trans ?_
  exact List.perm_append_comm (l₁ := [Handoff.tramEvaluateAll, .configExamine]) (l₂ := [.clearingExamine])

theorem idle_modeHandoffs : ∀ x ∈ [Handoff.tramEvaluateAll, .configExamine], ∀ v, idle v x := by
  intro x hx v
  rcases List.mem_cons.1 hx with rfl | hx
  · trivial
  · rw [List.mem_singleton.1 hx]
    trivial

/-- CLEARING entry in a junction all at red (R64). -/
theorem departed_enterClearing {s : State} (h : Still s) (hw : s.work = []) (hred : AllRed s) (target : ClearTarget) :
    Departed target [.tramEvaluateAll, .configExamine] (enterClearing target s) ∧
      enterClearing target s = handOn modeHandoff (clearingMode target s) := by
  have hframe := clearingMode_frame target s
  have hstill := still_clearingMode h target
  rw [enterClearing_of_still h]
  generalize clearingMode target s = m at hframe hstill
  have hterms : forEach allGroups junctionTerminate m = m := by
    refine forEach_id _ _ _ fun g _ => junctionTerminate_of_red ?_
    exact hred.of_states (t := m) (by rw [hframe]) (fun g => by rw [grp_congr (s := s) (by rw [hframe])]) g
  rw [hterms]
  refine ⟨⟨hstill.of_eq rfl rfl rfl, ?_, ?_, ?_, idle_modeHandoffs⟩, rfl⟩
  · show m.mode = _
    rw [hframe]
  · show m.clearTarget = _
    rw [hframe]
  · show (m.work ++ _).Perm _
    rw [show m.work = [] by rw [hframe]; exact hw]
    exact modeHandoffs_perm m

/-- A CLEARING in which every used group is red ends at once (R65). -/
theorem Departed.settle {target : ClearTarget} {rest : List Handoff} {w : State} (h : Departed target rest w)
    (hred : AllRed w) {n : Nat} (hn : w.work.length + 121 ≤ n) :
    Machine.settle n w = { enterResting (targetMode target) { w with work := [] } with work := [] } := by
  have hexamine : handle .clearingExamine { w with work := [] } = enterResting (targetMode target) { w with work := [] } := by
    show examineClearing _ = _
    rw [examineClearing, if_pos ⟨h.mode, clearingDone_of_allRed hred⟩,
      show ({ w with work := [] } : State).clearTarget = some target from h.target]
    rfl
  obtain ⟨m, u, hrest⟩ := restingEntry_enterResting (targetMode target) { w with work := [] }
  generalize enterResting (targetMode target) { w with work := [] } = t at hexamine hrest
  obtain ⟨htlen, htidle⟩ := hrest.work rfl
  have htstill : Still t := by
    have hframe := hrest.rest
    exact h.still.of_eq (by rw [hframe]) (by rw [hframe]) (by rw [hframe])
  exact settle_of_one h.work ((Nat.add_le_add_left htlen _).trans hn) hexamine
    (fun x hx => h.still.inert x (h.others x hx _)) (fun x hx => htstill.inert x (h.others x hx _))
    (fun x hx => htstill.inert x (htidle t x hx))

/-- What the entry and the end of a CLEARING in a junction all at red leave. -/
theorem Departed.rested {target : ClearTarget} {rest : List Handoff} {w : State} (h : Departed target rest w)
    (hred : AllRed w) {n : Nat} (hn : w.work.length + 121 ≤ n) :
    Rested (targetMode target) w (Machine.settle n w) := by
  rw [h.settle hred hn]
  have hr := rested_enterResting (targetMode target) { w with work := [] }
  generalize enterResting (targetMode target) { w with work := [] } = t at hr
  exact ⟨hr.mode, hr.entered, hr.phase, hr.target, hr.dark, hr.lost, hr.links, by rw [hr.rest]⟩

end Sys2Proof.Machine
end

section
/-! PROOF. The events of the junction mode controller that end in START or FLASH: AUTOSTART (R61, R73), a CLEAR_LOCKOUT
check that passes (R71), SUPERVISION_EXPIRES (R67) and RED_LOST (R66, R81) in a quiet junction. -/

namespace Sys2Proof.Machine

open Sys2Proof

/-! ### AUTOSTART -/

/-- Settles O15: START entry, whose one hand-off finds no commit that waits. -/
theorem autostartEntersStart : Obligations.AutostartEntersStart := by
  intro s hdue
  have hexec : exec .autostart s = .next (autostart s) := by
    show Host.Outcome.next (if s.autostartDue then _ else _) = _
    rw [if_pos hdue]
  refine ⟨fun hw hc ha hm => ?_, fun hno => ?_⟩
  · have hcan : canAutostart s = true := by
      rcases hm with hm | hm <;> simp [canAutostart, ha, hm]
    have hstart : autostart s = settled (enterStart { s with autostartDue := false }) := if_pos hcan
    have hentry := startEntry_enterStart { s with autostartDue := false }
    rw [hstart] at hexec
    generalize enterStart { s with autostartDue := false } = t at hentry hexec
    have hrest := hentry.rest
    have hcommit : t.commit ≠ .waitingApply := by rw [hrest]; exact hc
    obtain ⟨hlen, hinert⟩ := hentry.inert (v := t) hw hcommit
    rw [settled_inert t hlen hinert] at hexec
    refine ⟨_, hexec, ?_, ?_, ?_, hentry.links, hentry.law, ?_⟩
    · show t.mode = _
      rw [hrest]
    · show t.modeEnteredAt = _
      rw [hrest]
    · show t.startPhase = _
      rw [hrest]
    · rw [hrest, ← hw]
  · have hcan : canAutostart s ≠ true := by
      rcases hno with ha | ⟨h1, h2⟩
      · simp [canAutostart, ha]
      · simp [canAutostart, h1, h2]
    rw [hexec]
    exact congrArg _ (if_neg hcan)

/-! ### CLEAR_LOCKOUT_CHECK_PASSES -/

/-- Settles O20: FLASH entry outside NORMAL, and SERVICE's reply. -/
theorem passedCheckEntersFlash : Obligations.PassedCheckEntersFlash := by
  intro s c hw hc hm hcheck hten
  have hexec := execClearLockoutCheckPasses_of_passed (s := s) (by simp [checkPassed, hm, hcheck, hten])
  obtain ⟨m, u, hentry⟩ := restingEntry_enterResting .flash { s with lockoutCheck := none }
  have hrested := rested_enterResting .flash { s with lockoutCheck := none }
  unfold passCheck at hexec
  generalize enterResting .flash { s with lockoutCheck := none } = t at hentry hrested hexec
  have hframe := completePending_frame .service (plain .done) t
  have hslot := slot_completePending .service (plain .done) t
  have hreply := hasNotice_completePending .service (plain .done) t
  have hlinks : ∀ r, (link s r).seen = true → hasNotice (completePending .service (plain .done) t) r .mode = true := by
    intro r hr
    unfold hasNotice completePending
    rw [link_raise]
    refine look_noticedLink_of_look ?_
    rw [link_modLink]
    split
    · next hrole => exact hrole ▸ hrested.seenHave r hr
    · exact hrested.seenHave r hr
  generalize completePending .service (plain .done) t = w at hexec hframe hslot hreply hlinks
  obtain ⟨hlen, hinert⟩ := hentry.inert (v := w) hw hc
    (by rw [hframe]; exact hrested.mode ▸ (targetMode_ne .flash).1)
    (by rw [hframe]; show t.commit ≠ _; rw [hrested.rest]; exact hc)
  have hwork : w.work = t.work := by rw [hframe]
  rw [settled_inert w (by rw [hwork]; exact hlen) (by rw [hwork]; exact hinert)] at hexec
  refine ⟨_, hexec, ?_, ?_, ?_, ?_, hslot, fun hseen => ?_, hlinks⟩
  · show w.mode = _
    rw [hframe]
    exact hrested.mode
  · show w.modeEnteredAt = _
    rw [hframe]
    exact hrested.entered
  · show w.lockoutCheck = _
    rw [hframe]
    show t.lockoutCheck = _
    rw [hrested.rest]
  · show w.lockoutCause = _
    rw [hframe]
    show t.lockoutCause = _
    rw [hrested.rest]
  · refine hreply ?_
    rw [hrested.links, noticedLink_seen]
    exact hseen

/-! ### SUPERVISION_EXPIRES -/

/-- Settles O18: CLEARING is entered and ends at once. -/
theorem silentPlanFallsToFlash : Obligations.SilentPlanFallsToFlash := by
  intro s u hq hm hsup hexp hred
  have hexec : exec .supervisionExpires s = .next (settled (enterClearing .flash s)) := by
    show Host.Outcome.next (if supervisionDue s then _ else _) = _
    rw [if_pos (by simp [supervisionDue, hm, hsup, hexp])]
  obtain ⟨hdep, heq⟩ := departed_enterClearing hq.still hq.work hred .flash
  have hframe := clearingMode_frame .flash s
  have hlinks := link_clearingMode .flash s
  generalize clearingMode .flash s = m at heq hframe hlinks
  rw [heq] at hexec hdep
  have hrested := hdep.rested (n := settleFuel)
    (AllRed.of_states (s := s) hred (t := handOn modeHandoff m) (by show m.active = _; rw [hframe])
      fun g => by rw [grp_congr (s := s)]; show m.groups = _; rw [hframe])
    (by
      have := length_handedOn_le m modeHandoff
      have hwork : (handOn modeHandoff m).work.length ≤ 5 := by
        show (m.work ++ _).length ≤ 5
        rw [show m.work = [] by rw [hframe]; exact hq.work]
        exact this
      exact (Nat.add_le_add_right hwork _).trans (by decide))
  have hused : ∀ g, used (handOn modeHandoff m) g = used s g := used_congr (by show m.active = _; rw [hframe])
  refine ⟨_, hexec, hrested.mode, ?_, ?_, hrested.target, fun g hu => hrested.dark g (by rw [hused]; exact hu), ?_, ?_, ?_⟩
  · exact hrested.entered.trans (by show m.now = _; rw [hframe])
  · show (settle settleFuel (handOn modeHandoff m)).supervision = _
    rw [hrested.rest]
    show m.supervision = _
    rw [hframe]
  · intro r hr
    refine hrested.seenHave r ?_
    show (link m r).seen = _
    rw [hlinks, noticedLink_seen]
    exact hr
  · show (settle settleFuel (handOn modeHandoff m)).active = _
    rw [hrested.rest]
    show m.active = _
    rw [hframe]
  · show (settle settleFuel (handOn modeHandoff m)).slots = _
    rw [hrested.rest]
    show m.slots = _
    rw [hframe]

/-! ### RED_LOST -/

/-- A group newly marked, with its notices, before the marking is handed on (R81). -/
def lostMarked (g : GroupId) (s : State) : State :=
  raiseAll .fault (raiseLamp (modGroup g (fun r => { r with redLost := true }) s))

/-- A marking is handed to the arbiter and to the JMC (R81). -/
theorem markLost_of_new {g : GroupId} {s : State} (h : (grp s g).redLost = false) :
    markLost g s = handOn (lostHandoff g) (lostMarked g s) := by
  unfold markLost
  rw [if_neg (by simp [h])]
  rfl

theorem lostMarked_frame (g : GroupId) (s : State) :
    lostMarked g s = { s with groups := (lostMarked g s).groups, links := (lostMarked g s).links } := by
  have hmark : lostMarked g s = raiseAll .fault (raiseLamp (modGroup g (fun r => { r with redLost := true }) s)) := rfl
  rw [raiseAll_frame] at hmark
  have hlamp : raiseLamp (modGroup g (fun r => { r with redLost := true }) s) =
      { modGroup g (fun r => { r with redLost := true }) s with
        links := (raiseLamp (modGroup g (fun r => { r with redLost := true }) s)).links } := raiseFor_frame _ _ _
  generalize raiseLamp (modGroup g (fun r => { r with redLost := true }) s) = t at hmark hlamp
  generalize raiseAll .fault t = u at hmark
  rw [hmark, hlamp]
  rfl

theorem grp_lostMarked (g h : GroupId) (s : State) :
    grp (lostMarked g s) h = if g = h then { grp s g with redLost := true } else grp s h := by
  unfold lostMarked raiseLamp
  rw [grp_congr (s := modGroup g (fun r => { r with redLost := true }) s), grp_modGroup]
  rw [raiseAll_frame, raiseFor_frame]

theorem link_lostMarked (g : GroupId) (s : State) (r : Role) :
    link (lostMarked g s) r = noticedLink .fault true (noticedLink .lamp (noticeRoles .lamp r) (link s r)) := by
  unfold lostMarked raiseLamp raiseFor
  rw [link_raiseAll]
  simp only [forEach_cons, forEach_nil, link_raise]
  cases r <;> simp [noticedLink, noticeRoles]

/-- What a marking hands on, up to the free order. -/
theorem lostHandoffs_perm (g : GroupId) (s : State) :
    ((neighbourOrder s).filterMap (lostHandoff g)).Perm [.lostExamine, .arbiterLost g] :=
  (handedOn_perm s (lostHandoff g)).trans (List.Perm.swap _ _ [])

/-- One marked group is no second lost red (R66). -/
theorem lostCount_le_one {g : GroupId} {s : State} (h : ∀ i, i ≠ g → (grp s i).redLost = false) : lostCount s ≤ 1 := by
  have hsub : ((usedGroups s).filter fun i => (grp s i).redLost) ⊆ [g] := by
    intro i hi
    rw [List.mem_singleton]
    by_contra hig
    rw [List.mem_filter, h i hig] at hi
    cases hi.2
  have hnodup : ((usedGroups s).filter fun i => (grp s i).redLost).Nodup := (nodup_allGroups.filter _).filter _
  exact (List.subperm_of_subset hnodup hsub).length_le

/-- Two marked used groups are two lost reds (R66). -/
theorem two_le_lostCount {g h : GroupId} {s : State} (hne : h ≠ g) (hg : used s g = true) (hh : used s h = true)
    (hgl : (grp s g).redLost = true) (hhl : (grp s h).redLost = true) : 2 ≤ lostCount s := by
  have hsub : [g, h] ⊆ (usedGroups s).filter fun i => (grp s i).redLost := by
    intro i hi
    rcases List.mem_cons.1 hi with rfl | hi
    · simp [usedGroups, hg, hgl]
    · rw [List.mem_singleton.1 hi]
      simp [usedGroups, hh, hhl]
  exact (List.subperm_of_subset (by simp [Ne.symm hne]) hsub).length_le

/-- The event is due once the mismatch has been confirmed (R79, R81). -/
theorem execRedLost_of_confirmed {g : GroupId} {s : State} (h : onConfirmed s g .a = true) :
    exec (.redLost g) s = .next (settled (markLost g (handOnMismatch g .a s))) := by
  show Host.Outcome.next (if onConfirmed s g .a then _ else _) = _
  rw [if_pos h]

/-- A first lost red, or one outside NORMAL, sets nothing further off in a still junction (R66). -/
theorem settled_markLost_of_first {g : GroupId} {s : State} (hs : Still s) (hw : s.work = [])
    (hnew : (grp s g).redLost = false) (hone : s.mode ≠ .normal ∨ ∀ h, (grp s h).redLost = false) :
    settled (markLost g s) = { handOn (lostHandoff g) (lostMarked g s) with work := [] } := by
  have hframe := lostMarked_frame g s
  have hgrp := grp_lostMarked g
  rw [markLost_of_new hnew]
  have hcount : s.mode = .normal → lostCount (lostMarked g s) ≤ 1 := fun hm =>
    lostCount_le_one (g := g) fun i hi => by
      rw [hgrp, if_neg (Ne.symm hi)]
      exact hone.resolve_left (absurd hm) i
  generalize lostMarked g s = m at hframe hcount
  have hstill : Still (handOn (lostHandoff g) m) :=
    hs.of_eq (by show m.slots = _; rw [hframe]) (by show m.trams = _; rw [hframe]) (by show m.commit = _; rw [hframe])
  have hwork : (handOn (lostHandoff g) m).work = (neighbourOrder m).filterMap (lostHandoff g) := by
    show m.work ++ _ = _
    rw [show m.work = [] by rw [hframe]; exact hw, List.nil_append]
  refine hstill.settled_idle ?_ fun x hx => ?_
  · rw [hwork]
    exact (length_handedOn_le m _).trans (by decide)
  · rw [hwork, (lostHandoffs_perm g m).mem_iff] at hx
    rcases List.mem_cons.1 hx with rfl | hx
    · by_cases hm : s.mode = .normal
      · exact .inr (Nat.lt_succ_of_le (hcount hm))
      · refine .inl ?_
        show m.mode ≠ _
        rw [hframe]
        exact hm
    · rw [List.mem_singleton.1 hx]
      trivial

/-- CLEARING entered in a junction all at red ends at once, whatever idle hand-offs wait behind it (R64, R65). -/
theorem rested_enterClearing_before {target : ClearTarget} {s u : State} (hs : Still s) (hw : s.work = [])
    (hred : AllRed s) (hu : enterClearing target s = u) {post : List Handoff} (hpost : ∀ x ∈ post, ∀ v, idle v x) {n : Nat}
    (hn : post.length + 126 ≤ n) :
    ∃ w, (∀ i, grp w i = grp s i) ∧ w.active = s.active ∧
      Rested (targetMode target) w (settle n { u with work := u.work ++ post }) := by
  obtain ⟨hdep, heq⟩ := departed_enterClearing hs hw hred target
  have hframe := clearingMode_frame target s
  rw [heq] at hdep hu
  generalize clearingMode target s = c at hframe hdep hu
  subst hu
  have hgroups : c.groups = s.groups := by rw [hframe]
  have hactive : c.active = s.active := by rw [hframe]
  have hlen : (handOn modeHandoff c).work.length ≤ 5 := by
    show (c.work ++ _).length ≤ 5
    rw [show c.work = [] by rw [hframe]; exact hw]
    exact length_handedOn_le c _
  generalize hv : handOn modeHandoff c = u at hdep hlen
  have hugrp : ∀ i, grp u i = grp s i := fun i => grp_congr (by rw [← hv]; exact hgroups) i
  have huactive : u.active = s.active := by rw [← hv]; exact hactive
  have hall : Departed target ([.tramEvaluateAll, .configExamine] ++ post) { u with work := u.work ++ post } :=
    { still := hdep.still.of_eq rfl rfl rfl
      mode := hdep.mode
      target := hdep.target
      work := hdep.work.append_right post
      others := fun x hx v => (List.mem_append.1 hx).elim (fun h => hdep.others x h v) (fun h => hpost x h v) }
  refine ⟨{ u with work := u.work ++ post }, hugrp, huactive,
    hall.rested (hred.of_states huactive fun i => congrArg GroupRec.state (hugrp i)) ?_⟩
  show (u.work ++ post).length + 121 ≤ n
  rw [List.length_append]
  omega

/-- The second lost red of a NORMAL junction all at red brings it to FLASH (R66). -/
theorem rested_markLost_of_second {g h : GroupId} {s : State} (hs : Still s) (hw : s.work = [])
    (hnew : (grp s g).redLost = false) (hm : s.mode = .normal) (hg : used s g = true) (hne : h ≠ g)
    (hh : used s h = true) (hhl : (grp s h).redLost = true) (hred : AllRed s) :
    ∃ w, (∀ i, grp w i = grp (lostMarked g s) i) ∧ w.active = s.active ∧ Rested .flash w (settled (markLost g s)) := by
  have hframe := lostMarked_frame g s
  have hgrp := grp_lostMarked g
  rw [markLost_of_new hnew]
  have hown : (grp (lostMarked g s) g).redLost = true := by rw [hgrp, if_pos rfl]
  have hother : (grp (lostMarked g s) h).redLost = true := by rw [hgrp, if_neg (Ne.symm hne)]; exact hhl
  have hstates : ∀ i, (grp (lostMarked g s) i).state = (grp s i).state := by
    intro i
    rw [hgrp]
    split
    · next hi => rw [hi]
    · rfl
  generalize lostMarked g s = m at hframe hown hother hstates
  have hactive : m.active = s.active := by rw [hframe]
  have hmwork : m.work = [] := by rw [hframe]; exact hw
  have hmstill : Still m := hs.of_eq (by rw [hframe]) (by rw [hframe]) (by rw [hframe])
  -- the hand-offs of the marking: the count of lost reds acts, the arbiter finds nothing
  have hperm : (handOn (lostHandoff g) m).work.Perm [.lostExamine, .arbiterLost g] := by
    show (m.work ++ _).Perm _
    rw [hmwork]
    exact lostHandoffs_perm g m
  have hlost : handle .lostExamine { handOn (lostHandoff g) m with work := [] } =
      enterClearing .flash { handOn (lostHandoff g) m with work := [] } := by
    show examineLost _ = _
    unfold examineLost
    rw [if_pos]
    refine ⟨(by show m.mode = _; rw [hframe]; exact hm), ?_⟩
    exact two_le_lostCount (g := g) (h := h) hne ((used_congr hactive g).trans hg) ((used_congr hactive h).trans hh)
      hown hother
  have hstill : Still (handOn (lostHandoff g) m) := hmstill.of_eq rfl rfl rfl
  have hinert : ∀ x ∈ [Handoff.arbiterLost g], Inert (handOn (lostHandoff g) m) x := by
    intro x hx
    rw [List.mem_singleton.1 hx]
    exact hstill.inert _ trivial
  have hlen := hperm.length_eq
  obtain ⟨n, hn⟩ := Nat.exists_eq_add_of_le' (n := settleFuel) (hlen.trans_le (Nat.le_add_left 2 4094))
  have hroom : 4094 ≤ n := by
    rw [hlen] at hn
    simp only [settleFuel, List.length_cons, List.length_nil] at hn
    omega
  obtain ⟨post, hpost, hpostlen, hsettle⟩ := settle_one hperm hlost hinert n
  have hroom' : post.length + 126 ≤ n + post.length := by omega
  obtain ⟨w, hwgrp, hwactive, hrested⟩ := rested_enterClearing_before
    (target := .flash) (s := { handOn (lostHandoff g) m with work := [] }) (hstill.of_eq rfl rfl rfl) rfl
    (hred.of_states hactive hstates) rfl
    (fun x hx v => by rw [List.mem_singleton.1 (hpost x hx)]; trivial) hroom'
  refine ⟨w, hwgrp, hwactive.trans hactive, ?_⟩
  rw [settled, hn, hsettle]
  exact hrested

/-- Settles O23: the first lost red, one already marked, and the second. -/
theorem lostRedIsMarked : Obligations.LostRedIsMarked := by
  intro g s hq hconf
  have hexec := execRedLost_of_confirmed hconf
  have hgrp : ∀ h, grp (handOnMismatch g .a s) h = grp s h := fun _ => rfl
  have hstill : Still (handOnMismatch g .a s) := hq.still.of_eq rfl rfl rfl
  refine ⟨fun hnew hone => ?_, fun hold => ?_, fun h hnew hm hu hne hh hhl hred => ?_⟩
  · rw [settled_markLost_of_first hstill hq.work hnew hone] at hexec
    have hframe := lostMarked_frame g (handOnMismatch g .a s)
    have hown := grp_lostMarked g g (handOnMismatch g .a s)
    have hothers := fun h => grp_lostMarked g h (handOnMismatch g .a s)
    have hlinks := link_lostMarked g (handOnMismatch g .a s)
    generalize lostMarked g (handOnMismatch g .a s) = m at hexec hframe hown hothers hlinks
    refine ⟨_, hexec, ?_, fun h hh => ?_, hlinks, ?_⟩
    · show grp m g = _
      rw [hown, if_pos rfl]
      rfl
    · show grp m h = _
      rw [hothers, if_neg (Ne.symm hh)]
      rfl
    · rw [hframe, ← hq.work]
      rfl
  · have hsame : markLost g (handOnMismatch g .a s) = handOnMismatch g .a s := if_pos hold
    rw [hsame, settled_of_no_work (handOnMismatch g .a s) hq.work] at hexec
    exact ⟨_, hexec, rfl⟩
  · obtain ⟨w, hwgrp, hwactive, hrested⟩ :=
      rested_markLost_of_second (g := g) (h := h) hstill hq.work hnew hm hu hne hh hhl hred
    refine ⟨_, hexec, hrested.mode, ?_, fun i hi => hrested.dark i ?_⟩
    · rw [hrested.lost, hwgrp, grp_lostMarked, if_pos rfl]
    · rw [used_congr hwactive]
      exact hi

end Sys2Proof.Machine
end

section
/-! PROOF. UNWANTED_PROCEED (R69, R80): LOCKOUT with every used group DARK and its notices raised, which nothing that the
entry sets off undoes, a configuration apply included. -/

namespace Sys2Proof.Machine

open Sys2Proof

/-! ### A junction in LOCKOUT -/

/-- LOCKOUT with a cause and every used group DARK; the roles that `s` has seen have the FAULT and MODE notices. -/
structure LockedOut (cause : LockoutCause) (s t : State) : Prop where
  mode : t.mode = .lockout
  cause : t.lockoutCause = some cause
  dark : ∀ g, used t g = true → (grp t g).state = .dark
  fault : SeenHave .fault s t
  moded : SeenHave .mode s t

namespace LockedOut

variable {cause : LockoutCause} {s t : State}

/-- What changes no mode, cause, group state, notice or image keeps it. -/
theorem of_eq {u : State} (h : LockedOut cause s t) (hm : u.mode = t.mode) (hc : u.lockoutCause = t.lockoutCause)
    (hg : u.groups = t.groups) (ha : u.active = t.active) (hl : u.links = t.links) : LockedOut cause s u where
  mode := hm.trans h.mode
  cause := hc.trans h.cause
  dark g hu := by
    rw [grp_congr hg]
    exact h.dark g (by rw [← used_congr ha]; exact hu)
  fault r hr := by
    unfold hasNotice
    rw [link_congr hl]
    exact h.fault r hr
  moded r hr := by
    unfold hasNotice
    rw [link_congr hl]
    exact h.moded r hr

/-- A group that a write leaves in its state, or that was not DARK and so is no used group. -/
theorem withGroups {u : State} (h : LockedOut cause s t) (hm : u.mode = t.mode) (hc : u.lockoutCause = t.lockoutCause)
    (ha : u.active = t.active) (hl : u.links = t.links)
    (hg : ∀ g, (grp u g).state = (grp t g).state ∨ (grp t g).state ≠ .dark) : LockedOut cause s u where
  mode := hm.trans h.mode
  cause := hc.trans h.cause
  dark g hu := by
    have hd := h.dark g (by rw [← used_congr ha]; exact hu)
    rcases hg g with hg | hg
    · exact hg.trans hd
    · exact absurd hd hg
  fault r hr := by
    unfold hasNotice
    rw [link_congr hl]
    exact h.fault r hr
  moded r hr := by
    unfold hasNotice
    rw [link_congr hl]
    exact h.moded r hr

theorem hasNotice_of_raise {n n' : Notice} {r r' : Role} (h : hasNotice t r' n' = true) :
    hasNotice (Machine.raise n r t) r' n' = true := by
  unfold hasNotice
  rw [link_raise]
  exact look_noticedLink_of_look h

theorem raise (h : LockedOut cause s t) (n : Notice) (r : Role) : LockedOut cause s (Machine.raise n r t) := by
  have hframe := raise_frame n r t
  have hfault := fun r' (hr : (link s r').seen = true) => hasNotice_of_raise (n := n) (r := r) (h.fault r' hr)
  have hmoded := fun r' (hr : (link s r').seen = true) => hasNotice_of_raise (n := n) (r := r) (h.moded r' hr)
  generalize Machine.raise n r t = u at hframe hfault hmoded
  have hactive : u.active = t.active := by rw [hframe]
  have hgroups : u.groups = t.groups := by rw [hframe]
  exact
    { mode := (by rw [hframe]; exact h.mode)
      cause := (by rw [hframe]; exact h.cause)
      dark := fun g hu => by
        rw [grp_congr hgroups]
        exact h.dark g (by rw [← used_congr hactive]; exact hu)
      fault := hfault
      moded := hmoded }

/-- No block takes a used group out of DARK in LOCKOUT: the states a block takes groups from are not DARK. -/
theorem part : PartKeeps (LockedOut cause s) where
  work _ _ h := h.of_eq rfl rfl rfl rfl rfl
  order _ _ h := h.of_eq rfl rfl rfl rfl rfl
  raise n r _ h := h.raise n r
  group g f t hf h := h.withGroups rfl rfl rfl rfl fun i => .inl (by
    rw [grp_modGroup]
    split
    · next hi => rw [hf, hi]
    · rfl)
  enter g st t hd h := h.withGroups rfl rfl rfl rfl fun i => by
    by_cases hi : g = i
    · exact .inr (hi ▸ hd)
    · refine .inl ?_
      simp [refreshLamps, hi]
  record _ _ _ _ h := h.of_eq rfl rfl rfl rfl rfl
  finish _ _ _ _ _ _ _ h := h.of_eq rfl rfl rfl rfl rfl
  post _ _ _ _ _ _ h := h.of_eq rfl rfl rfl rfl rfl
  tram _ _ _ _ h := h.of_eq rfl rfl rfl rfl rfl
  gone _ _ h := h.of_eq rfl rfl rfl rfl rfl
  stats _ _ _ h := h.of_eq rfl rfl rfl rfl rfl
  lamps _ _ _ h := h.of_eq rfl rfl rfl rfl rfl
  channel _ _ _ h := h.of_eq rfl rfl rfl rfl rfl
  engine _ _ _ h := h.of_eq rfl rfl rfl rfl rfl
  input _ _ _ h := h.of_eq rfl rfl rfl rfl rfl
  beacon _ _ h := h.of_eq rfl rfl rfl rfl rfl
  enlist _ _ _ h := h.of_eq rfl rfl rfl rfl rfl
  drops _ _ h := h.of_eq rfl rfl rfl rfl rfl

/-- An apply in LOCKOUT brings a group into use in DARK, and leaves in DARK the groups that stay in use (R18). -/
theorem applyGroup_dark (old : Image) (g : GroupId) (u : State) (hm : u.mode = .lockout)
    (h : usedIn old g = true → (grp u g).state = .dark) (hu : used u g = true) :
    (grp (applyGroup old g u) g).state = .dark := by
  unfold applyGroup
  rw [hu]
  cases ho : usedIn old g with
  | true =>
    dsimp only
    split
    · simp [h ho]
    · exact h ho
  | false => simp [newGroupState, hm]

theorem applyGroups (h : LockedOut cause s t) :
    LockedOut cause s
      (forEach allGroups (applyGroup (cfg t)) { t with active := some t.staging, commit := .storing }) := by
  have hframe := applyGroups_frame (cfg t) { t with active := some t.staging, commit := .storing }
  have hdark : ∀ g, used { t with active := some t.staging, commit := .storing } g = true →
      (grp (forEach allGroups (applyGroup (cfg t)) { t with active := some t.staging, commit := .storing }) g).state =
        .dark := by
    intro g hu
    obtain ⟨u, ⟨huactive, humode⟩, hug, hfu⟩ := grp_forEach_allGroups
      (I := fun u => u.active = some t.staging ∧ u.mode = .lockout) (f := applyGroup (cfg t))
      (fun g u hu => by rw [applyGroup_frame]; exact hu) (UnusedLaw.applyGroup_others (cfg t)) g
      { t with active := some t.staging, commit := .storing } ⟨rfl, h.mode⟩
    rw [hfu]
    refine applyGroup_dark (cfg t) g u humode (fun ho => ?_) ?_
    · rw [hug]
      exact h.dark g ho
    · rw [used_congr (s := { t with active := some t.staging, commit := .storing }) huactive]
      exact hu
  generalize forEach allGroups (applyGroup (cfg t)) { t with active := some t.staging, commit := .storing } = u
    at hframe hdark
  have hactive : u.active = some t.staging := by rw [hframe]
  have hlinks : u.links = t.links := by rw [hframe]
  refine ⟨by rw [hframe]; exact h.mode, by rw [hframe]; exact h.cause, fun g hu => hdark g ?_, fun r hr => ?_,
    fun r hr => ?_⟩
  · rw [used_congr (s := { t with active := some t.staging, commit := .storing }) hactive] at hu
    exact hu
  · unfold hasNotice
    rw [link_congr hlinks]
    exact h.fault r hr
  · unfold hasNotice
    rw [link_congr hlinks]
    exact h.moded r hr

theorem examineCommit (h : LockedOut cause s t) : LockedOut cause s (Machine.examineCommit t) :=
  iteInduction (motive := LockedOut cause s) (fun _ => part.applyImage h.applyGroups) (fun _ => h)

/-- Neither CLEARING's end nor a lost red changes the mode in LOCKOUT (R65, R66). -/
theorem settled (h : LockedOut cause s t) : LockedOut cause s (Machine.settled t) := by
  refine part.settled (fun _ h => h.examineCommit) (fun u h => ?_) (fun u h => ?_) t h
  · exact iteInduction (motive := LockedOut cause s) (fun hc => by rw [h.mode] at hc; cases hc.1) (fun _ => h)
  · exact iteInduction (motive := LockedOut cause s) (fun hc => by rw [h.mode] at hc; cases hc.1) (fun _ => h)

end LockedOut

/-! ### LOCKOUT entry -/

/-- What the cancellations at LOCKOUT entry leave alone. -/
structure LockoutBegun (cause : LockoutCause) (s t : State) : Prop where
  mode : t.mode = .lockout
  cause : t.lockoutCause = some cause
  seen : ∀ r, (link t r).seen = (link s r).seen

theorem lockoutBegun_blocks (cause : LockoutCause) (s : State) : BlocksKeep (LockoutBegun cause s) where
  work _ _ h := ⟨h.mode, h.cause, h.seen⟩
  order _ _ h := ⟨h.mode, h.cause, h.seen⟩
  raise n r t h := by
    refine ⟨by rw [raise_frame]; exact h.mode, by rw [raise_frame]; exact h.cause, fun r' => ?_⟩
    rw [link_raise, noticedLink_seen, h.seen]
  group _ _ _ _ h := ⟨h.mode, h.cause, h.seen⟩
  enter _ _ _ _ h := ⟨h.mode, h.cause, h.seen⟩
  record _ _ _ _ h := ⟨h.mode, h.cause, h.seen⟩
  finish _ _ _ _ _ _ _ h := ⟨h.mode, h.cause, h.seen⟩
  post _ _ _ _ _ _ h := ⟨h.mode, h.cause, h.seen⟩
  tram _ _ _ _ h := ⟨h.mode, h.cause, h.seen⟩
  gone _ _ h := ⟨h.mode, h.cause, h.seen⟩
  stats _ _ _ h := ⟨h.mode, h.cause, h.seen⟩

/-- LOCKOUT is entered from any other mode with every used group DARK (R69, R72). -/
theorem lockedOut_enterLockout (g : GroupId) (which : Circuit) (s : State) (hm : s.mode ≠ .lockout) :
    LockedOut { group := g, circuit := which, time := s.now } s (enterLockout g which s) := by
  unfold enterLockout
  rw [if_neg hm]
  have hbegun := (lockoutBegun_blocks { group := g, circuit := which, time := s.now } s).cancelAll .mode
    (s := { s with
      mode := .lockout, modeEnteredAt := s.now,
      lockoutCause := some { group := g, circuit := which, time := s.now },
      startPhase := none, clearTarget := none, supervision := none }) ⟨rfl, rfl, fun _ => rfl⟩
  dsimp only
  rw [forceAllDark, forceDark_eq]
  generalize cancelAll .mode _ = c at hbegun
  have hforced := forcedAll
    (fun r => { r with claim := none, pendingTerm := none, schedule := none, holdUntil := none }) .dark c
  generalize forEach allGroups _ c = d at hforced ⊢
  have hrest := hforced.rest
  have hdlinks : d.links = c.links := by rw [hrest]
  have hdactive : d.active = c.active := by rw [hrest]
  have hframe : raiseAll .mode (raiseAll .fault d) =
      { d with links := (raiseAll .mode (raiseAll .fault d)).links } := by
    rw [raiseAll_frame, raiseAll_frame .fault d]
  have hlinks : ∀ r, link (raiseAll .mode (raiseAll .fault d)) r =
      noticedLink .mode true (noticedLink .fault true (link d r)) := fun r => by
    rw [link_raiseAll, link_raiseAll]
  generalize raiseAll .mode (raiseAll .fault d) = e at hframe hlinks ⊢
  have hseen : ∀ r, (link s r).seen = true → (link d r).seen = true := fun r hr => by
    rw [link_congr hdlinks, hbegun.seen]
    exact hr
  have hegroups : e.groups = d.groups := by rw [hframe]
  have heactive : e.active = c.active := by rw [hframe]; exact hdactive
  refine LockedOut.part.handOn _ (LockedOut.part.refreshAllLamps ⟨?_, ?_, fun i hi => ?_, fun r hr => ?_, fun r hr => ?_⟩)
  · rw [hframe, hrest]
    exact hbegun.mode
  · rw [hframe, hrest]
    exact hbegun.cause
  · rw [grp_congr hegroups, hforced.grp, if_pos (by rw [← used_congr heactive]; exact hi), enteredRecord_state]
  · unfold hasNotice
    rw [hlinks]
    exact look_noticedLink_of_look (look_noticedLink_own .fault (hseen r hr))
  · unfold hasNotice
    rw [hlinks]
    exact look_noticedLink_own .mode (by rw [noticedLink_seen]; exact hseen r hr)

/-- Settles O19: LOCKOUT entry and what it sets off, and a junction that is in LOCKOUT already. -/
theorem unwantedProceedBringsLockout : Obligations.UnwantedProceedBringsLockout := by
  intro g s hconf
  have hexec : exec (.unwantedProceed g) s = .next (settled (enterLockout g .c (handOffMismatch g .c s))) := by
    show Host.Outcome.next (if offConfirmed s g .c then _ else _) = _
    rw [if_pos hconf]
  refine ⟨fun hm => ?_, fun hm hw => ?_⟩
  · have hlocked := (lockedOut_enterLockout g .c (handOffMismatch g .c s) hm).settled
    exact ⟨_, hexec, hlocked.mode, hlocked.cause, hlocked.dark, hlocked.fault, hlocked.moded⟩
  · have hsame : enterLockout g .c (handOffMismatch g .c s) = handOffMismatch g .c s := if_pos hm
    rw [hsame, settled_of_no_work (handOffMismatch g .c s) hw] at hexec
    exact ⟨_, hexec, rfl⟩

end Sys2Proof.Machine
end

section
/-! PROOF. MODE (R60): the refusals and the requests that change nothing, START from DARK and FLASH, DARK and FLASH from
one another, from START and from a NORMAL junction all at red, and CLEARING from a quiet NORMAL junction (R61, R63 to
R65). -/

namespace Sys2Proof.Machine

open Sys2Proof

/-! ### The request and its reply -/

/-- What a reply changes in the state that its owner left, before anything is settled (R68, R154). -/
structure Answered (role : Role) (reply : Reply) (u w : State) : Prop where
  own : link w role = repliedLink reply (link u role)
  others : ∀ r, r ≠ role → link w r = link u r
  supervision : u.mode ≠ .normal → w.supervision = u.supervision
  rest : w = { u with links := w.links, supervision := w.supervision }

theorem answered_superviseRestart (role : Role) (reply : Reply) (u : State) :
    Answered role reply u (superviseRestart role reply.code (modLink role (repliedLink reply) u)) := by
  have hsup := superviseRestart_supervision role reply.code (modLink role (repliedLink reply) u)
  have hframe := superviseRestart_eq role reply.code (modLink role (repliedLink reply) u)
  have hlink : ∀ r, link (superviseRestart role reply.code (modLink role (repliedLink reply) u)) r =
      link (modLink role (repliedLink reply) u) r := by
    intro r
    unfold superviseRestart
    split <;> rfl
  generalize superviseRestart role reply.code (modLink role (repliedLink reply) u) = w at hsup hframe hlink
  refine ⟨by rw [hlink]; simp, fun r hr => by rw [hlink]; simp [Ne.symm hr], fun hm => ?_, by rw [hframe]; rfl⟩
  rw [hsup, if_neg]
  · rfl
  · rintro ⟨_, _, hn⟩
    exact hm hn

/-- The role's slot holds the reply DONE. -/
theorem Answered.holds {role : Role} {u w : State} (h : Answered role (plain .done) u w) :
    Holds role (plain .done) w :=
  ⟨by rw [h.own, repliedLink_slot]; rfl, by rw [h.own, repliedLink_seen]⟩

theorem noticedLink_slot (n : Notice) (c : Bool) (l : LinkRec) : (noticedLink n c l).slot = l.slot := by
  unfold noticedLink
  split <;> rfl

/-- A kind raised afterwards leaves the reply in its slot. -/
theorem Holds.of_noticed {role : Role} {reply : Reply} {w t : State} (h : Holds role reply w) {n : Notice}
    (hl : link t role = noticedLink n true (link w role)) : Holds role reply t :=
  ⟨by rw [hl, noticedLink_slot]; exact h.slot, by rw [hl, noticedLink_seen]; exact h.seen⟩

/-- A role that the owner's state has seen is seen after the reply. -/
theorem Answered.seen {role r : Role} {reply : Reply} {u w : State} (h : Answered role reply u w)
    (hr : (link u r).seen = true) : (link w r).seen = true := by
  by_cases hrole : r = role
  · rw [hrole, h.own, repliedLink_seen]
  · rw [h.others r hrole]
    exact hr

/-- A reply leaves the MODE notices in their sets (R154). -/
theorem Answered.seenHave {role : Role} {reply : Reply} {s u w : State} (h : Answered role reply u w)
    (hu : SeenHave .mode (setSeen role s) u) : SeenHave .mode s w := by
  intro r hr
  have hn := hu r (seen_setSeen role r s hr)
  show look (link w r).notices _ = true
  by_cases hrole : r = role
  · rw [hrole, h.own, look_repliedLink reply _ (by decide)]
    exact hrole ▸ hn
  · rw [h.others r hrole]
    exact hn

/-- Every role but TRAMNET may send MODE (R157). -/
theorem execMode_eq {role : Role} (hr : role ≠ .tramnet) (params : List Byte) (s : State) :
    exec (.mode role params) s = .next (takeRequest role true params (modeOwner params) s) := by
  have hrole : modeRoles role = true := by simpa [modeRoles] using hr
  show Host.Outcome.next (takeRequest role (modeRoles role) params _ s) = _
  rw [hrole]

/-- A mode request whose owner has its answer: what the answered state settles to. -/
theorem execMode_answered {role : Role} {params : List Byte} {s u : State} (hr : role ≠ .tramnet)
    (h : Answerable role params s) (ho : modeOwner params (setSeen role s) = (u, plain .done))
    (hseen : (link u role).seen = true) :
    ∃ w, Answered role (plain .done) u w ∧ exec (.mode role params) s = .next (settled w) :=
  ⟨_, answered_superviseRestart role (plain .done) u,
    (execMode_eq hr params s).trans (congrArg _ (takeRequest_eq h ho hseen))⟩

/-! ### START -/

/-- MODE NORMAL from DARK or FLASH with an active image enters START (R61). -/
theorem mode_starts {role : Role} {params : List Byte} {s : State} (hr : role ≠ .tramnet) (h : Answerable role params s)
    (hc : s.commit ≠ .waitingApply)
    (ho : modeOwner params (setSeen role s) = (enterStart (setSeen role s), plain .done)) :
    ∃ t, exec (.mode role params) s = .next t ∧ Holds role (plain .done) t ∧ t.mode = .start ∧
      t.modeEnteredAt = s.now ∧ t.startPhase = some (.flashPhase, s.now) ∧ SeenHave .mode s t := by
  have hentry := startEntry_enterStart (setSeen role s)
  generalize enterStart (setSeen role s) = u at hentry ho
  have hrest := hentry.rest
  obtain ⟨w, hw, hexec⟩ := execMode_answered hr h ho (by rw [hentry.links, noticedLink_seen]; simp [setSeen])
  have hwrest := hw.rest
  have hcommit : w.commit ≠ .waitingApply := by
    rw [hwrest]
    show u.commit ≠ _
    rw [hrest]
    exact hc
  obtain ⟨hlen, hinert⟩ := hentry.inert (v := w) h.work hcommit
  have hwork : w.work = u.work := by rw [hwrest]
  rw [settled_inert w (by rw [hwork]; exact hlen) (by rw [hwork]; exact hinert)] at hexec
  refine ⟨_, hexec, ⟨hw.holds.slot, hw.holds.seen⟩, ?_, ?_, ?_, hw.seenHave fun r hseen => ?_⟩
  · show w.mode = _
    rw [hwrest]
    show u.mode = _
    rw [hrest]
  · show w.modeEnteredAt = _
    rw [hwrest]
    show u.modeEnteredAt = _
    rw [hrest]
    rfl
  · show w.startPhase = _
    rw [hwrest]
    show u.startPhase = _
    rw [hrest]
    rfl
  · unfold hasNotice
    rw [hentry.links]
    exact look_noticedLink_own .mode hseen

/-! ### DARK and FLASH -/

/-- MODE is answered DONE and the junction is in DARK or FLASH with every used group DARK (R63, R65). -/
structure RestsIn (role : Role) (m : Mode) (s t : State) : Prop where
  holds : Holds role (plain .done) t
  mode : t.mode = m
  entered : t.modeEnteredAt = s.now
  phase : t.startPhase = none
  target : t.clearTarget = none
  dark : ∀ g, used s g = true → (grp t g).state = .dark
  moded : SeenHave .mode s t

/-- DARK or FLASH is entered at once from a mode other than NORMAL (R63). -/
theorem mode_rests {role : Role} {params : List Byte} {s : State} {target : ClearTarget} (hr : role ≠ .tramnet)
    (h : Answerable role params s) (hc : s.commit ≠ .waitingApply)
    (ho : modeOwner params (setSeen role s) = (enterResting (targetMode target) (setSeen role s), plain .done)) :
    ∃ t, exec (.mode role params) s = .next t ∧ RestsIn role (targetMode target) s t := by
  obtain ⟨m, v, hentry⟩ := restingEntry_enterResting (targetMode target) (setSeen role s)
  have hrested := rested_enterResting (targetMode target) (setSeen role s)
  generalize enterResting (targetMode target) (setSeen role s) = u at hentry hrested ho
  have hrest := hrested.rest
  obtain ⟨w, hw, hexec⟩ := execMode_answered hr h ho (by rw [hrested.links, noticedLink_seen]; simp [setSeen])
  have hwrest := hw.rest
  have hwmode : w.mode = u.mode := by rw [hwrest]
  have hwgroups : w.groups = u.groups := by rw [hwrest]
  have hwwork : w.work = u.work := by rw [hwrest]
  obtain ⟨hlen, hinert⟩ := hentry.inert (v := w) h.work hc
    (by rw [hwmode, hrested.mode]; exact (targetMode_ne target).1)
    (by rw [hwrest]; show u.commit ≠ _; rw [hrest]; exact hc)
  rw [settled_inert w (by rw [hwwork]; exact hlen) (by rw [hwwork]; exact hinert)] at hexec
  refine ⟨_, hexec,
    { holds := ⟨hw.holds.slot, hw.holds.seen⟩
      mode := hwmode.trans hrested.mode
      entered := ?_
      phase := ?_
      target := ?_
      dark := fun g hu => (congrArg GroupRec.state (grp_congr hwgroups g)).trans (hrested.dark g hu)
      moded := hw.seenHave hrested.seenHave }⟩
  · show w.modeEnteredAt = _
    rw [hwrest]
    exact hrested.entered
  · show w.startPhase = _
    rw [hwrest]
    exact hrested.phase
  · show w.clearTarget = _
    rw [hwrest]
    exact hrested.target

/-- A NORMAL junction all at red enters CLEARING and ends it at once (R64, R65). -/
theorem mode_rests_of_red {role : Role} {params : List Byte} {s : State} {target : ClearTarget} (hr : role ≠ .tramnet)
    (h : Answerable role params s) (hq : Quiet s) (hred : AllRed s)
    (ho : modeOwner params (setSeen role s) = (enterClearing target (setSeen role s), plain .done)) :
    ∃ t, exec (.mode role params) s = .next t ∧ RestsIn role (targetMode target) s t := by
  obtain ⟨hdep, heq⟩ := departed_enterClearing (s := setSeen role s) (hq.still.of_eq rfl rfl rfl) hq.work hred target
  have hframe := clearingMode_frame target (setSeen role s)
  have hlinks := link_clearingMode target (setSeen role s)
  rw [heq] at hdep ho
  generalize clearingMode target (setSeen role s) = c at hdep ho hframe hlinks
  have hulinks : ∀ r, link (handOn modeHandoff c) r = noticedLink .mode true (link (setSeen role s) r) := hlinks
  have hlen : (handOn modeHandoff c).work.length ≤ 5 := by
    show (c.work ++ _).length ≤ 5
    rw [show c.work = [] by rw [hframe]; exact hq.work]
    exact length_handedOn_le c _
  have hugroups : (handOn modeHandoff c).groups = s.groups := by show c.groups = _; rw [hframe]; rfl
  have huactive : (handOn modeHandoff c).active = s.active := by show c.active = _; rw [hframe]; rfl
  have hunow : (handOn modeHandoff c).now = s.now := by show c.now = _; rw [hframe]; rfl
  generalize handOn modeHandoff c = u at hdep ho hulinks hlen hugroups huactive hunow
  obtain ⟨w, hw, hexec⟩ := execMode_answered hr h ho (by rw [hulinks, noticedLink_seen]; simp [setSeen])
  have hwrest := hw.rest
  have hwgroups : w.groups = s.groups := by rw [hwrest]; exact hugroups
  have hwactive : w.active = s.active := by rw [hwrest]; exact huactive
  have hdep' : Departed target [.tramEvaluateAll, .configExamine] w :=
    { still := hdep.still.of_eq (by rw [hwrest]) (by rw [hwrest]) (by rw [hwrest])
      mode := by rw [hwrest]; exact hdep.mode
      target := by rw [hwrest]; exact hdep.target
      work := by rw [hwrest]; exact hdep.work
      others := hdep.others }
  have hrested := hdep'.rested (n := settleFuel) (hred.of_states hwactive fun g => by rw [grp_congr hwgroups])
    (by
      rw [show w.work = u.work by rw [hwrest]]
      exact (Nat.add_le_add_right hlen _).trans (by decide))
  refine ⟨settled w, hexec,
    { holds := hw.holds.of_noticed (hrested.links role)
      mode := hrested.mode
      entered := hrested.entered.trans (by rw [hwrest]; exact hunow)
      phase := hrested.phase
      target := hrested.target
      dark := fun g hu => hrested.dark g (by rw [used_congr hwactive]; exact hu)
      moded := fun r hseen => hrested.seenHave r (hw.seen ?_) }⟩
  rw [hulinks, noticedLink_seen]
  exact seen_setSeen role r s hseen

/-! ### The terminates of CLEARING entry (R14, R17, R64) -/

/-- The record of a used group that CLEARING entry has given a JUNCTION terminate: one in GREEN enters CLEAR. -/
def terminated (now : Time) (r : GroupRec) : GroupRec :=
  if r.state = .green then
    { r with state := .clear, enteredAt := now, greenEnd := some now, pendingTerm := none, holdUntil := none }
  else if proceedState r.state = true then { r with pendingTerm := some .junction }
  else r

/-- A JUNCTION terminate takes effect at once in GREEN (R14, R64). -/
theorem junctionTerminate_eq (g : GroupId) (s : State) :
    junctionTerminate g s =
      if used s g && inProceed s g then
        if (grp s g).state = .green then enterClear g (modGroup g (fun r => { r with pendingTerm := some .junction }) s)
        else modGroup g (fun r => { r with pendingTerm := some .junction }) s
      else s := by
  unfold junctionTerminate takeTerminate
  simp [terminateAllowed]

theorem grp_junctionTerminate (g h : GroupId) (s : State) :
    grp (junctionTerminate g s) h =
      if g = h then if used s g then terminated s.now (grp s g) else grp s g else grp s h := by
  rw [junctionTerminate_eq]
  by_cases hg : g = h
  · subst hg
    cases hu : used s g with
    | false => simp
    | true =>
      by_cases hgreen : (grp s g).state = .green
      · simp [inProceed, hgreen, proceedState, terminated, enterClear, enteredRecord]
      · cases hp : proceedState (grp s g).state <;> simp [inProceed, hgreen, hp, terminated]
  · split
    · split <;> simp [enterClear, hg]
    · simp

/-- A terminate writes groups, lamps, hand-offs and the free order. -/
theorem junctionTerminate_frame (g : GroupId) (s : State) :
    junctionTerminate g s =
      { s with
        groups := (junctionTerminate g s).groups, lamps := (junctionTerminate g s).lamps,
        work := (junctionTerminate g s).work, order := (junctionTerminate g s).order } := by
  rw [junctionTerminate_eq]
  split
  · split
    · rw [enterClear, enterState_frame]
      rfl
    · rfl
  · rfl

/-- A group that a terminate leaves in GREEN was in GREEN. -/
theorem green_of_terminated {now : Time} {r : GroupRec} (h : (terminated now r).state = .green) : r.state = .green := by
  by_contra hne
  unfold terminated at h
  rw [if_neg hne] at h
  split at h <;> exact hne h

/-- A hand-off to the demand logic concerns a group that stood in GREEN in a state. -/
def ClearsGreen (s : State) (x : Handoff) : Prop := ∀ g, x = .clearDemand g → (grp s g).state = .green

/-- What a terminate sets off: a CLEAR entry of a group that was in GREEN (R112). -/
theorem mem_work_junctionTerminate {g : GroupId} {s : State} {x : Handoff} (h : x ∈ (junctionTerminate g s).work) :
    x ∈ s.work ∨ ClearsGreen s x := by
  rw [junctionTerminate_eq] at h
  split at h
  · split at h
    · next hgreen =>
      have hne : (grp (modGroup g (fun r =>
          { r with greenEnd := some s.now, pendingTerm := none, holdUntil := none })
          (modGroup g (fun r => { r with pendingTerm := some .junction }) s)) g).state ≠ .clear := by simp [hgreen]
      rw [enterClear] at h
      rcases List.mem_append.1 ((enterState_work g .clear _ hne) ▸ h) with h | h
      · exact .inl h
      · refine .inr fun i hi => ?_
        rcases mem_entryHandoffs h with h | ⟨h, _⟩ | ⟨h, _⟩ | ⟨h, _⟩ | ⟨h, _⟩ <;> rw [h] at hi <;> cases hi
        exact hgreen
    · exact .inl h
  · exact .inl h

/-- The groups after the terminates of CLEARING entry, and what these set off. -/
structure Terminated (m t : State) : Prop where
  grp : ∀ g, Machine.grp t g = if used m g then terminated m.now (Machine.grp m g) else Machine.grp m g
  work : ∀ x ∈ t.work, x ∈ m.work ∨ ClearsGreen m x
  rest : t = { m with groups := t.groups, lamps := t.lamps, work := t.work, order := t.order }

theorem terminated_forEach (m : State) : Terminated m (forEach allGroups junctionTerminate m) := by
  refine ⟨fun g => ?_, ?_, ?_⟩
  · obtain ⟨u, ⟨hnow, hact⟩, hug, hfu⟩ :=
      grp_forEach_allGroups (I := fun t => t.now = m.now ∧ t.active = m.active) (f := junctionTerminate)
        (fun g t ht => by rw [junctionTerminate_frame]; exact ht)
        (fun g h t hgh => by rw [grp_junctionTerminate, if_neg hgh]) g m ⟨rfl, rfl⟩
    rw [hfu, grp_junctionTerminate, if_pos rfl, used_congr hact, hug, hnow]
  · have hkeep := forEach_keeps
      (fun t : State => (∀ i, (Machine.grp t i).state = .green → (Machine.grp m i).state = .green) ∧
        ∀ x ∈ t.work, x ∈ m.work ∨ ClearsGreen m x)
      allGroups junctionTerminate (fun g _ t ht => ?_) m ⟨fun _ h => h, fun x hx => .inl hx⟩
    · exact hkeep.2
    · obtain ⟨hgreen, hwork⟩ := ht
      refine ⟨fun i hi => ?_, fun x hx => ?_⟩
      · rw [grp_junctionTerminate] at hi
        split at hi
        · next hgi =>
          rw [← hgi]
          split at hi
          · exact hgreen g (green_of_terminated hi)
          · exact hgreen g hi
        · exact hgreen i hi
      · rcases mem_work_junctionTerminate hx with hx | hx
        · exact hwork x hx
        · exact .inr fun i hi => hgreen i (hx i hi)
  · exact forEach_keeps
      (fun t => t = { m with groups := t.groups, lamps := t.lamps, work := t.work, order := t.order })
      _ _ (fun g _ t ht => by rw [junctionTerminate_frame, ht]) m rfl

/-! ### Settling CLEARING entry while some group is not red -/

/-- While a CLEARING entry is settled: of the state `w` in which it was handed on, demands of groups that stood in GREEN
have been registered, and a used group is not at red. -/
structure ClearingStands (s w v : State) : Prop where
  still : Still v
  mode : v.mode = .clearing
  waits : ∃ i, used v i = true ∧ (grp v i).state ≠ .red ∧ (grp v i).state ≠ .redMin
  demands : ∀ g, grp v g = { grp w g with demand := (grp v g).demand }
  others : ∀ g, (grp s g).state ≠ .green → grp v g = grp w g
  rest : v = { w with groups := v.groups, work := v.work }

/-- A demand registered for a group that stood in GREEN (R112). -/
theorem ClearingStands.takeClearEntry {s w v : State} (h : ClearingStands s w v) {g : GroupId}
    (hg : (grp s g).state = .green) : ClearingStands s w (Machine.takeClearEntry g v) := by
  have hwrite : ∀ d, ClearingStands s w (modGroup g (fun r => { r with demand := d }) v) := by
    intro d
    obtain ⟨i, hu, h1, h2⟩ := h.waits
    have hstate : ∀ i, (grp (modGroup g (fun r => { r with demand := d }) v) i).state = (grp v i).state := by
      intro i
      rw [grp_modGroup]
      split
      · next hi => rw [hi]
      · rfl
    refine ⟨h.still.of_eq rfl rfl rfl, h.mode, ⟨i, hu, ?_, ?_⟩, fun i => ?_, fun i hi => ?_, ?_⟩
    · rw [hstate]
      exact h1
    · rw [hstate]
      exact h2
    · rw [grp_modGroup]
      split
      · next hgi =>
        rw [← hgi, h.demands g]
      · exact h.demands i
    · have hne : g ≠ i := fun hgi => hi (hgi ▸ hg)
      rw [grp_modGroup, if_neg hne]
      exact h.others i hi
    · conv_lhs => rw [h.rest]
      rfl
  unfold Machine.takeClearEntry
  split
  · split
    · exact hwrite _
    · exact h
  · exact h

/-- Nothing that CLEARING entry sets off does more than register demands, while some group is not red. -/
theorem ClearingStands.settle {s w : State} (h : ClearingStands s w w) (hwork : ∀ x ∈ w.work, ClearsGreen s x) (n : Nat) :
    ClearingStands s w (Machine.settle n w) := by
  refine settle_keeps_members (P := ClearingStands s w) (A := ClearsGreen s) (fun v l hv => ?_) (fun x v hx hvw hv => ?_)
    n w hwork h
  · exact ⟨hv.still.of_eq rfl rfl rfl, hv.mode, hv.waits, hv.demands, hv.others, by conv_lhs => rw [hv.rest]⟩
  · by_cases hd : ∃ g, x = .clearDemand g
    · obtain ⟨g, rfl⟩ := hd
      refine ⟨hv.takeClearEntry (hx g rfl), ?_⟩
      show (Machine.takeClearEntry g v).work = []
      unfold Machine.takeClearEntry
      split
      · split
        · exact hvw
        · exact hvw
      · exact hvw
    · obtain ⟨i, hu, h1, h2⟩ := hv.waits
      have hidle : idle v x := by
        cases x with
        | clearDemand g => exact absurd ⟨g, rfl⟩ hd
        | clearingExamine => exact fun _ => clearingDone_eq_false hu h1 h2
        | lostExamine => exact .inl (by rw [hv.mode]; decide)
        | _ => trivial
      rw [hv.still.handle x hidle]
      exact ⟨hv, hvw⟩

/-- CLEARING has been entered from a still state, with its terminates given and its hand-offs to come (R64). -/
structure ClearingEntered (target : ClearTarget) (s u : State) : Prop where
  still : Still u
  mode : u.mode = .clearing
  entered : u.modeEnteredAt = s.now
  target : u.clearTarget = some target
  supervision : u.supervision = none
  active : u.active = s.active
  links : ∀ r, link u r = noticedLink .mode true (link s r)
  grp : ∀ g, Machine.grp u g = if used s g then terminated s.now (Machine.grp s g) else Machine.grp s g
  work : ∀ x ∈ u.work, ClearsGreen s x

theorem clearingEntered_enterClearing {s : State} (h : Still s) (hwork : s.work = []) (target : ClearTarget) :
    ClearingEntered target s (enterClearing target s) := by
  rw [enterClearing_of_still h]
  have hframe := clearingMode_frame target s
  have hlinks := link_clearingMode target s
  have hmstill := still_clearingMode h target
  generalize clearingMode target s = m at hframe hlinks hmstill
  have hterm := terminated_forEach m
  generalize forEach allGroups junctionTerminate m = c at hterm
  have hrest := hterm.rest
  have hmgrp : ∀ g, Machine.grp m g = Machine.grp s g := fun g => by rw [grp_congr (s := s) (t := m) (by rw [hframe])]
  have hmused : ∀ g, used m g = used s g := used_congr (by rw [hframe])
  have hmnow : m.now = s.now := by rw [hframe]
  refine
    { still := hmstill.of_eq (show c.slots = _ by rw [hrest]) (show c.trams = _ by rw [hrest])
        (show c.commit = _ by rw [hrest])
      mode := ?_
      entered := ?_
      target := ?_
      supervision := ?_
      active := ?_
      links := fun r => ?_
      grp := fun g => ?_
      work := fun x hx g hg => ?_ }
  · show c.mode = _
    rw [hrest]
    show m.mode = _
    rw [hframe]
  · show c.modeEnteredAt = _
    rw [hrest]
    show m.modeEnteredAt = _
    rw [hframe]
  · show c.clearTarget = _
    rw [hrest]
    show m.clearTarget = _
    rw [hframe]
  · show c.supervision = _
    rw [hrest]
    show m.supervision = _
    rw [hframe]
  · show c.active = _
    rw [hrest]
    show m.active = _
    rw [hframe]
  · rw [← hlinks]
    exact link_congr (show c.links = m.links by rw [hrest]) r
  · show Machine.grp c g = _
    rw [hterm.grp, hmused, hmgrp, hmnow]
  · rcases List.mem_append.1 hx with hx | hx
    · rcases hterm.work x hx with hx | hx
      · rw [show m.work = [] by rw [hframe]; exact hwork] at hx
        cases hx
      · rw [← hmgrp]
        exact hx g hg
    · rw [(modeHandoffs_perm c).mem_iff, hg] at hx
      simp at hx

theorem waits_of_terminated {now : Time} {r : GroupRec} (h1 : r.state ≠ .red) (h2 : r.state ≠ .redMin) :
    (terminated now r).state ≠ .red ∧ (terminated now r).state ≠ .redMin := by
  unfold terminated
  split
  · exact ⟨by simp, by simp⟩
  · split <;> exact ⟨h1, h2⟩

/-- MODE DARK or FLASH in a quiet NORMAL junction with a group not at red enters CLEARING (R64). -/
theorem mode_clears {role : Role} {params : List Byte} {s : State} {target : ClearTarget} (hr : role ≠ .tramnet)
    (h : Answerable role params s) (hq : Quiet s)
    (hwaits : ∃ g, used s g = true ∧ (grp s g).state ≠ .red ∧ (grp s g).state ≠ .redMin)
    (ho : modeOwner params (setSeen role s) = (enterClearing target (setSeen role s), plain .done)) :
    ∃ t, exec (.mode role params) s = .next t ∧ Holds role (plain .done) t ∧ t.mode = .clearing ∧
      t.modeEnteredAt = s.now ∧ t.clearTarget = some target ∧ t.supervision = none ∧ SeenHave .mode s t ∧
      ∀ g, used s g = true →
        ∃ d, grp t g = { terminated s.now (grp s g) with demand := d } ∧
          ((grp s g).state ≠ .green → grp t g = terminated s.now (grp s g)) := by
  have hu := clearingEntered_enterClearing (s := setSeen role s) (hq.still.of_eq rfl rfl rfl) hq.work target
  generalize enterClearing target (setSeen role s) = u at hu ho
  obtain ⟨w, hw, hexec⟩ := execMode_answered hr h ho (by rw [hu.links, noticedLink_seen]; simp [setSeen])
  have hwrest := hw.rest
  have hwactive : w.active = s.active := by rw [hwrest]; exact hu.active
  have hwgrp : ∀ g, used s g = true → grp w g = terminated s.now (grp s g) := fun g hg => by
    rw [grp_congr (s := u) (t := w) (by rw [hwrest]), hu.grp]
    exact if_pos hg
  have hstands : ClearingStands s w w := by
    obtain ⟨i, hi, h1, h2⟩ := hwaits
    exact
      { still := hu.still.of_eq (by rw [hwrest]) (by rw [hwrest]) (by rw [hwrest])
        mode := by rw [hwrest]; exact hu.mode
        waits := ⟨i, by rw [used_congr hwactive]; exact hi, by rw [hwgrp i hi]; exact waits_of_terminated h1 h2⟩
        demands := fun _ => rfl
        others := fun _ _ => rfl
        rest := rfl }
  have hend := hstands.settle (by rw [hwrest]; exact hu.work) settleFuel
  have htrest := hend.rest
  have htlinks : ∀ r, link (settle settleFuel w) r = link w r := link_congr (by rw [htrest])
  refine ⟨settle settleFuel w, hexec, ⟨by rw [htlinks]; exact hw.holds.slot, by rw [htlinks]; exact hw.holds.seen⟩,
    hend.mode, ?_, ?_, ?_, fun r hseen => ?_,
    fun g hg => ⟨(grp (settle settleFuel w) g).demand, ?_, fun hgreen => ?_⟩⟩
  · rw [htrest]
    show w.modeEnteredAt = _
    rw [hwrest]
    exact hu.entered
  · rw [htrest]
    show w.clearTarget = _
    rw [hwrest]
    exact hu.target
  · rw [htrest]
    show w.supervision = _
    rw [hw.supervision (by rw [hu.mode]; decide)]
    exact hu.supervision
  · unfold hasNotice
    rw [htlinks]
    refine hw.seenHave (fun r' hr' => ?_) r hseen
    unfold hasNotice
    rw [hu.links]
    exact look_noticedLink_own .mode hr'
  · rw [← hwgrp g hg]
    exact hend.demands g
  · rw [hend.others g hgreen, hwgrp g hg]

/-! ### The table of MODE (R60) -/

theorem wantedMode_eq_none : ∀ b : Byte, b ≠ 0#8 → b ≠ 1#8 → b ≠ 3#8 → wantedMode b = none := by decide

theorem modeOwner_unknown {b : Byte} (s : State) (h0 : b ≠ 0#8) (h1 : b ≠ 1#8) (h3 : b ≠ 3#8) :
    modeOwner [b] s = refuse .refusedParam s := by
  simp [modeOwner, wantedMode_eq_none b h0 h1 h3]

theorem modeOwner_normal (s : State) : modeOwner [3#8] s = wantNormal s := rfl

theorem modeOwner_target (target : ClearTarget) (s : State) : modeOwner [targetByte target] s = wantResting target s := by
  cases target <;> rfl

theorem wantNormal_refused {s : State} (h : s.mode = .clearing ∨ s.mode = .lockout) :
    wantNormal s = (s, plain .refusedMode) := by
  rcases h with h | h <;> simp [wantNormal, h]

theorem wantNormal_met {s : State} (h : s.mode = .start ∨ s.mode = .normal) : wantNormal s = (s, plain .done) := by
  rcases h with h | h <;> simp [wantNormal, h]

theorem wantNormal_empty {s : State} (h : s.mode = .dark ∨ s.mode = .flash) (hact : s.active = none) :
    wantNormal s = (s, plain .refusedMode) := by
  rcases h with h | h <;> simp [wantNormal, h, hact]

theorem wantNormal_configured {s : State} (h : s.mode = .dark ∨ s.mode = .flash) (hact : s.active.isSome = true) :
    wantNormal s = (enterStart s, plain .done) := by
  rcases h with h | h <;> simp [wantNormal, h, hact]

theorem wantResting_lockout {target : ClearTarget} {s : State} (h : s.mode = .lockout) :
    wantResting target s = (s, plain .refusedMode) := by
  simp [wantResting, h]

theorem wantResting_clearing {target : ClearTarget} {s : State} (h : s.mode = .clearing) :
    wantResting target s = ({ s with clearTarget := some target }, plain .done) := by
  simp [wantResting, h]

theorem wantResting_normal {target : ClearTarget} {s : State} (h : s.mode = .normal) :
    wantResting target s = (enterClearing target s, plain .done) := by
  simp [wantResting, h]

theorem wantResting_met {target : ClearTarget} {s : State} (h : s.mode = targetMode target) :
    wantResting target s = (s, plain .done) := by
  cases target <;> simp [wantResting, targetMode, h]

theorem wantResting_other {target : ClearTarget} {s : State} (hne : s.mode ≠ targetMode target)
    (h : s.mode = .dark ∨ s.mode = .flash ∨ s.mode = .start) :
    wantResting target s = (enterResting (targetMode target) s, plain .done) := by
  rcases h with h | h | h <;> rw [h] at hne <;> simp [wantResting, h, hne]

/-- A MODE request that its owner answers and that hands nothing on. -/
theorem mode_replied {role : Role} {params : List Byte} {s u : State} {reply : Reply} (hr : role ≠ .tramnet)
    (h : Answerable role params s) (hw : u.work = [])
    (ho : modeOwner params (setSeen role s) = (setSeen role u, reply)) :
    ∃ t, exec (.mode role params) s = .next t ∧ Replied role reply u t :=
  ⟨_, execMode_eq hr params s, takeRequest_replied role params _ reply s u h ho hw⟩

/-- What the terminate of CLEARING entry and the demand registered after it leave of a group (R64, R112). -/
theorem terminated_cases {now : Time} {r r' : GroupRec} {d : Option Demand} (hd : r' = { terminated now r with demand := d })
    (hothers : r.state ≠ .green → r' = terminated now r) :
    (r.state = .green → r'.state = .clear ∧ r'.greenEnd = some now) ∧
      (r.state = .prepare ∨ r.state = .greenMin → r' = { r with pendingTerm := some .junction }) ∧
      (r.state = .red ∨ r.state = .redMin ∨ r.state = .clear → r' = r) := by
  refine ⟨fun h => ?_, fun h => ?_, fun h => ?_⟩
  · simp [hd, terminated, h]
  · rcases h with h | h <;> simp [hothers, terminated, proceedState, h]
  · rcases h with h | h | h <;> simp [hothers, terminated, proceedState, h]

/-- Settles O49, by the mode wanted: each row of R60's table is one equation of `wantNormal` or `wantResting`, and one of
`mode_replied`, `mode_starts`, `mode_rests`, `mode_rests_of_red` and `mode_clears`. -/
theorem modeFollowsItsTable : Obligations.ModeFollowsItsTable := by
  intro role b s hr h
  refine ⟨fun h0 h1 h3 => mode_replied (u := s) hr h h.work (modeOwner_unknown _ h0 h1 h3), ?_, ?_⟩
  · rintro rfl
    have ho := modeOwner_normal (setSeen role s)
    refine ⟨fun hm => ?_, fun hm => ?_, fun hm hact => ?_, fun hm hact hc => ?_⟩
    · exact mode_replied (u := s) hr h h.work (ho.trans (wantNormal_refused hm))
    · exact mode_replied (u := s) hr h h.work (ho.trans (wantNormal_met hm))
    · exact mode_replied (u := s) hr h h.work (ho.trans (wantNormal_empty hm hact))
    · exact mode_starts hr h hc (ho.trans (wantNormal_configured hm hact))
  · rintro target rfl
    have ho := modeOwner_target target (setSeen role s)
    intro m
    have hm_eq : m = targetMode target := by cases target <;> rfl
    rw [hm_eq]
    refine ⟨fun hm => ?_, fun hm => ?_, fun hm => ?_, fun hne hm hc => ?_, fun hm hq => ⟨fun hred => ?_, fun hwaits => ?_⟩⟩
    · exact mode_replied (u := s) hr h h.work (ho.trans (wantResting_lockout hm))
    · exact mode_replied (u := { s with clearTarget := some target }) hr h h.work (ho.trans (wantResting_clearing hm))
    · exact mode_replied (u := s) hr h h.work (ho.trans (wantResting_met hm))
    · obtain ⟨t, hexec, hrests⟩ := mode_rests hr h hc (ho.trans (wantResting_other hne hm))
      exact ⟨t, hexec, hrests.holds, hrests.mode, hrests.entered, hrests.phase, hrests.target, hrests.dark, hrests.moded⟩
    · obtain ⟨t, hexec, hrests⟩ := mode_rests_of_red hr h hq hred (ho.trans (wantResting_normal hm))
      exact ⟨t, hexec, hrests.holds, hrests.mode, hrests.entered, hrests.phase, hrests.target, hrests.dark, hrests.moded⟩
    · obtain ⟨t, hexec, hholds, hmode, hentered, htgt, hsup, hmoded, hgroups⟩ :=
        mode_clears hr h hq hwaits (ho.trans (wantResting_normal hm))
      refine ⟨t, hexec, hholds, hmode, hentered, htgt, hsup, hmoded, fun g hu => ?_⟩
      obtain ⟨d, hd, hothers⟩ := hgroups g hu
      exact terminated_cases hd hothers

end Sys2Proof.Machine
end

section
/-! PROOF. A sample of the lamp senses outside a CLEAR_LOCKOUT check (R76 to R79), and the faults that LAMP_OUT and STUCK_ON
latch in a group's fault set (R82, R83). -/

namespace Sys2Proof.Machine

open Sys2Proof

/-! ### One circuit of a sample (R76 to R79) -/

section
variable (k : Kind) (which : Circuit) (phaseOn : Bool) (now : Time) (lit : Bool) (l : LampRec)

/-- A sample writes the sense and one of the mismatch times. -/
theorem sampleLamp_frame :
    sampleLamp k which phaseOn now lit l =
      { l with
        sense := lit
        onMismatch := (sampleLamp k which phaseOn now lit l).onMismatch
        offMismatch := (sampleLamp k which phaseOn now lit l).offMismatch } := by
  unfold sampleLamp
  dsimp only
  repeat' split
  all_goals rfl

@[simp] theorem sampleLamp_cmd : (sampleLamp k which phaseOn now lit l).cmd = l.cmd := by rw [sampleLamp_frame]

/-- A compared circuit that is commanded on has its on-mismatch time updated, where it is proved. -/
theorem sampleLamp_onMismatch :
    (sampleLamp k which phaseOn now lit l).onMismatch =
      if !settling now l && instantOn phaseOn l.cmd && provesOn k which then
        if lit then zeroMismatch else grow onConfirm l.onMismatch
      else l.onMismatch := by
  have hsettling : settling now { l with sense := lit } = settling now l := rfl
  unfold sampleLamp
  dsimp only
  rw [hsettling]
  cases settling now l with
  | true => rfl
  | false =>
    cases instantOn phaseOn l.cmd with
    | true => cases provesOn k which <;> rfl
    | false => cases provesOff k which <;> rfl

/-- A compared circuit that is commanded off has its off-mismatch time updated, where it is proved. -/
theorem sampleLamp_offMismatch :
    (sampleLamp k which phaseOn now lit l).offMismatch =
      if !settling now l && !instantOn phaseOn l.cmd && provesOff k which then
        if lit then grow (offConfirm which) l.offMismatch else zeroMismatch
      else l.offMismatch := by
  have hsettling : settling now { l with sense := lit } = settling now l := rfl
  unfold sampleLamp
  dsimp only
  rw [hsettling]
  cases settling now l with
  | true => rfl
  | false =>
    cases instantOn phaseOn l.cmd with
    | true => cases provesOn k which <;> rfl
    | false => cases provesOff k which <;> rfl

end

/-! ### A sample of all circuits (R77) -/

/-- The circuits of a group after a sample in a state. -/
def sampledLamps (s : State) (sense : BitVec 72) (g : GroupId) (l : Lamps) : Lamps where
  a := sampleLamp (kind s g) .a s.flash.on s.now (senseBit sense g .a) l.a
  b := sampleLamp (kind s g) .b s.flash.on s.now (senseBit sense g .b) l.b
  c := sampleLamp (kind s g) .c s.flash.on s.now (senseBit sense g .c) l.c

theorem sampleGroup_eq (sense : BitVec 72) (g : GroupId) (s : State) :
    sampleGroup sense g s = modLamps g (sampledLamps s sense g) s := rfl

theorem circuit_sampledLamps (s : State) (sense : BitVec 72) (g : GroupId) (l : Lamps) (which : Circuit) :
    circuit (sampledLamps s sense g l) which =
      sampleLamp (kind s g) which s.flash.on s.now (senseBit sense g which) (circuit l which) := by
  cases which <;> rfl

/-- A sample reads the kinds, the flash phase and the time, which it leaves as they are. -/
theorem sampledLamps_congr {s t : State} (ha : t.active = s.active) (hf : t.flash = s.flash) (hn : t.now = s.now)
    (sense : BitVec 72) (g : GroupId) : sampledLamps t sense g = sampledLamps s sense g := by
  unfold sampledLamps
  rw [kind_congr ha, hf, hn]

theorem lamp_sampleGroups (sense : BitVec 72) (s : State) (g : GroupId) :
    lamp (forEach allGroups (sampleGroup sense) s) g = sampledLamps s sense g (lamp s g) := by
  have hread := (read_forEach
    (I := fun u => u.active = s.active ∧ u.flash = s.flash ∧ u.now = s.now) (get := fun u i => (i, lamp u i))
    (f := sampleGroup sense) (w := fun x => (x.1, sampledLamps s sense x.1 x.2)) (fun _ _ hu => hu)
    (fun i u ⟨ha, hf, hn⟩ => by simp [sampleGroup_eq, sampledLamps_congr ha hf hn])
    (fun i j u hij => by simp [sampleGroup_eq, hij]) allGroups nodup_allGroups s ⟨rfl, rfl, rfl⟩).1 g (mem_allGroups g)
  exact (Prod.mk.inj hread).2

/-- Settles O21: each circuit takes its own sample, by the cases of `sampleLamp_onMismatch` and
`sampleLamp_offMismatch`. -/
theorem sampleUpdatesMismatchTimes : Obligations.SampleUpdatesMismatchTimes := by
  intro sense s hcheck
  have hframe := sampleGroups_frame sense s
  have hlamp := lamp_sampleGroups sense s
  have hexec : exec (.lampSenseSample sense) s = .next (sampleCheck sense (forEach allGroups (sampleGroup sense) s)) := rfl
  generalize forEach allGroups (sampleGroup sense) s = t at hframe hlamp hexec
  have hidle : sampleCheck sense t = t := by
    have hnone : t.lockoutCheck = none := by rw [hframe]; exact hcheck
    unfold sampleCheck
    rw [hnone]
  refine ⟨t, hexec.trans (congrArg _ hidle), hframe, fun g which => ?_⟩
  have hl : circuit (lamp t g) which =
      sampleLamp (kind s g) which s.flash.on s.now (senseBit sense g which) (circuit (lamp s g) which) := by
    rw [hlamp, circuit_sampledLamps]
  dsimp only
  rw [hl]
  refine ⟨by rw [sampleLamp_frame], sampleLamp_cmd _ _ _ _ _ _, by rw [sampleLamp_frame],
    sampleLamp_onMismatch _ _ _ _ _ _, ?_⟩
  rw [sampleLamp_offMismatch]
  cases senseBit sense g which <;> cases which <;> rfl

/-! ### Lamp faults (R82, R83) -/

theorem link_raiseLamp (s : State) (r : Role) :
    link (raiseLamp s) r = noticedLink .lamp (noticeRoles .lamp r) (link s r) := by
  unfold raiseLamp raiseFor
  simp only [forEach_cons, forEach_nil, link_raise]
  cases r <;> simp [noticedLink, noticeRoles]

/-- The fault set with LAMP_OUT of a circuit, flag by flag. -/
theorem withLampOut_eq (f : LampFaults) (which : Circuit) :
    withLampOut f which = { f with bOut := f.bOut || which == .b, cOut := f.cOut || which == .c } := by
  obtain ⟨b, c, _, _⟩ := f
  cases which <;> simp [withLampOut]

/-- The fault set with STUCK_ON of a circuit, flag by flag. -/
theorem withStuckOn_eq (f : LampFaults) (which : Circuit) :
    withStuckOn f which = { f with aStuck := f.aStuck || which == .a, bStuck := f.bStuck || which == .b } := by
  obtain ⟨_, _, a, b⟩ := f
  cases which <;> simp [withStuckOn]

/-- A LAMP_OUT that is latched is not added again. -/
theorem withLampOut_of_hasLampOut {f : LampFaults} {which : Circuit} (h : hasLampOut f which = true) :
    withLampOut f which = f := by
  obtain ⟨b, c, _, _⟩ := f
  cases which <;> simp_all [hasLampOut, withLampOut]

/-- A STUCK_ON that is latched is not added again. -/
theorem withStuckOn_of_hasStuckOn {f : LampFaults} {which : Circuit} (h : hasStuckOn f which = true) :
    withStuckOn f which = f := by
  obtain ⟨_, _, a, b⟩ := f
  cases which <;> simp_all [hasStuckOn, withStuckOn]

/-- A group's fault set takes the value `faults`, and a LAMP notice is raised when the fault is new; nothing else changes
but for the lamps. -/
structure Latched (g : GroupId) (faults : LampFaults) (new : Bool) (s t : State) : Prop where
  own : grp t g = { grp s g with faults := faults }
  others : ∀ h, h ≠ g → grp t h = grp s h
  links : ∀ r, link t r = noticedLink .lamp (noticeRoles .lamp r && new) (link s r)
  rest : t = { s with groups := t.groups, lamps := t.lamps, links := t.links }

/-- A fault that is in the set already changes nothing but, by its mark, the lamps. -/
theorem Latched.of_held {g : GroupId} {s u : State} (hu : u = { s with lamps := u.lamps }) :
    Latched g (grp s g).faults false s u where
  own := grp_congr (by rw [hu]) g
  others h _ := grp_congr (by rw [hu]) h
  links r := by
    rw [link_congr (s := s) (t := u) (by rw [hu])]
    simp [noticedLink]
  rest := by rw [hu]

/-- A new fault enters the set with its notice. -/
theorem Latched.of_new {g : GroupId} {s u : State} (hu : u = { s with lamps := u.lamps })
    (w : LampFaults → LampFaults) :
    Latched g (w (grp s g).faults) true s (raiseLamp (modGroup g (fun r => { r with faults := w r.faults }) u)) := by
  have hgrp (h : GroupId) : grp u h = grp s h := grp_congr (by rw [hu]) h
  have hraised : raiseLamp (modGroup g (fun r => { r with faults := w r.faults }) u) =
      { modGroup g (fun r => { r with faults := w r.faults }) u with
        links := (raiseLamp (modGroup g (fun r => { r with faults := w r.faults }) u)).links } := raiseFor_frame _ _ _
  have hlink (r : Role) := link_raiseLamp (modGroup g (fun r => { r with faults := w r.faults }) u) r
  generalize raiseLamp (modGroup g (fun r => { r with faults := w r.faults }) u) = t at hraised hlink
  have hgroups (h : GroupId) : grp t h = grp (modGroup g (fun r => { r with faults := w r.faults }) u) h :=
    grp_congr (by rw [hraised]) h
  refine ⟨?_, fun h hh => ?_, fun r => ?_, ?_⟩
  · simp [hgroups, hgrp]
  · simp [hgroups, hgrp, Ne.symm hh]
  · rw [hlink, Bool.and_true, link_congr (s := s) (by rw [hu]; rfl)]
  · rw [hraised, hu]
    rfl

theorem latched_latchLampOut {g : GroupId} {s u : State} (hu : u = { s with lamps := u.lamps }) (which : Circuit) :
    Latched g (withLampOut (grp s g).faults which) (!hasLampOut (grp s g).faults which) s (latchLampOut g which u) := by
  unfold latchLampOut
  rw [grp_congr (s := s) (t := u) (by rw [hu])]
  cases hhas : hasLampOut (grp s g).faults which with
  | true =>
    rw [withLampOut_of_hasLampOut hhas]
    exact .of_held hu
  | false => exact .of_new hu fun f => withLampOut f which

theorem latched_latchStuckOn {g : GroupId} {s u : State} (hu : u = { s with lamps := u.lamps }) (which : Circuit) :
    Latched g (withStuckOn (grp s g).faults which) (!hasStuckOn (grp s g).faults which) s (latchStuckOn g which u) := by
  unfold latchStuckOn
  rw [grp_congr (s := s) (t := u) (by rw [hu])]
  cases hhas : hasStuckOn (grp s g).faults which with
  | true =>
    rw [withStuckOn_of_hasStuckOn hhas]
    exact .of_held hu
  | false => exact .of_new hu fun f => withStuckOn f which

/-- Settles O24: the confirmation is marked as handed on, which writes the lamps alone, and the fault is latched. -/
theorem lampFaultsAreLatched : Obligations.LampFaultsAreLatched := by
  intro g which s
  refine ⟨fun hne hconfirmed => ?_, fun hne hconfirmed => ?_⟩
  · have hexec : exec (.lampOut g which) s = .next (latchLampOut g which (handOnMismatch g which s)) := by
      show Host.Outcome.next (if which ≠ .a ∧ onConfirmed s g which = true then _ else _) = _
      rw [if_pos ⟨hne, hconfirmed⟩]
    obtain ⟨hown, hothers, hlinks, hrest⟩ :=
      latched_latchLampOut (g := g) (s := s) (u := handOnMismatch g which s) rfl which
    rw [withLampOut_eq] at hown
    exact ⟨_, hexec, hown, hothers, hlinks, hrest⟩
  · have hexec : exec (.stuckOn g which) s = .next (latchStuckOn g which (handOffMismatch g which s)) := by
      show Host.Outcome.next (if which ≠ .c ∧ offConfirmed s g which = true then _ else _) = _
      rw [if_pos ⟨hne, hconfirmed⟩]
    obtain ⟨hown, hothers, hlinks, hrest⟩ :=
      latched_latchStuckOn (g := g) (s := s) (u := handOffMismatch g which s) rfl which
    rw [withStuckOn_eq] at hown
    exact ⟨_, hexec, hown, hothers, hlinks, hrest⟩

end Sys2Proof.Machine
end

section
/-! SUPPORT. What a command can do to the lamp circuits and to what the table of R74 reads, said once: a group that enters a
state takes its commands there; a mode change, START's red phase and a configuration apply give every circuit its command;
nothing else changes the state of a group, its kind, the flash pattern or a command. A property kept by these is kept by
every command. -/

namespace Sys2Proof.Machine

open Sys2Proof

/-- The lamp circuits, and what the table of R74 reads: the groups, the active image and the flash pattern. -/
def aspects (s : State) : Vector Lamps 24 × Vector GroupRec 24 × Option Image × Bool :=
  (s.lamps, s.groups, s.active, showsPattern s)

/-! ### Operations that leave the aspects alone -/

theorem aspects_transitionOwner (role : Role) (params : List Byte) (s : State) :
    aspects (transitionOwner role params s).1 = aspects s := by
  unfold transitionOwner acceptTransition refuse
  repeat' split
  all_goals rfl

theorem aspects_discardReply (role : Role) (s : State) : aspects (discardReply role s) = aspects s := by
  rw [UnusedLaw.discardReply_frame]
  rfl

theorem aspects_noticePollOwner (role : Role) (s : State) : aspects (noticePollOwner role s).1 = aspects s := by
  unfold noticePollOwner
  split <;> rfl

/-- A reply frame writes the links and the reply line alone. -/
theorem aspects_readReply (role : Role) (n : Nat) (s : State) : aspects (readReply role n s) = aspects s := by
  unfold readReply
  dsimp only
  repeat' split
  all_goals rfl

/-! ### What commands are made of -/

/-- The updates of the aspects that commands are made of keep a property. Unlike under `PartKeeps`, the lamps of a group may
not change as they please: a command of a circuit changes with the table's reading alone. -/
structure AspectsKeep (P : State → Prop) : Prop where
  /-- The aspects stay as they are. -/
  same : ∀ s t, aspects t = aspects s → P s → P t
  /-- Fields of a group record other than its state change. -/
  group : ∀ g f s, (∀ r, (f r).state = r.state) → P s → P (modGroup g f s)
  /-- The lamps of a group change, but for the commands. -/
  lamps : ∀ g f s, (∀ l which, (circuit (f l) which).cmd = (circuit l which).cmd) → P s → P (modLamps g f s)
  /-- Junction time advances. -/
  advance : ∀ s, P s → P (advanceTime s)
  /-- A group enters a state and takes its lamp commands. -/
  enter : ∀ g st s, P s → P (refreshLamps g (modGroup g (fun r => { r with state := st, enteredAt := s.now }) s))
  /-- Every circuit takes its command, whatever stood before. -/
  refresh : ∀ s, P (refreshAllLamps s)
  /-- The part after a reset. -/
  reset : ∀ service carried straps level store cause pending order,
    P (afterReset service carried straps level store cause pending order)

namespace AspectsKeep

variable {P : State → Prop} {s : State}

/-- A next state that `exec` names has the property when the state it is built as has. -/
theorem of_next {t u : State} (he : (.next u : Host.Outcome State Fault Refusal) = .next t) (hu : P u) : P t := by
  cases he
  exact hu

/-- An event that is taken when it is due. -/
theorem event {c : Prop} [Decidable c] {u : State} (hs : P s) (hu : c → P u) : P (if c then u else s) :=
  iteInduction (motive := P) hu fun _ => hs

theorem onTram {act : EntryId → TramRec → State → State} (hact : ∀ k r s, P s → P (act k r s)) (params : List Byte)
    (s : State) (hs : P s) : P (Machine.onTram act params s).1 := by
  unfold Machine.onTram
  split
  · exact hs
  · split
    · exact hs
    · split
      · exact hact _ _ s hs
      · exact hs

variable (H : AspectsKeep P)

include H

/-- The four blocks keep what the aspects keep. -/
theorem blocks : BlocksKeep P where
  work s _ := H.same s _ rfl
  order s _ := H.same s _ rfl
  raise n r s := H.same s _ (by rw [raise_frame]; rfl)
  group := H.group
  enter g st s _ := H.enter g st s
  record _ _ s _ := H.same s _ rfl
  finish _ _ _ _ s _ _ := H.same s _ rfl
  post _ _ _ _ _ s := H.same s _ rfl
  tram _ _ s _ := H.same s _ rfl
  gone _ s := H.same s _ rfl
  stats _ _ s := H.same s _ rfl

/-! ### Signal group table -/

theorem enterState (g : GroupId) (st : GState) (hs : P s) : P (Machine.enterState g st s) :=
  iteInduction (motive := P) (fun _ => hs) (fun _ => H.blocks.handOn _ (H.enter g st s hs))

/-- A write to the record of a group, and then an entry. -/
theorem writeAndEnter (g : GroupId) (st : GState) (f : GroupRec → GroupRec) (hf : ∀ r, (f r).state = r.state)
    (hs : P s) : P (Machine.enterState g st (modGroup g f s)) := H.enterState g st (H.group g f s hf hs)

/-- All used groups are forced to a state (R17). -/
theorem forceAll (f : GroupRec → GroupRec) (st : GState) (hf : ∀ r, (f r).state = r.state) (hs : P s) :
    P (forEach allGroups (forceGroup f st) s) :=
  forEach_keeps P _ _ (fun g _ _ hu => iteInduction (motive := P) (fun _ => H.writeAndEnter g st f hf hu) (fun _ => hu))
    s hs

theorem enterGreenMin (g : GroupId) (u : Time) (hs : P s) : P (Machine.enterGreenMin g u s) :=
  H.writeAndEnter g .greenMin _ (fun _ => rfl) hs

theorem leaveGreenMin (g : GroupId) (hs : P s) : P (Machine.leaveGreenMin g s) :=
  iteInduction (motive := P) (fun _ => H.writeAndEnter g .clear _ (fun _ => rfl) hs) (fun _ => H.enterState g .green hs)

theorem beginPrepare (g : GroupId) (sch : Schedule) (hs : P s) : P (Machine.beginPrepare g sch s) :=
  iteInduction (motive := P) (fun _ => H.enterGreenMin g sch.t hs) (fun _ => H.enterState g .prepare hs)

/-! ### Junction mode controller -/

theorem enterMode (m : Mode) (s : State) : P (Machine.enterMode m s) := H.refresh _

theorem enterStart (s : State) : P (Machine.enterStart s) := H.blocks.emit _ (H.enterMode .start _)

theorem enterResting (m : Mode) (s : State) : P (Machine.enterResting m s) :=
  H.blocks.emit _ (H.forceAll _ .dark (fun _ => rfl) (H.enterMode m _))

theorem enterNormal (s : State) : P (Machine.enterNormal s) :=
  H.blocks.handOn _ (H.forceAll _ .red (fun _ => rfl) (H.enterMode .normal _))

theorem enterRedPhase (s : State) : P (Machine.enterRedPhase s) := H.refresh _

theorem junctionTerminate (g : GroupId) (hs : P s) : P (Machine.junctionTerminate g s) :=
  iteInduction (motive := P) (fun _ => H.blocks.takeTerminate g (H.group g _ s (fun _ => rfl) hs)) (fun _ => hs)

theorem enterClearing (target : ClearTarget) (s : State) : P (Machine.enterClearing target s) :=
  H.blocks.handOn _ (forEach_keeps P _ _ (fun g _ _ hu => H.junctionTerminate g hu) _
    (H.blocks.cancelAll .mode (H.enterMode .clearing _)))

theorem enterLockout (g : GroupId) (which : Circuit) (hs : P s) : P (Machine.enterLockout g which s) :=
  iteInduction (motive := P) (fun _ => hs) (fun _ => H.blocks.handOn _ (H.refresh _))

/-! ### Detectors and trams -/

theorem occupy (src : DemandSource) (g : GroupId) (hs : P s) : P (Machine.occupy src g s) :=
  iteInduction (motive := P) (fun _ => H.group g _ s (fun _ => rfl) hs) (fun _ => hs)

theorem takeFaultEntry (ch : ChannelId) (g : GroupId) (hs : P s) : P (Machine.takeFaultEntry ch g s) :=
  iteInduction (motive := P) (fun _ => H.group g _ s (fun _ => rfl) hs) (fun _ => hs)

theorem loopCheckOut (a : ApproachId) (hs : P s) : P (Machine.loopCheckOut a s) := by
  unfold Machine.loopCheckOut
  split
  · exact H.same s _ rfl hs
  · split
    · exact H.blocks.checkOut _ _ hs
    · exact hs

theorem handOccupancy (c : LoopCfg) (ch : ChannelId) (old new : ChState) (hs : P s) :
    P (Machine.handOccupancy c ch old new s) := by
  unfold Machine.handOccupancy
  split
  · next g _ =>
    have hoccupied : P _ := iteInduction (c := new = .occupied ∧ old ≠ .occupied) (motive := P)
      (fun _ => H.occupy (.loop ch) g hs) (fun _ => hs)
    have hfailed : P _ := iteInduction (c := new = .fault ∧ old ≠ .fault) (motive := P)
      (fun _ => H.takeFaultEntry ch g hoccupied) (fun _ => hoccupied)
    exact iteInduction (motive := P) (fun _ => H.group g _ _ (fun _ => rfl) hfailed) (fun _ => hfailed)
  · exact iteInduction (motive := P) (fun _ => H.loopCheckOut _ hs) (fun _ => hs)
  · exact hs

theorem updateGapOf (fed : Option GroupId) (hs : P s) : P (Machine.updateGapOf fed s) := by
  unfold Machine.updateGapOf
  split
  · exact H.blocks.updateGap _ hs
  · exact hs

theorem handChannel (c : LoopCfg) (ch : ChannelId) (old new : ChState) (hs : P s) :
    P (Machine.handChannel c ch old new s) := H.updateGapOf _ (H.handOccupancy c ch old new hs)

theorem afterChannel (ch : ChannelId) (old : ChState) (hs : P s) : P (Machine.afterChannel ch old s) := by
  have hraised : P _ := iteInduction (c := ((channel s ch).state = .fault) ≠ (old = .fault)) (motive := P)
    (fun _ => H.blocks.raiseFor .detector [.plan, .service] hs) (fun _ => hs)
  exact iteInduction (motive := P) (fun _ => hraised) (fun _ => H.handChannel _ ch old _ hraised)

theorem completeMeasurement (e : EngineId) (m : LoopCfg → Measured) (hs : P s) :
    P (Machine.completeMeasurement e m s) := by
  unfold Machine.completeMeasurement
  split
  · exact hs
  · exact H.afterChannel _ _ (H.same s _ rfl hs)

theorem expirePresence (ch : ChannelId) (hs : P s) : P (Machine.expirePresence ch s) :=
  H.handChannel _ ch _ _ (H.blocks.raiseFor .detector [.plan, .service] (H.same s (modChannel ch giveUp s) rfl hs))

theorem changeDebounced (i : InputId) (hs : P s) : P (Machine.changeDebounced i s) := by
  have hchanged : P (modInput i changeInput s) := H.same s _ rfl hs
  refine iteInduction (motive := P) (fun _ => H.updateGapOf _ hchanged) (fun _ => ?_)
  unfold handActivation
  split
  · exact H.blocks.updateGap _ (H.occupy _ _ hchanged)
  · exact H.loopCheckOut _ hchanged
  · exact hchanged

theorem takeCheckIn (c : CheckIn) (hs : P s) : P (Machine.takeCheckIn c s).1 := by
  unfold Machine.takeCheckIn
  split
  · exact hs
  · split
    · split
      · exact H.blocks.updateTram _ _ c _ hs
      · exact hs
    · split
      · exact H.blocks.evaluate _ _ (H.same s _ rfl hs)
      · exact hs

theorem beaconCheckIn (c : CheckIn) (hs : P s) : P (Machine.beaconCheckIn c s) := by
  have htaken := H.takeCheckIn c hs
  unfold Machine.beaconCheckIn
  split
  · next hc => rw [hc] at htaken; exact htaken
  · next u hc => rw [hc] at htaken; exact H.same u _ rfl htaken
  · next u hc => rw [hc] at htaken; exact H.blocks.raiseFor _ _ (H.same u _ rfl htaken)

theorem handMessage (a : ApproachId) (m : Message) (hs : P s) : P (Machine.handMessage a m s) := by
  cases m with
  | checkIn c => exact H.beaconCheckIn c hs
  | checkOut number =>
    show P (beaconCheckOut number a s)
    unfold beaconCheckOut
    split
    · exact H.same s _ rfl hs
    · split
      · exact H.blocks.checkOut _ _ hs
      · exact hs
  | cancel number =>
    show P (beaconCancel number a s)
    unfold beaconCancel
    split
    · exact H.same s _ rfl hs
    · split
      · exact H.blocks.removeTram _ _ hs
      · exact hs
  | status => exact hs

theorem takeTelegram (telegram : List Byte) (hs : P s) : P (Machine.takeTelegram telegram s) := by
  unfold Machine.takeTelegram
  refine iteInduction (motive := P) (fun _ => ?_) (fun _ => H.same s _ rfl hs)
  split
  · exact H.handMessage _ _ (H.same s _ rfl hs)
  · exact H.same s _ rfl hs

theorem takeCompleted (b : Byte) (hs : P s) : P (Machine.takeCompleted b s) := by
  unfold Machine.takeCompleted
  dsimp only
  split
  · exact H.takeTelegram _ (H.same s _ rfl hs)
  · exact H.same s _ rfl hs

/-! ### Configuration apply (R87, R169) -/

theorem applyEngine (old : Image) (e : EngineId) (hs : P s) : P (Machine.applyEngine old e s) := by
  unfold Machine.applyEngine
  split
  · exact H.same s _ rfl hs
  · exact iteInduction (motive := P) (fun _ => H.same s _ rfl hs) (fun _ => hs)

theorem applyLoops (old : Image) (hs : P s) : P (Machine.applyLoops old s) := by
  unfold Machine.applyLoops
  refine forEach_keeps P _ _ (fun e _ _ hu => H.applyEngine old e hu) _ ?_
  refine forEach_keeps P _ _ (fun ch _ _ hu => H.handOccupancy _ ch _ _ hu) _ ?_
  exact forEach_keeps P _ _ (fun ch _ u hu => H.same u (modChannel ch _ u) rfl hu) s hs

theorem applyInputs (old : Image) (hs : P s) : P (Machine.applyInputs old s) :=
  forEach_keeps P _ _ (fun i _ u hu => H.same u (modInput i _ u) rfl hu) s hs

theorem applyGaps (hs : P s) : P (Machine.applyGaps s) :=
  forEach_keeps P _ _ (fun g _ _ hu => H.blocks.updateGap g hu) s hs

theorem applyBeacon (old : Image) (hs : P s) : P (Machine.applyBeacon old s) :=
  iteInduction (motive := P) (fun _ => hs) (fun _ => H.same s _ rfl hs)

/-- Lamp drive gives every circuit its command under the new image, and the blocks that take the apply after it go on from
there. -/
theorem applyImage (s : State) : P (Machine.applyImage s) := by
  have hlamps (u : State) : P (applyLampsAll u) := H.refresh _
  exact H.blocks.emit _ (H.blocks.applyTrams _ (H.applyBeacon _ (H.applyGaps (H.applyInputs _ (H.applyLoops _
    (H.blocks.retestAll (hlamps _)))))))

theorem settled (s : State) (hs : P s) : P (Machine.settled s) :=
  H.blocks.settled (fun u hu => iteInduction (motive := P) (fun _ => H.applyImage u) (fun _ => hu))
    (fun u hu => iteInduction (motive := P) (fun _ => H.enterResting _ u) (fun _ => hu))
    (fun u hu => iteInduction (motive := P) (fun _ => H.enterClearing .flash u) (fun _ => hu)) s hs

/-! ### Requests -/

theorem takeRequest {owner : State → State × Reply} (howner : ∀ s, P s → P (owner s).1) (role : Role) (granted : Bool)
    (params : List Byte) (s : State) (hs : P s) : P (Machine.takeRequest role granted params owner s) :=
  takeRequest_keeps (fun _ _ s => H.same s _ rfl) (fun s _ => H.same s _ rfl) H.settled howner role granted params s hs

/-- A request whose owner leaves the aspects as they are. -/
theorem takeRequest_of_same {owner : State → State × Reply} (ho : ∀ s, aspects (owner s).1 = aspects s) (role : Role)
    (granted : Bool) (params : List Byte) (s : State) (hs : P s) :
    P (Machine.takeRequest role granted params owner s) :=
  H.takeRequest (fun s => H.same s _ (ho s)) role granted params s hs

/-- The same for a request without parameters. -/
theorem takeRequest_of_noParams {owner : State → State × Reply} (ho : ∀ s, aspects (owner s).1 = aspects s)
    (role : Role) (granted : Bool) (params : List Byte) (s : State) (hs : P s) :
    P (Machine.takeRequest role granted params (noParams params owner) s) :=
  H.takeRequest (noParams_keeps (fun s => H.same s _ (ho s)) params) role granted params s hs

/-- A read leaves the state as it is (R158). -/
theorem takeRequest_of_read {owner : State → State × Reply} (ho : ∀ s, (owner s).1 = s) (role : Role) (granted : Bool)
    (params : List Byte) (s : State) (hs : P s) : P (Machine.takeRequest role granted params owner s) :=
  H.takeRequest_of_same (fun s => by rw [ho]) role granted params s hs

theorem demandOwner (params : List Byte) (s : State) (hs : P s) : P (Machine.demandOwner params s).1 := by
  unfold Machine.demandOwner
  split
  · exact hs
  · refine forEach_keeps P _ _ (fun g _ u hu => H.group g _ u ?_ hu) s hs
    exact fun _ => rfl

theorem priorityInhibitOwner (params : List Byte) (s : State) (hs : P s) :
    P (Machine.priorityInhibitOwner params s).1 := by
  unfold Machine.priorityInhibitOwner
  split
  · exact hs
  · next set gs _ =>
    refine forEach_keeps P _ _ (fun g _ u hu => ?_) s hs
    have hwritten : P (modGroup g (fun r => { r with priorityInhibited := set }) u) := H.group g _ u (fun _ => rfl) hu
    exact iteInduction (motive := P) (fun _ => H.blocks.emit _ hwritten) (fun _ => hwritten)

theorem groupInhibitOwner (params : List Byte) (s : State) (hs : P s) : P (Machine.groupInhibitOwner params s).1 := by
  unfold Machine.groupInhibitOwner
  split
  · exact hs
  · refine forEach_keeps P _ _ (fun g _ u hu => ?_) s hs
    exact iteInduction (motive := P) (fun _ => hu) (fun _ => H.blocks.handOn _ (H.group g _ u (fun _ => rfl) hu))

theorem cancelTransitionOwner (role : Role) (params : List Byte) (s : State) (hs : P s) :
    P (Machine.cancelTransitionOwner role params s).1 := by
  unfold Machine.cancelTransitionOwner
  split
  · split
    · exact hs
    · split
      · exact H.blocks.cancelRecord _ _ hs
      · exact hs
  · exact hs

theorem wantNormal (s : State) (hs : P s) : P (Machine.wantNormal s).1 := by
  have hstart : P (if s.active.isSome then (Machine.enterStart s, plain .done) else (s, plain .refusedMode)).1 :=
    iteInduction (motive := fun x : State × Reply => P x.1) (fun _ => H.enterStart s) (fun _ => hs)
  unfold Machine.wantNormal
  split
  · exact hstart
  · exact hstart
  all_goals exact hs

theorem wantResting (target : ClearTarget) (s : State) (hs : P s) : P (Machine.wantResting target s).1 := by
  unfold Machine.wantResting
  split
  · exact hs
  · exact H.same s _ rfl hs
  · exact H.enterClearing target s
  · exact H.enterResting _ s
  · split
    · exact hs
    · exact H.enterResting _ s

theorem modeOwner (params : List Byte) (s : State) (hs : P s) : P (Machine.modeOwner params s).1 := by
  unfold Machine.modeOwner
  split
  · split
    · exact H.wantNormal s hs
    · exact H.wantResting .flash s hs
    · exact H.wantResting .dark s hs
    · exact hs
  · exact hs

theorem tramCheckInOwner (params : List Byte) (s : State) (hs : P s) : P (Machine.tramCheckInOwner params s).1 := by
  unfold Machine.tramCheckInOwner
  split
  · exact hs
  · exact H.takeCheckIn _ hs

theorem clearLampFaultsOwner (params : List Byte) (s : State) (hs : P s) :
    P (Machine.clearLampFaultsOwner params s).1 := by
  unfold Machine.clearLampFaultsOwner
  split
  · exact hs
  · refine forEach_keeps P _ _ (fun g _ u hu => ?_) s hs
    have hcleared : P (modLamps g clearLampTimes (modGroup g withoutFaults u)) :=
      H.lamps g _ _ (fun l which => by rw [circuit_clearLampTimes]; rfl) (H.group g _ u (fun _ => rfl) hu)
    exact iteInduction (motive := P) (fun _ => H.blocks.emit _ hcleared) (fun _ => hcleared)

/-! ### Lamp events -/

theorem sampleGroups (sense : BitVec 72) (hs : P s) : P (forEach allGroups (sampleGroup sense) s) :=
  forEach_keeps P _ _ (fun g _ u hu => H.lamps g (sampledLamps u sense g) u
    (fun l which => by rw [circuit_sampledLamps, sampleLamp_cmd]) hu) s hs

theorem completePending (r : Role) (reply : Reply) (hs : P s) : P (Machine.completePending r reply s) :=
  H.blocks.raise _ _ _ (H.same s _ rfl hs)

theorem sampleCheck (sense : BitVec 72) (hs : P s) : P (Machine.sampleCheck sense s) := by
  unfold Machine.sampleCheck
  split
  · exact hs
  · refine iteInduction (motive := P) (fun _ => hs) (fun _ => ?_)
    exact iteInduction (motive := P) (fun _ => H.completePending _ _ (H.same s _ rfl hs)) (fun _ => H.same s _ rfl hs)

theorem handOnMismatch (g : GroupId) (which : Circuit) (hs : P s) : P (Machine.handOnMismatch g which s) :=
  H.lamps g _ s (fun _ which' => by cases which <;> cases which' <;> rfl) hs

theorem handOffMismatch (g : GroupId) (which : Circuit) (hs : P s) : P (Machine.handOffMismatch g which s) :=
  H.lamps g _ s (fun _ which' => by cases which <;> cases which' <;> rfl) hs

/-- A lamp fault is written in the group's record, with its notice (R81, R82). -/
theorem raiseLamp_modGroup (g : GroupId) (f : GroupRec → GroupRec) (hf : ∀ r, (f r).state = r.state) (hs : P s) :
    P (raiseLamp (modGroup g f s)) := H.blocks.raiseFor _ _ (H.group g f s hf hs)

theorem markLost (g : GroupId) (hs : P s) : P (Machine.markLost g s) :=
  iteInduction (motive := P) (fun _ => hs) (fun _ => H.blocks.handOn _ (H.blocks.raiseAll _
    (H.raiseLamp_modGroup g _ (fun _ => rfl) hs)))

theorem latchLampOut (g : GroupId) (which : Circuit) (hs : P s) : P (Machine.latchLampOut g which s) :=
  iteInduction (motive := P) (fun _ => hs) (fun _ => H.raiseLamp_modGroup g _ (fun _ => rfl) hs)

theorem latchStuckOn (g : GroupId) (which : Circuit) (hs : P s) : P (Machine.latchStuckOn g which s) :=
  iteInduction (motive := P) (fun _ => hs) (fun _ => H.raiseLamp_modGroup g _ (fun _ => rfl) hs)

theorem changeFlashPhase (hs : P s) : P (Machine.changeFlashPhase s) := by
  rw [changeFlashPhase_eq]
  refine forEach_keeps P _ _ (fun g _ u hu => H.lamps g (phaseChangeLamps u.now) u (fun l which => ?_) hu) _
    (H.same s _ rfl hs)
  rw [circuit_phaseChangeLamps]
  unfold phaseChangeLamp
  split <;> rfl

/-! ### The link -/

theorem countError (r : Role) (f : LinkCounts → LinkCounts) (hs : P s) : P (Machine.countError r f s) :=
  H.same s _ rfl hs

theorem setSeen (r : Role) (hs : P s) : P (Machine.setSeen r s) := H.same s _ rfl hs

theorem dropFrame (bytes : List Byte) (hs : P s) : P (Machine.dropFrame bytes s) := by
  unfold Machine.dropFrame countFormat
  split
  · exact hs
  · split
    · exact hs
    · split
      · exact hs
      · exact H.countError _ _ hs
      · exact H.countError _ _ hs
      · exact H.countError _ _ (H.setSeen _ hs)

theorem timedOutSeen (frame : TimedFrame) (r : Role) (hs : P s) : P (Machine.timedOutSeen frame r s) := by
  unfold Machine.timedOutSeen
  split
  · exact H.setSeen r hs
  · exact hs
  · exact hs

/-! ### Commands -/

theorem dropOne (g : GroupId) (stamp : Stamp) (hs : P s) :
    P (Machine.dropOne g stamp s) := by
  have hdropped : P (modGroup g (fun r => dropStamp r stamp) s) := H.group g _ s (fun r => by cases stamp <;> rfl) hs
  exact iteInduction (motive := P) (fun _ => H.settled _ (H.blocks.takeTerminate g hdropped)) (fun _ => hdropped)

/-- Every command keeps what the updates of the aspects keep. -/
theorem exec (c : Instr) {t : State} (hs : P s) (he : Machine.exec c s = .next t) : P t := by
  cases c with
  | powerOnReset pins => exact of_next he (H.reset _ _ _ _ _ _ _ _)
  | autostart =>
    refine of_next he (event hs fun _ => ?_)
    have hdone : P { s with autostartDue := false } := H.same s _ rfl hs
    exact event hdone fun _ => H.settled _ (H.enterStart _)
  | junctionTimeAdvance => exact of_next he (H.advance s hs)
  | flashPhaseChange => exact of_next he (event hs fun _ => H.changeFlashPhase hs)
  | stampDrop g stamp => exact of_next he (event hs fun _ => H.dropOne g stamp hs)
  | minimumRedExpires g => exact of_next he (event hs fun _ => H.settled _ (H.enterState g _ hs))
  | nowReachesS g =>
    refine of_next he ?_
    split
    · exact H.settled _ (H.beginPrepare g _ hs)
    · exact hs
  | nowReachesT g =>
    refine of_next he ?_
    split
    · exact H.settled _ (H.enterGreenMin g _ hs)
    · exact hs
  | minimumGreenExpires g => exact of_next he (event hs fun _ => H.settled _ (H.leaveGreenMin g hs))
  | nowReachesHoldUntil g => exact of_next he (event hs fun _ => H.settled _ (H.blocks.takeTerminate g hs))
  | clearTimeExpires g =>
    refine of_next he (event hs fun _ => H.settled _ (H.writeAndEnter g .redMin _ ?_ hs))
    exact fun _ => rfl
  | startFlashExpires => exact of_next he (event hs fun _ => H.settled _ (H.enterRedPhase s))
  | startRedExpires => exact of_next he (event hs fun _ => H.settled _ (H.enterNormal s))
  | supervisionExpires => exact of_next he (event hs fun _ => H.settled _ (H.enterClearing .flash s))
  | lampSenseSample sense => exact of_next he (H.sampleCheck sense (H.sampleGroups sense hs))
  | unwantedProceed g =>
    exact of_next he (event hs fun _ => H.settled _ (H.enterLockout g .c (H.handOffMismatch g .c hs)))
  | redLost g => exact of_next he (event hs fun _ => H.settled _ (H.markLost g (H.handOnMismatch g .a hs)))
  | lampOut g which => exact of_next he (event hs fun _ => H.latchLampOut g which (H.handOnMismatch g which hs))
  | stuckOn g which => exact of_next he (event hs fun _ => H.latchStuckOn g which (H.handOffMismatch g which hs))
  | clearLockoutCheckPasses =>
    exact of_next he (event hs fun _ => H.settled _ (H.completePending _ _ (H.enterResting .flash _)))
  | noOsc e => exact of_next he (H.settled _ (H.completeMeasurement e _ hs))
  | lowFreq e => exact of_next he (H.settled _ (H.completeMeasurement e _ hs))
  | measurementComplete e n => exact of_next he (H.settled _ (H.completeMeasurement e _ hs))
  | trackingMoment =>
    refine of_next he (event hs fun _ => ?_)
    exact forEach_keeps P _ _ (fun ch _ u hu => H.same u (modChannel ch _ u) rfl hu) _ (H.same s _ rfl hs)
  | presenceLimitExpires ch => exact of_next he (event hs fun _ => H.settled _ (H.expirePresence ch hs))
  | inputSample pins =>
    exact of_next he (forEach_keeps P _ _ (fun i _ u hu => H.same u (modInput i _ u) rfl hu) s hs)
  | debouncedStateChange i => exact of_next he (event hs fun _ => H.settled _ (H.changeDebounced i hs))
  | gapValueSaturates g =>
    refine of_next he (event hs fun _ => H.group g _ s ?_ hs)
    exact fun _ => rfl
  | framingError => exact of_next he (event hs fun _ => H.same s _ rfl hs)
  | byteComplete =>
    refine of_next he ?_
    split
    · exact H.settled _ (H.takeCompleted _ hs)
    · exact hs
  | gapTimerExpires => exact of_next he (event hs fun _ => H.same s _ rfl hs)
  | lineBreak => exact of_next he (event hs fun _ => H.blocks.raiseFor _ _ (H.same s _ rfl hs))
  | brokenWaitComplete => exact of_next he (event hs fun _ => H.same s _ rfl hs)
  | holdTimerExpires k =>
    refine of_next he ?_
    split
    · exact H.settled _ (H.blocks.recomputeHold _ (H.same s _ rfl hs))
    · exact hs
  | lostTimerExpires k =>
    refine of_next he ?_
    split
    · exact H.settled _ (H.blocks.loseTram k _ hs)
    · exact hs
  | requestFrameDrop bytes close => exact of_next he (H.dropFrame bytes hs)
  | linkClockTimeout r frame => exact of_next he (H.countError r _ (H.timedOutSeen frame r hs))
  | replyRead r n => exact of_next he (H.same s _ (aspects_readReply r n s) hs)
  | requestCodeUnknown r code =>
    refine of_next he (iteInduction (motive := P) (fun _ => hs) fun _ => ?_)
    exact H.takeRequest_of_read (fun _ => rfl) r true [] s hs
  | readJunction r p => exact of_next he (H.takeRequest_of_read (readJunctionOwner_fst p) r true p s hs)
  | readGroups r p => exact of_next he (H.takeRequest_of_read (readGroupsOwner_fst p) r true p s hs)
  | readTransitions r p => exact of_next he (H.takeRequest_of_read (readTransitionsOwner_fst p) r true p s hs)
  | readLoops r p => exact of_next he (H.takeRequest_of_read (readLoopsOwner_fst p) r true p s hs)
  | readTrams r p => exact of_next he (H.takeRequest_of_read (readTramsOwner_fst p) r true p s hs)
  | readCounts r p => exact of_next he (H.takeRequest_of_read (readCountsOwner_fst p) r true p s hs)
  | noticePoll r p => exact of_next he (H.takeRequest_of_noParams (aspects_noticePollOwner r) r true p s hs)
  | keepalive r p => exact of_next he (H.takeRequest_of_noParams (fun _ => rfl) r _ p s hs)
  | demand r p => exact of_next he (H.takeRequest (H.demandOwner p) r _ p s hs)
  | priorityInhibit r p => exact of_next he (H.takeRequest (H.priorityInhibitOwner p) r _ p s hs)
  | transition r p => exact of_next he (H.takeRequest_of_same (aspects_transitionOwner r p) r _ p s hs)
  | cancelTransition r p => exact of_next he (H.takeRequest (H.cancelTransitionOwner r p) r _ p s hs)
  | mode r p => exact of_next he (H.takeRequest (H.modeOwner p) r _ p s hs)
  | groupInhibit r p => exact of_next he (H.takeRequest (H.groupInhibitOwner p) r _ p s hs)
  | tramCheckIn r p => exact of_next he (H.takeRequest (H.tramCheckInOwner p) r _ p s hs)
  | tramCheckOut r p =>
    exact of_next he (H.takeRequest (onTram (fun k q _ hu => H.blocks.checkOut k q hu) p) r _ p s hs)
  | tramCancel r p =>
    exact of_next he (H.takeRequest (onTram (fun k q _ hu => H.blocks.removeTram k q hu) p) r _ p s hs)
  | writeConfig r p =>
    refine of_next he (H.takeRequest_of_same (fun u => ?_) r _ p s hs)
    unfold writeConfigOwner
    split <;> rfl
  | commitConfig r p =>
    refine of_next he (H.takeRequest_of_noParams (fun u => ?_) r _ p s hs)
    split <;> rfl
  | storeWriteEnd held => exact of_next he (event hs fun _ => H.completePending _ _ (H.same s _ rfl hs))
  | discardStaging r p => exact of_next he (H.takeRequest_of_noParams (fun _ => rfl) r _ p s hs)
  | readConfig r p => exact of_next he (H.takeRequest_of_read (readConfigOwner_fst p) r _ p s hs)
  | clearLockout r p =>
    refine of_next he (H.takeRequest_of_noParams (fun u => ?_) r _ p s hs)
    split <;> rfl
  | clearLampFaults r p => exact of_next he (H.takeRequest (H.clearLampFaultsOwner p) r _ p s hs)
  | clearCounts r p =>
    exact of_next he (H.takeRequest_of_noParams (fun u => aspects_discardReply r (clearAllCounts u)) r _ p s hs)
  | restart r p =>
    refine of_next he (iteInduction (motive := P) (fun _ => H.reset _ _ _ _ _ _ _ _) fun _ => ?_)
    exact H.takeRequest_of_read (fun _ => rfl) r _ p s hs
  | beaconLineSample level => exact of_next he (H.same s _ rfl hs)

/-- A command is taken from the queue, or the part idles. -/
theorem step {t : State} (hs : P s) (he : Machine.step s = .next t) : P t := by
  unfold Machine.step at he
  split at he
  · exact of_next he hs
  · next rest _ => exact H.exec _ (H.same s { s with pending := rest } rfl hs) he

end AspectsKeep

end Sys2Proof.Machine
end

section
/-! PROOF. Every step keeps every lamp circuit under the command of the table (R74, R75): each update of the aspects that
commands are made of keeps the law. -/

namespace Sys2Proof.Machine

open Sys2Proof

variable {s t : State}

/-- The law stands where every circuit keeps its command, and every group what the table reads of it. -/
theorem LampLaw.of_commands (h : LampLaw s) (hk : ∀ g, kind t g = kind s g) (hp : showsPattern t = showsPattern s)
    (hg : ∀ g, (grp t g).state = (grp s g).state)
    (hc : ∀ g which, (circuit (lamp t g) which).cmd = (circuit (lamp s g) which).cmd) : LampLaw t := by
  intro g which
  rw [hc, hk, hg, hp]
  exact h g which

theorem LampLaw.of_aspects (h : LampLaw s) (ht : aspects t = aspects s) : LampLaw t := by
  obtain ⟨hlamps, hgroups, hactive, hpattern⟩ :
      t.lamps = s.lamps ∧ t.groups = s.groups ∧ t.active = s.active ∧ showsPattern t = showsPattern s := by
    simpa [aspects] using ht
  exact h.of_commands (kind_congr hactive) hpattern (fun g => by rw [grp_congr hgroups])
    fun g which => by rw [lamp_congr hlamps]

theorem LampLaw.modGroup (h : LampLaw s) (g : GroupId) (f : GroupRec → GroupRec) (hf : ∀ r, (f r).state = r.state) :
    LampLaw (Machine.modGroup g f s) := by
  refine h.of_commands (fun _ => rfl) rfl (fun i => ?_) fun _ _ => rfl
  rw [grp_modGroup]
  split
  · next hi => rw [hf, hi]
  · rfl

theorem LampLaw.modLamps (h : LampLaw s) (g : GroupId) (f : Lamps → Lamps)
    (hf : ∀ l which, (circuit (f l) which).cmd = (circuit l which).cmd) : LampLaw (Machine.modLamps g f s) := by
  refine h.of_commands (fun _ => rfl) rfl (fun _ => rfl) fun i which => ?_
  rw [lamp_modLamps]
  split
  · next hi => rw [hf, hi]
  · rfl

theorem LampLaw.advanceTime (h : LampLaw s) : LampLaw (Machine.advanceTime s) := by
  refine h.of_commands (fun _ => rfl) rfl (fun g => ?_) fun g which => ?_
  · simp [grp, Machine.advanceTime, ageGroup]
  · simp only [lamp, Machine.advanceTime, look_tabulate]
    cases which <;> rfl

/-- A group whose record changes stands under the table again once its circuits took their commands (R75). -/
theorem LampLaw.refreshLamps (h : LampLaw s) (g : GroupId) (f : GroupRec → GroupRec) :
    LampLaw (Machine.refreshLamps g (Machine.modGroup g f s)) := by
  intro i which
  rw [circuit_lamp_refreshLamps]
  split
  · next hi =>
    rw [← hi]
    rfl
  · next hi =>
    have hgrp : grp (Machine.refreshLamps g (Machine.modGroup g f s)) i = grp s i := by
      simp [Machine.refreshLamps, hi]
    rw [hgrp]
    exact h i which

/-- Either reset leaves every group DARK under the commands of the mode it enters (R73, R88). -/
theorem lampLaw_afterReset (service carried : Bool) (straps : Straps) (level : Bool) (store : Store)
    (cause : Option LockoutCause) (pending : List Instr) (order : OpenOrders) :
    LampLaw (afterReset service carried straps level store cause pending order) := by
  intro g which
  have hpattern : showsPattern (afterReset service carried straps level store cause pending order) =
      (modeAfterReset carried straps != .dark) := by
    cases carried <;> cases hm : straps.smode <;> simp [showsPattern, afterReset, modeAfterReset, hm]
  have hstate : (grp (afterReset service carried straps level store cause pending order) g).state = .dark :=
    ((freshGroups_afterReset service carried straps level store cause pending order).records g).state
  rw [hpattern, hstate]
  show (circuit (look (tabulate _) g) which).cmd = _
  rw [look_tabulate]
  cases which <;> rfl

theorem lampLaw_aspectsKeep : AspectsKeep LampLaw where
  same _ _ ht h := h.of_aspects ht
  group g f _ hf h := h.modGroup g f hf
  lamps g f _ hf h := h.modLamps g f hf
  advance _ h := h.advanceTime
  enter g _ _ h := h.refreshLamps g _
  refresh := lampLaw_refreshAllLamps
  reset := lampLaw_afterReset

/-- Settles O56: the law is kept by every update of the aspects, and so by every step. -/
theorem stepsKeepTheLampLaw : Obligations.StepsKeepTheLampLaw := fun _ _ h he => lampLaw_aspectsKeep.step h he

end Sys2Proof.Machine
end

section
/-! SUPPORT. What a change of a loop channel hands on (R102, R111, R113, R116) and what it leaves unchanged. -/

namespace Sys2Proof.Machine

open Sys2Proof

/-! ### Notices and check-outs -/

theorem raiseDetector_frame (s : State) : raiseDetector s = { s with links := (raiseDetector s).links } :=
  raiseFor_frame .detector _ s

/-- A DETECTOR notice goes to PLAN and SERVICE (R103). -/
theorem link_raiseDetector (s : State) (r : Role) :
    link (raiseDetector s) r = noticedLink .detector (noticeRoles .detector r) (link s r) := by
  unfold raiseDetector raiseFor
  simp only [forEach_cons, forEach_nil, link_raise]
  cases r <;> simp [noticedLink, noticeRoles]

theorem earliestOn_of_no_trams {s : State} (h : ∀ j, tram s j = none) (a : ApproachId) : earliestOn s a = none := by
  simp [earliestOn, h]

/-- A check-out with no tram in the list only counts as unmatched (R143). -/
theorem loopCheckOut_of_no_trams {s : State} (h : ∀ j, tram s j = none) (a : ApproachId) :
    loopCheckOut a s = countUnmatched s := by
  simp [loopCheckOut, earliestOn_of_no_trams h]

/-! ### The gap clock (R116) -/

/-- Two writes of one group record are one. -/
theorem modGroup_modGroup (g : GroupId) (f f' : GroupRec → GroupRec) (s : State) :
    modGroup g f (modGroup g f' s) = modGroup g (fun r => f (f' r)) s := by
  have hgroups : (modGroup g f (modGroup g f' s)).groups = (modGroup g (fun r => f (f' r)) s).groups :=
    table_ext fun i => by
      simp only [modGroup, look_put, if_true]
      split <;> rfl
  exact congrArg (fun v => { s with groups := v }) hgroups

/-- The gap clock follows its conditions by a write of the gap value of its group alone. -/
theorem updateGap_eq (g : GroupId) (s : State) : ∃ v, updateGap g s = modGroup g (fun r => { r with gap := v }) s := by
  have hsame : s = modGroup g (fun r => { r with gap := r.gap }) s := by simp [modGroup]
  unfold updateGap
  split
  · split
    · exact ⟨_, rfl⟩
    · split
      · exact ⟨_, rfl⟩
      · exact ⟨(grp s g).gap, hsame⟩
  · exact ⟨(grp s g).gap, hsame⟩

/-- A used group with a holding condition has its gap value held at 0. -/
theorem updateGap_of_held {g : GroupId} {s : State} (hu : used s g = true) (hh : gapHeld s g = true) :
    updateGap g s = modGroup g (fun r => { r with gap := .held }) s := by
  simp [updateGap, hu, hh]

theorem updateGap_of_unused {g : GroupId} {s : State} (hu : used s g = false) : updateGap g s = s := by
  simp [updateGap, hu]

theorem updateGapOf_frame (fed : Option GroupId) (s : State) :
    updateGapOf fed s = { s with groups := (updateGapOf fed s).groups } := by
  cases fed with
  | none => rfl
  | some g =>
    obtain ⟨v, hv⟩ := updateGap_eq g s
    show updateGap g s = _
    rw [updateGapOf, hv]
    rfl

theorem grp_updateGapOf (fed : Option GroupId) (s : State) (h : GroupId) :
    grp (updateGapOf fed s) h = { grp s h with gap := (grp (updateGapOf fed s) h).gap } := by
  cases fed with
  | none => rfl
  | some g =>
    obtain ⟨v, hv⟩ := updateGap_eq g s
    rw [updateGapOf, hv, grp_modGroup]
    split
    · next hg => rw [hg]
    · rfl

/-- A channel in FAULT holds the gap value of the group it feeds. -/
theorem gapHeld_of_failed {s : State} {ch : ChannelId} {g : GroupId} (hf : loopFeeds (loopCfg s ch) = some g)
    (hs : (channel s ch).state = .fault) : gapHeld s g = true := by
  have hany : (allChannels.any fun c =>
      channelFailed s g c || (channelOccupies s g c && loopFn (loopCfg s c) == .extend)) = true :=
    List.any_eq_true.2 ⟨ch, List.mem_finRange ch, by simp [channelFailed, hf, hs]⟩
  rw [gapHeld, hany, Bool.true_or]

/-! ### What a change of state hands on (R102) -/

theorem handOccupancy_of_feeds {c : LoopCfg} {g : GroupId} (hf : loopFeeds c = some g) (ch : ChannelId)
    (old new : ChState) (s : State) :
    handOccupancy c ch old new s =
      let s1 := if new = .occupied ∧ old ≠ .occupied then occupy (.loop ch) g s else s
      let s2 := if new = .fault ∧ old ≠ .fault then takeFaultEntry ch g s1 else s1
      if old = .fault ∧ new ≠ .fault then takeFaultLeft g s2 else s2 := by
  simp only [handOccupancy, hf]

theorem handOccupancy_of_unfed {c : LoopCfg} (hf : loopFeeds c = none) {ch : ChannelId} {old new : ChState} {s : State}
    (hn : new ≠ .occupied) : handOccupancy c ch old new s = s := by
  cases hc : loopChecksOut c <;> simp [handOccupancy, hf, hc, hn]

/-- A vehicle that is given up hands on nothing but the gap clock (R99, R102). -/
theorem handChannel_occupied_free (c : LoopCfg) (ch : ChannelId) (s : State) :
    handChannel c ch .occupied .free s = updateGapOf (loopFeeds c) s := by
  have hnone : handOccupancy c ch .occupied .free s = s := by
    cases hf : loopFeeds c with
    | none => exact handOccupancy_of_unfed hf (by decide)
    | some g => rw [handOccupancy_of_feeds hf]; simp
  rw [handChannel, hnone]

/-! ### What a change of state leaves unchanged -/

section
variable {P : State → Prop} (hgroup : ∀ g f t, P t → P (modGroup g f t))
  (hout : ∀ a t, P t → P (loopCheckOut a t))
include hgroup hout

/-- What writes of groups and check-outs keep, the hand-on of a channel's change keeps. -/
theorem handChannel_keeps (c : LoopCfg) (ch : ChannelId) (old new : ChState) {s : State} (hs : P s) :
    P (handChannel c ch old new s) := by
  have hgap (fed : Option GroupId) (t : State) (ht : P t) : P (updateGapOf fed t) := by
    cases fed with
    | none => exact ht
    | some g =>
      obtain ⟨v, hv⟩ := updateGap_eq g t
      rw [updateGapOf, hv]
      exact hgroup g _ t ht
  have hoccupy (g : GroupId) (t : State) (ht : P t) : P (occupy (.loop ch) g t) :=
    iteInduction (motive := P) (fun _ => hgroup g _ t ht) fun _ => ht
  have hfault (g : GroupId) (t : State) (ht : P t) : P (takeFaultEntry ch g t) :=
    iteInduction (motive := P) (fun _ => hgroup g _ t ht) fun _ => ht
  refine hgap _ _ ?_
  cases hf : loopFeeds c with
  | some g =>
    rw [handOccupancy_of_feeds hf]
    have h1 : P _ := iteInduction (c := new = .occupied ∧ old ≠ .occupied) (motive := P)
      (fun _ => hoccupy g s hs) fun _ => hs
    have h2 : P _ := iteInduction (c := new = .fault ∧ old ≠ .fault) (motive := P)
      (fun _ => hfault g _ h1) fun _ => h1
    exact iteInduction (motive := P) (fun _ => hgroup g _ _ h2) fun _ => h2
  | none =>
    by_cases hn : new = .occupied
    · unfold handOccupancy
      rw [hf]
      cases loopChecksOut c with
      | none => exact hs
      | some a => exact iteInduction (motive := P) (fun _ => hout a s hs) fun _ => hs
    · rw [handOccupancy_of_unfed hf hn]
      exact hs

/-- The same with the DETECTOR notice of FAULT entry and recovery (R103). -/
theorem afterChannel_keeps (hnotice : ∀ t, P t → P (raiseDetector t)) (ch : ChannelId) (old : ChState) {s : State}
    (hs : P s) : P (afterChannel ch old s) := by
  have h1 : P _ := iteInduction (c := ((channel s ch).state = .fault) ≠ (old = .fault)) (motive := P)
    (fun _ => hnotice s hs) fun _ => hs
  exact iteInduction (motive := P) (fun _ => h1) fun _ => handChannel_keeps hgroup hout _ ch old _ h1

end

/-- With no tram in the list, a channel that has changed writes groups, links and the drop counters. -/
theorem afterChannel_frame {s : State} (ht : ∀ j, tram s j = none) (ch : ChannelId) (old : ChState) :
    afterChannel ch old s =
      { s with
        groups := (afterChannel ch old s).groups
        links := (afterChannel ch old s).links
        tramDrops := (afterChannel ch old s).tramDrops } := by
  refine afterChannel_keeps (P := fun t => t = { s with groups := t.groups, links := t.links, tramDrops := t.tramDrops })
    (fun g f t h => ?_) (fun a t h => ?_) (fun t h => ?_) ch old rfl
  · rw [h]
    rfl
  · have htrams (j : EntryId) : tram t j = none := by
      rw [tram_congr (by rw [h])]
      exact ht j
    rw [loopCheckOut_of_no_trams htrams, h]
    rfl
  · rw [raiseDetector_frame, h]

end Sys2Proof.Machine
end

section
/-! PROOF. A completed measurement on the channel an engine measures (R91): the bad results and the FAULT that the third in a
row brings (R93, R100, R101, R103), and the judging of a good count (R93 to R96, R101). -/

namespace Sys2Proof.Machine

open Sys2Proof

/-! ### The record of the channel measured (R93) -/

theorem measure_good {r : ChannelRec} (h : r.state ≠ .disabled) (c : LoopCfg) (now : Time) (count : Nat) :
    measure c now (.good count) r = goodMeasurement c now count r := if_neg h

theorem measure_bad {r : ChannelRec} (h : r.state ≠ .disabled) (c : LoopCfg) (now : Time) (result : BadResult) :
    measure c now (.bad result) r = badMeasurement result r := if_neg h

/-- The run counts at a bad measurement, and the FAULT that the third in a row brings (R100, R101). -/
theorem badMeasurement_eq (result : BadResult) (r : ChannelRec) : badMeasurement result r = afterBad result r := by
  by_cases hf : r.state = .fault
  · simp [badMeasurement, afterBad, hf]
  · by_cases hrun : 2 ≤ r.badRun
    · simp [badMeasurement, afterBad, hf, hrun]
    · have h3 : min 3 (r.badRun + 1) = r.badRun + 1 := by omega
      have hne : r.badRun ≠ 2 := by omega
      simp [badMeasurement, afterBad, hf, hrun, h3, hne]

/-- A bad measurement leaves the state, or brings FAULT from another one. -/
theorem afterBad_state (result : BadResult) (r : ChannelRec) :
    (afterBad result r).state = r.state ∨ (afterBad result r).state = .fault ∧ r.state ≠ .fault := by
  unfold afterBad
  split_ifs with hf
  · exact .inl rfl
  · exact .inr ⟨rfl, hf⟩
  · exact .inl rfl

/-- A count below C_min is judged HIGH_FREQ (R93). -/
theorem judgeCount_below {n count : Nat} (h : count < countMin n) : judgeCount n count = .bad .highFreq := if_pos h

/-- A count in the valid range is good (R93). -/
theorem judgeCount_good {n count : Nat} (h1 : countMin n ≤ count) (h2 : count ≤ countMax n) :
    judgeCount n count = .good count := by
  rw [judgeCount, if_neg (Nat.not_lt.2 h1), if_neg (Nat.not_lt.2 h2)]

/-! ### The engine and its channel (R91) -/

/-- The engine goes on from a place as it would have from the state before, if the write of its channel's record neither
enables nor disables the channel. -/
theorem nextPlace_modChannel {s : State} {ch : ChannelId} {f : ChannelRec → ChannelRec}
    (h : (f (channel s ch)).state = .disabled ↔ (channel s ch).state = .disabled) (e : EngineId) (k : Fin 4) :
    nextPlace (modChannel ch f s) e k = nextPlace s e k := by
  have hplace : placeEnabled (modChannel ch f s) e = placeEnabled s e := by
    funext j
    rw [Bool.eq_iff_iff]
    simp only [placeEnabled, channel_modChannel, bne_iff_ne]
    split
    · next hch => rw [← hch, Ne, Ne, h]
    · rfl
  rw [nextPlace, hplace, nextPlace]

/-- The record of the channel at an engine's place written, and the engine at its next place. -/
def recorded (e : EngineId) (k : Fin 4) (f : ChannelRec → ChannelRec) (s : State) : State :=
  setEngine e (nextPlace s e k) (modChannel (engineChannel e k) f s)

@[simp] theorem channel_recorded (e : EngineId) (k : Fin 4) (f : ChannelRec → ChannelRec) (s : State) (ch : ChannelId) :
    channel (recorded e k f s) ch =
      if engineChannel e k = ch then f (channel s (engineChannel e k)) else channel s ch := by
  simp [recorded]

/-- A measurement on an engine's place: the channel and the engine, then what the channel's change hands on. -/
theorem completeMeasurement_eq {e : EngineId} {k : Fin 4} {m : LoopCfg → Measured} {f : ChannelRec → ChannelRec} {s : State}
    (hk : look s.engines e = some k)
    (hf : measure (loopCfg s (engineChannel e k)) s.now (m (loopCfg s (engineChannel e k))) (channel s (engineChannel e k)) =
      f (channel s (engineChannel e k)))
    (hd : (f (channel s (engineChannel e k))).state = .disabled ↔ (channel s (engineChannel e k)).state = .disabled) :
    completeMeasurement e m s =
      afterChannel (engineChannel e k) (channel s (engineChannel e k)).state (recorded e k f s) := by
  have hwrite : modChannel (engineChannel e k)
      (measure (loopCfg s (engineChannel e k)) s.now (m (loopCfg s (engineChannel e k)))) s =
        modChannel (engineChannel e k) f s := by
    unfold channel at hf
    simp only [modChannel, hf]
  simp only [completeMeasurement, hk, hwrite, nextPlace_modChannel hd]
  rfl

/-- What follows the write of the channel and its engine touches none of them (R91). -/
theorem channelMeasured_of_recorded {e : EngineId} {k : Fin 4} {f : ChannelRec → ChannelRec} {s t : State}
    (ht : t = { recorded e k f s with groups := t.groups, links := t.links, tramDrops := t.tramDrops }) :
    ChannelMeasured e k f s t where
  own := by rw [channel_congr (s := recorded e k f s) (by rw [ht])]; simp
  others ch hch := by rw [channel_congr (s := recorded e k f s) (by rw [ht])]; simp [Ne.symm hch]
  engine := by rw [ht]; simp [recorded, setEngine]
  engines e' he' := by rw [ht]; simp [recorded, setEngine, Ne.symm he']
  rest := by rw [ht]; rfl

/-! ### Bad measurements (R93, R100, R101) -/

theorem failedDemand_eq (s : State) (ch : ChannelId) (d : Option Demand) : failedDemand s ch d = permanentDemand s ch d := by
  cases d <;> rfl

/-- A record that the FAULT of a channel feeds: a permanent demand, and the gap value held at 0 (R113, R116). -/
def faultFed (s : State) (ch : ChannelId) (r : GroupRec) : GroupRec :=
  { r with demand := some (permanentDemand s ch r.demand), gap := .held }

/-- On a used group that the channel feeds, its FAULT leaves a permanent demand and the gap value held at 0 (R113, R116). -/
theorem handChannel_fault_of_used {s : State} {ch : ChannelId} {old : ChState} {g : GroupId}
    (hs : (channel s ch).state = .fault) (ho : old ≠ .fault) (hf : loopFeeds (loopCfg s ch) = some g)
    (hu : used s g = true) : handChannel (loopCfg s ch) ch old .fault s = modGroup g (faultFed s ch) s := by
  have hentry : takeFaultEntry ch g s =
      modGroup g (fun r => { r with demand := some (permanentDemand s ch r.demand) }) s := by
    simp only [takeFaultEntry, hu, if_true, failedDemand_eq]
  have hheld : gapHeld (takeFaultEntry ch g s) g = true := by
    rw [hentry]
    exact gapHeld_of_failed (by simpa using hf) (by simpa using hs)
  rw [handChannel, handOccupancy_of_feeds hf, hf, updateGapOf]
  simp only [reduceCtorEq, false_and, if_false, ho, ne_eq, not_false_eq_true, and_self, if_true, not_true_eq_false]
  rw [updateGap_of_held (by rw [hentry]; simpa using hu) hheld, hentry, modGroup_modGroup]
  rfl

/-- A channel that feeds no used group hands nothing on when it enters FAULT. -/
theorem handChannel_fault_of_unused {s : State} {ch : ChannelId} {old : ChState} (ho : old ≠ .fault)
    (hf : ∀ g, loopFeeds (loopCfg s ch) = some g → used s g = false) :
    handChannel (loopCfg s ch) ch old .fault s = s := by
  cases hg : loopFeeds (loopCfg s ch) with
  | none => rw [handChannel, handOccupancy_of_unfed hg (by decide), hg, updateGapOf]
  | some g =>
    have hentry : takeFaultEntry ch g s = s := by simp [takeFaultEntry, hf g hg]
    rw [handChannel, handOccupancy_of_feeds hg, hg, updateGapOf]
    simp [ho, hentry, updateGap_of_unused (hf g hg)]

/-- What a channel's entry to FAULT hands on: the groups alone are written, and of them the used one that it feeds (R102). -/
theorem handChannel_fault {s : State} {ch : ChannelId} {old : ChState} (hs : (channel s ch).state = .fault)
    (ho : old ≠ .fault) :
    handChannel (loopCfg s ch) ch old .fault s =
        { s with groups := (handChannel (loopCfg s ch) ch old .fault s).groups } ∧
      ∀ g, grp (handChannel (loopCfg s ch) ch old .fault s) g =
        if loopFeeds (loopCfg s ch) = some g ∧ used s g = true then faultFed s ch (grp s g) else grp s g := by
  by_cases hfed : ∃ h, loopFeeds (loopCfg s ch) = some h ∧ used s h = true
  · obtain ⟨h, hf, hu⟩ := hfed
    rw [handChannel_fault_of_used hs ho hf hu]
    refine ⟨rfl, fun g => ?_⟩
    by_cases hg : h = g
    · subst hg
      simp [hf, hu]
    · simp [hf, hg]
  · have hnone : ∀ g, loopFeeds (loopCfg s ch) = some g → used s g = false := fun g hg =>
      Bool.eq_false_iff.2 fun hu => hfed ⟨g, hg, hu⟩
    rw [handChannel_fault_of_unused ho hnone]
    exact ⟨rfl, fun g => (if_neg fun h => hfed ⟨g, h⟩).symm⟩

/-- A channel that has entered FAULT: what its function hands on, and a DETECTOR notice (R102, R103). -/
theorem afterChannel_fault {s : State} {ch : ChannelId} {old : ChState} (hs : (channel s ch).state = .fault)
    (ho : old ≠ .fault) :
    afterChannel ch old s =
        { s with groups := (afterChannel ch old s).groups, links := (afterChannel ch old s).links } ∧
      (∀ g, grp (afterChannel ch old s) g =
        if loopFeeds (loopCfg s ch) = some g ∧ used s g = true then faultFed s ch (grp s g) else grp s g) ∧
      Noticed .detector s (afterChannel ch old s) := by
  have hfirst : afterChannel ch old s = handChannel (loopCfg s ch) ch old .fault (raiseDetector s) := by
    simp [afterChannel, hs, ho, Ne.symm ho]
  have hlinks := link_raiseDetector s
  have hnotice := raiseDetector_frame s
  rw [hfirst]
  generalize raiseDetector s = u at hlinks hnotice
  have hloop : loopCfg u ch = loopCfg s ch := by rw [hnotice]; rfl
  have hfaulted : (channel u ch).state = .fault := by rw [channel_congr (by rw [hnotice])]; exact hs
  obtain ⟨hframe, hgroups⟩ := hloop ▸ handChannel_fault hfaulted ho
  refine ⟨?_, fun g => ?_, fun r => ?_⟩
  · rw [hframe, hnotice]
  · rw [hgroups, hnotice]
    rfl
  · exact (link_congr (by rw [hframe]) r).trans (hlinks r)

/-- A bad measurement, whatever its result (R92, R93): the record takes it, and an entry to FAULT is handed on. -/
theorem measuredBad_completeMeasurement {e : EngineId} {k : Fin 4} {s : State} {m : LoopCfg → Measured} {result : BadResult}
    (hk : look s.engines e = some k) (hd : (channel s (engineChannel e k)).state ≠ .disabled)
    (hm : m (loopCfg s (engineChannel e k)) = .bad result) :
    MeasuredBad e k result s (completeMeasurement e m s) := by
  have hstate := afterBad_state result (channel s (engineChannel e k))
  have henabled : (afterBad result (channel s (engineChannel e k))).state ≠ .disabled := by
    rcases hstate with h | ⟨h, _⟩ <;> simp [h, hd]
  rw [completeMeasurement_eq (f := afterBad result) hk (by rw [hm, measure_bad hd, badMeasurement_eq])
    (by simp [henabled, hd])]
  have hnew : (channel (recorded e k (afterBad result) s) (engineChannel e k)).state =
      (afterBad result (channel s (engineChannel e k))).state := by simp
  rcases hstate with hsame | ⟨hfault, hold⟩
  · have hquiet : afterChannel (engineChannel e k) (channel s (engineChannel e k)).state
        (recorded e k (afterBad result) s) = recorded e k (afterBad result) s := by
      simp [afterChannel, hsame]
    rw [hquiet]
    exact ⟨channelMeasured_of_recorded rfl, fun _ => ⟨rfl, rfl⟩, fun h => absurd (hnew.trans hsame) h, rfl⟩
  · obtain ⟨hframe, hgroups, hnoticed⟩ := afterChannel_fault (hnew.trans hfault) hold
    generalize afterChannel (engineChannel e k) (channel s (engineChannel e k)).state (recorded e k (afterBad result) s) = t
      at hframe hgroups hnoticed
    have hmeasured : ChannelMeasured e k (afterBad result) s t := channelMeasured_of_recorded (by rw [hframe])
    refine ⟨hmeasured, fun h => ?_, fun _ => ⟨hgroups, hnoticed⟩, by rw [hframe]; rfl⟩
    exact absurd (hfault.symm.trans ((congrArg _ hmeasured.own).symm.trans h)) (Ne.symm hold)

/-- Settles O25: each of the three events hands the engine a bad result. -/
theorem badMeasurementsBringFault : Obligations.BadMeasurementsBringFault := by
  intro e k s hwork hk hd
  have hsettled {m : LoopCfg → Measured} {result : BadResult} (hm : m (loopCfg s (engineChannel e k)) = .bad result) :
      MeasuredBad e k result s (settled (completeMeasurement e m s)) := by
    have hbad := measuredBad_completeMeasurement hk hd hm
    rwa [settled_of_no_work _ (by rw [hbad.measured.rest]; exact hwork)]
  exact ⟨⟨_, rfl, hsettled rfl⟩, ⟨_, rfl, hsettled rfl⟩,
    fun count hcount => ⟨_, rfl, hsettled (judgeCount_below hcount)⟩⟩

/-! ### Good measurements (R94 to R96, R101) -/

/-- What every good measurement writes (R93, R101). -/
def counted (count : Nat) (r : ChannelRec) : ChannelRec :=
  { r with lastCount := some count, goodRun := min 8 (r.goodRun + 1) }

/-- A good measurement judged against a baseline: its shift, and no bad run (R94, R101). -/
def judgedAgainst (b count : Nat) (r : ChannelRec) : ChannelRec :=
  { counted count r with badRun := 0, lastShift := some (shiftAgainst b count) }

section
variable {c : LoopCfg} {now : Time} {count b : Nat} {r : ChannelRec}

theorem goodMeasurement_settling (hs : r.state = .settling) :
    goodMeasurement c now count r =
      { counted count r with
        state := .free, baseline := some count, lastShift := some 0, badRun := 0, occupiedSince := none } := by
  simp only [goodMeasurement, hs]
  rfl

/-- A channel in FAULT that is not at its eighth good measurement stays (R101). -/
theorem goodMeasurement_fault_stays (hs : r.state = .fault) (hrun : r.goodRun < 7) :
    goodMeasurement c now count r = counted count r := by
  have hne : min 8 (r.goodRun + 1) ≠ 8 := by omega
  simp only [goodMeasurement, hs, if_neg hne]
  rw [counted, hs]

/-- The eighth good measurement in a row ends FAULT (R101). -/
theorem goodMeasurement_fault_recovers (hs : r.state = .fault) (hrun : 7 ≤ r.goodRun) :
    goodMeasurement c now count r =
      { counted count r with
        state := .free, baseline := some count, lastShift := some 0, badRun := 0, occupiedSince := none
        faultKind := none } := by
  have h8 : min 8 (r.goodRun + 1) = 8 := by omega
  simp only [goodMeasurement, hs, if_pos h8]
  rfl

/-- A FREE channel whose shift reaches the on-threshold is OCCUPIED (R95). -/
theorem goodMeasurement_free (hs : r.state = .free) (hb : r.baseline = some b) :
    goodMeasurement c now count r =
      if (onThresholdOf c : Int) ≤ shiftAgainst b count then
        { judgedAgainst b count r with state := .occupied, occupiedSince := some now, vehicles := r.vehicles + 1#16 }
      else judgedAgainst b count r := by
  simp only [goodMeasurement, hs, judgeOccupancy, hb, Option.getD_some, if_true]
  rw [judgedAgainst, counted, hs, hb]
  rfl

/-- An OCCUPIED channel whose shift is below the off-threshold is FREE (R96). -/
theorem goodMeasurement_occupied (hs : r.state = .occupied) (hb : r.baseline = some b) :
    goodMeasurement c now count r =
      if shiftAgainst b count < offThresholdOf c then
        { judgedAgainst b count r with state := .free, occupiedSince := none, presenceExpired := false }
      else judgedAgainst b count r := by
  simp only [goodMeasurement, hs, judgeOccupancy, hb, Option.getD_some, reduceCtorEq, if_false]
  rw [judgedAgainst, counted, hs, hb]
  rfl

/-- The off-threshold as a number with a sign (R96). -/
theorem offThresholdOf_eq (c : LoopCfg) :
    offThresholdOf c = (c.onThreshold.toNat : Int) - max 1 ((c.onThreshold.toNat / 4 : Nat) : Int) := by
  simp [offThresholdOf, onThresholdOf]

/-- No good measurement disables a channel. -/
theorem goodMeasurement_enabled (h : r.state ≠ .disabled) : (goodMeasurement c now count r).state ≠ .disabled := by
  have hjudge (q : ChannelRec) (hq : q.state ≠ .disabled) : (judgeOccupancy c now count q).state ≠ .disabled := by
    simp only [judgeOccupancy]
    split_ifs <;> simp [hq]
  cases hs : r.state with
  | disabled => exact absurd hs h
  | settling => simp [goodMeasurement_settling hs]
  | free =>
    simp only [goodMeasurement, hs]
    exact hjudge _ (by simp)
  | occupied =>
    simp only [goodMeasurement, hs]
    exact hjudge _ (by simp)
  | fault =>
    rcases Nat.lt_or_ge r.goodRun 7 with hrun | hrun
    · simp [goodMeasurement_fault_stays hs hrun, counted, hs]
    · simp [goodMeasurement_fault_recovers hs hrun]

end

/-- A good measurement on a channel that is not DISABLED, with no tram for it to check out: the record takes it. -/
theorem measurementComplete_good {e : EngineId} {k : Fin 4} {count : Nat} {s : State} {r' : ChannelRec}
    (hwork : s.work = []) (hk : look s.engines e = some k) (htrams : ∀ j, tram s j = none)
    (hmin : countMin (periodsOf (loopCfg s (engineChannel e k))) ≤ count)
    (hmax : count ≤ countMax (periodsOf (loopCfg s (engineChannel e k))))
    (hd : (channel s (engineChannel e k)).state ≠ .disabled)
    (hr : goodMeasurement (loopCfg s (engineChannel e k)) s.now count (channel s (engineChannel e k)) = r') :
    ∃ t, exec (.measurementComplete e count) s = .next t ∧ ChannelMeasured e k (fun _ => r') s t := by
  have hd' : r'.state ≠ .disabled := hr ▸ goodMeasurement_enabled hd
  have hcomplete := completeMeasurement_eq (m := fun c => judgeCount (periodsOf c) count) (f := fun _ => r') hk
    (by rw [judgeCount_good hmin hmax, measure_good hd, hr]) (iff_of_false hd' hd)
  have hframe := afterChannel_frame (s := recorded e k (fun _ => r') s) htrams (engineChannel e k)
    (channel s (engineChannel e k)).state
  have hmeasured : ChannelMeasured e k (fun _ => r') s
      (completeMeasurement e (fun c => judgeCount (periodsOf c) count) s) :=
    channelMeasured_of_recorded (by rw [hcomplete, hframe])
  refine ⟨_, rfl, ?_⟩
  rwa [settled_of_no_work _ (by rw [hmeasured.rest]; exact hwork)]

/-- An idle engine completes nothing (log 1). -/
theorem completeMeasurement_idle {e : EngineId} {s : State} (h : look s.engines e = none) (m : LoopCfg → Measured) :
    completeMeasurement e m s = s := by
  simp only [completeMeasurement, h]

/-- Settles O26: the case of the channel's state and of its shift says what its record becomes. -/
theorem goodMeasurementIsJudged : Obligations.GoodMeasurementIsJudged := by
  intro e count s hwork
  refine ⟨fun hidle => ?_, fun k hk htrams => ?_⟩
  · show Host.Outcome.next (settled (completeMeasurement e _ s)) = _
    rw [completeMeasurement_idle hidle, settled_of_no_work _ hwork]
  · intro c r good judged tOn tOff becomes hmin hmax
    have hbecomes {r' : ChannelRec} {st : ChState} (hst : st ≠ .disabled) (hs : r.state = st)
        (hr : goodMeasurement c s.now count r = r') : becomes r' :=
      measurementComplete_good hwork hk htrams hmin hmax (hs ▸ hst) hr
    refine ⟨fun hs => ?_, fun b hs hb hon => ?_, fun b hs hb hoff => ?_, fun b hs hb hoff => ?_, fun b hs hb hon => ?_,
      fun hs hrun => ?_, fun hs hrun => ?_⟩
    · exact hbecomes (by decide) hs (goodMeasurement_settling hs)
    · exact hbecomes (by decide) hs ((goodMeasurement_free hs hb).trans (if_pos hon))
    · exact hbecomes (by decide) hs ((goodMeasurement_free hs hb).trans (if_neg (not_le.2 hoff)))
    · exact hbecomes (by decide) hs ((goodMeasurement_occupied hs hb).trans (if_pos ((offThresholdOf_eq c).symm ▸ hoff)))
    · have hstays : ¬ shiftAgainst b count < offThresholdOf c := not_lt.2 ((offThresholdOf_eq c).symm ▸ hon)
      exact hbecomes (by decide) hs ((goodMeasurement_occupied hs hb).trans (if_neg hstays))
    · exact hbecomes (by decide) hs (goodMeasurement_fault_stays hs hrun)
    · exact hbecomes (by decide) hs (goodMeasurement_fault_recovers hs hrun)

end Sys2Proof.Machine
end

section
/-! PROOF. A tracking moment on every channel (R97, R98). -/

namespace Sys2Proof.Machine

open Sys2Proof

/-- A FREE channel with a baseline and a last count has its baseline moved. -/
theorem track_free {r : ChannelRec} {b count : Nat} (hs : r.state = .free) (hb : r.baseline = some b)
    (hc : r.lastCount = some count) (c : LoopCfg) :
    track c r = { r with baseline := some (trackedBaseline (onThresholdOf c) b count) } := by
  simp only [track, hs, hb, hc]

theorem track_of_ne_free {r : ChannelRec} (h : r.state ≠ .free) (c : LoopCfg) : track c r = r := by
  unfold track
  split
  · next hs _ _ => exact absurd hs h
  · rfl

/-- Writes to several channel records, each once. -/
theorem forEach_modChannel (F : ChannelId → ChannelRec → ChannelRec) (l : List ChannelId) (hl : l.Nodup) :
    ∀ s, forEach l (fun ch => modChannel ch (F ch)) s =
        { s with channels := (forEach l (fun ch => modChannel ch (F ch)) s).channels } ∧
      ∀ ch, channel (forEach l (fun ch => modChannel ch (F ch)) s) ch =
        if ch ∈ l then F ch (channel s ch) else channel s ch := by
  induction l with
  | nil => exact fun s => ⟨rfl, fun ch => (if_neg List.not_mem_nil).symm⟩
  | cons a l ih =>
    intro s
    obtain ⟨ha, hl'⟩ := List.nodup_cons.1 hl
    obtain ⟨hframe, hread⟩ := ih hl' (modChannel a (F a) s)
    rw [forEach_cons]
    refine ⟨by rw [hframe]; rfl, fun ch => ?_⟩
    rw [hread, channel_modChannel]
    by_cases hch : ch = a
    · subst hch
      simp [ha]
    · simp [hch, Ne.symm hch]

/-- A tracking moment writes the clock and every channel's record as the channel takes it (R97, R98). -/
theorem trackAll_eq (s : State) :
    trackAll s = { s with trackedAt := s.now, channels := (trackAll s).channels } ∧
      ∀ ch, channel (trackAll s) ch = track (loopCfg s ch) (channel s ch) := by
  have hpass : trackAll s =
      forEach allChannels (fun ch => modChannel ch (track (loopCfg s ch))) { s with trackedAt := s.now } :=
    forEach_congr (I := fun t => t.active = s.active) _
      (fun ch _ t (ht : t.active = s.active) => by
        have hcfg : loopCfg t ch = loopCfg s ch := by rw [loopCfg, cfg_congr ht, loopCfg]
        rw [hcfg]
        exact ⟨rfl, ht⟩) _ rfl
  obtain ⟨hframe, hread⟩ :=
    forEach_modChannel (fun ch => track (loopCfg s ch)) allChannels (List.nodup_finRange 16) { s with trackedAt := s.now }
  rw [hpass]
  exact ⟨hframe, fun ch => (hread ch).trans (if_pos (List.mem_finRange ch))⟩

/-- Settles O28: the moment is due, so every channel takes it. -/
theorem trackingMovesFreeBaselines : Obligations.TrackingMovesFreeBaselines := by
  intro s hdue
  have hexec : exec .trackingMoment s = .next (trackAll s) := by
    show Host.Outcome.next (if trackingDue s = true then trackAll s else s) = _
    rw [if_pos (show trackingDue s = true from hdue)]
  obtain ⟨hframe, hread⟩ := trackAll_eq s
  refine ⟨_, hexec, hframe, fun ch hs => ?_, fun ch b c hs hb hc => ?_⟩
  · rw [hread, track_of_ne_free hs]
  · obtain ⟨hlow, hhigh⟩ := trackedBaseline_between (onThresholdOf (loopCfg s ch)) b c
    exact ⟨_, (hread ch).trans (track_free hs hb hc _), hlow, hhigh, rfl⟩

end Sys2Proof.Machine
end

section
/-! PROOF. The presence limit of an occupied channel (R99). -/

namespace Sys2Proof.Machine

open Sys2Proof

/-- The vehicle is given up: the channel's record and its notice, then the gap clock of the group it feeds. -/
theorem expirePresence_eq (ch : ChannelId) (s : State) :
    expirePresence ch s = updateGapOf (loopFeeds (loopCfg s ch)) (raiseDetector (modChannel ch giveUp s)) :=
  handChannel_occupied_free _ ch _

theorem expirePresence_frame (ch : ChannelId) (s : State) :
    expirePresence ch s =
      { s with
        channels := (modChannel ch giveUp s).channels
        links := (raiseDetector (modChannel ch giveUp s)).links
        groups := (expirePresence ch s).groups } := by
  rw [expirePresence_eq, updateGapOf_frame, raiseDetector_frame]
  rfl

theorem presenceDue_of_expired {s : State} {ch : ChannelId} {u : Time} (hs : (channel s ch).state = .occupied)
    (hu : (channel s ch).occupiedSince = some u) (hlimit : presenceOf (loopCfg s ch) ≠ 0)
    (hx : expired s.now u (presenceOf (loopCfg s ch)) = true) : presenceDue s ch = true := by
  simp [presenceDue, hs, hu, hlimit, hx]

theorem presenceDue_of_no_limit {s : State} {ch : ChannelId} (hlimit : presenceOf (loopCfg s ch) = 0) :
    presenceDue s ch = false := by
  simp [presenceDue, hlimit]

/-- Settles O29: a limit that has passed frees the channel, and a limit of 0 is never due. -/
theorem presenceLimitFreesTheChannel : Obligations.PresenceLimitFreesTheChannel := by
  intro ch s u hwork hs hu
  refine ⟨fun hlimit hx => ?_, fun hlimit => ?_⟩
  · have hframe := expirePresence_frame ch s
    have hgroups (g : GroupId) : grp (expirePresence ch s) g = { grp s g with gap := (grp (expirePresence ch s) g).gap } := by
      rw [expirePresence_eq, grp_updateGapOf, raiseDetector_frame]
      rfl
    have hexec : exec (.presenceLimitExpires ch) s = .next (expirePresence ch s) := by
      show Host.Outcome.next (if presenceDue s ch = true then settled (expirePresence ch s) else s) = _
      rw [if_pos (presenceDue_of_expired hs hu hlimit hx), settled_of_no_work _ (by rw [hframe]; exact hwork)]
    have hchannel (o : ChannelId) : channel (expirePresence ch s) o = channel (modChannel ch giveUp s) o :=
      channel_congr (by rw [hframe]) o
    refine ⟨_, hexec, ?_, fun o ho => ?_, fun r => ?_, hgroups, ?_⟩
    · rw [hchannel, channel_modChannel, if_pos rfl]
      rfl
    · rw [hchannel, channel_modChannel, if_neg (Ne.symm ho)]
    · rw [link_congr (s := raiseDetector (modChannel ch giveUp s)) (by rw [hframe]), link_raiseDetector, link_modChannel]
    · rw [hframe]
  · have hnot := presenceDue_of_no_limit hlimit
    show Host.Outcome.next (if presenceDue s ch = true then _ else _) = _
    rw [hnot, if_neg Bool.false_ne_true]

end Sys2Proof.Machine
end

section
/-! PROOF. DEMAND: its refusals and the demand records that it writes (R114). -/

namespace Sys2Proof.Machine

open Sys2Proof

/-- The state with the demand records of the named groups written as DEMAND leaves them (R114). -/
def demandsRequested (place : Bool) (gs : List GroupId) (s : State) : State :=
  { s with
    groups := tabulate fun g =>
      if g ∈ gs then { grp s g with demand := requestedDemand s.now place (grp s g).demand } else grp s g }

theorem grp_demandsRequested (place : Bool) (gs : List GroupId) (s : State) (g : GroupId) :
    grp (demandsRequested place gs s) g =
      if g ∈ gs then { grp s g with demand := requestedDemand s.now place (grp s g).demand } else grp s g :=
  look_tabulate _ g

theorem demandsRequested_work (place : Bool) (gs : List GroupId) (s : State) :
    (demandsRequested place gs s).work = s.work := by
  unfold demandsRequested
  rfl

theorem demandsRequested_setSeen (place : Bool) (gs : List GroupId) (role : Role) (s : State) :
    demandsRequested place gs (setSeen role s) = setSeen role (demandsRequested place gs s) := by
  simp only [demandsRequested, setSeen, grp_modLink, modLink_now]
  rfl

/-- DEMAND on distinct used groups writes their demand records and answers DONE (R114). -/
theorem demandOwner_of_fit {action : Byte} {gs : List GroupId} {s : State} (ha : action = 0#8 ∨ action = 1#8)
    (hne : gs ≠ []) (hnodup : gs.Nodup) (hused : ∀ g ∈ gs, used s g = true) :
    demandOwner (action :: gs.map groupByte) s = (demandsRequested (action == 1#8) gs s, plain .done) := by
  have hpass : forEach gs (fun g t =>
        modGroup g (fun r => { r with demand := requestedDemand t.now (action == 1#8) r.demand }) t) s =
      forEach gs (fun g =>
        modGroup g fun r => { r with demand := requestedDemand s.now (action == 1#8) r.demand }) s :=
    forEach_congr (I := fun t => t.now = s.now) gs (fun _ _ t (ht : t.now = s.now) => by
      rw [ht]
      exact ⟨rfl, ht⟩) s rfl
  unfold demandOwner
  rw [actionOnGroups_of_fit ha hne hnodup hused]
  simp only [hpass, forEach_modGroup _ gs hnodup]
  rfl

/-! ### The demand record of a named group -/

theorem requestedDemand_of_absent {d : Option Demand} (h : d = none) (now : Time) :
    requestedDemand now true d = some { source := .plan, registeredAt := now, permanent := false } := by
  rw [h]
  simp only [requestedDemand]

theorem requestedDemand_of_present {d : Option Demand} (h : d ≠ none) (now : Time) : requestedDemand now true d = d := by
  cases d with
  | none => exact absurd rfl h
  | some d => rfl

/-- CLEAR removes a demand that no failed detector holds. -/
theorem requestedDemand_of_temporary {d : Option Demand} (h : ∀ d', d = some d' → d'.permanent = false) (now : Time) :
    requestedDemand now false d = none := by
  cases d with
  | none => rfl
  | some d => simp [requestedDemand, h d rfl]

/-- CLEAR leaves a permanent demand. -/
theorem requestedDemand_of_permanent {d : Option Demand} (h : ∃ d', d = some d' ∧ d'.permanent = true) (now : Time) :
    requestedDemand now false d = d := by
  obtain ⟨d', rfl, hpermanent⟩ := h
  simp [requestedDemand, hpermanent]

/-- A DEMAND on distinct used groups is answered DONE, and writes their demand records alone. -/
theorem exec_demand_of_fit {action : Byte} {gs : List GroupId} {s : State}
    (h : Answerable .plan (action :: gs.map groupByte) s) (ha : action = 0#8 ∨ action = 1#8) (hne : gs ≠ [])
    (hnodup : gs.Nodup) (hused : ∀ g ∈ gs, used s g = true) :
    ∃ t, exec (.demand .plan (action :: gs.map groupByte)) s = .next t ∧
      Replied .plan (plain .done) (demandsRequested (action == 1#8) gs s) t := by
  have howner := demandOwner_of_fit (s := setSeen .plan s) ha hne hnodup hused
  rw [demandsRequested_setSeen] at howner
  exact ⟨_, rfl, takeRequest_replied .plan _ _ _ s _ h howner ((demandsRequested_work _ gs s).trans h.work)⟩

/-- Settles O43: the refusals of the list, and the demand records by the action and what each group holds. -/
theorem demandPlacesAndClears : Obligations.DemandPlacesAndClears := by
  intro action s
  refine ⟨fun h => ⟨_, rfl, takeRequest_refused h rfl⟩, fun bs h hrefused => ⟨_, rfl, takeRequest_refused h ?_⟩,
    fun gs h ha hne hnodup hused => ?_⟩
  · unfold demandOwner
    rw [actionOnGroups_of_refused (fit := used (setSeen .plan s)) hrefused]
  · obtain ⟨t, hexec, hreplied⟩ := exec_demand_of_fit h ha hne hnodup hused
    have hgroups : t.groups = (demandsRequested (action == 1#8) gs s).groups := by rw [hreplied.rest]
    have hgrp (g : GroupId) := (grp_congr hgroups g).trans (grp_demandsRequested (action == 1#8) gs s g)
    have hnamed (g : GroupId) (hg : g ∈ gs) {place : Bool} (hplace : (action == 1#8) = place) {d : Option Demand}
        (hd : requestedDemand s.now place (grp s g).demand = d) : grp t g = { grp s g with demand := d } := by
      rw [hgrp, if_pos hg, hplace, hd]
    refine ⟨t, hexec, by rw [hgroups]; exact hreplied, fun g hg => by rw [hgrp, if_neg hg], fun g hg =>
      ⟨fun ha hnone => ?_, fun ha hsome => ?_, fun ha htemporary => ?_, fun ha hpermanent => ?_⟩⟩
    · exact hnamed g hg (by simp [ha]) (requestedDemand_of_absent hnone s.now)
    · exact hnamed g hg (by simp [ha]) (requestedDemand_of_present hsome s.now)
    · exact hnamed g hg (by simp [ha]) (requestedDemand_of_temporary htemporary s.now)
    · exact hnamed g hg (by simp [ha]) (requestedDemand_of_permanent hpermanent s.now)

end Sys2Proof.Machine
end

section
/-! SUPPORT. What the hand-off of an occupation, a recovery or an activation does to the group that it feeds (R102, R110, R111,
R113, R116). -/

namespace Sys2Proof.Machine

open Sys2Proof

/-! ### Writes of one group -/

/-- The state after a write of one group record. -/
def WritesGroup (g : GroupId) (s t : State) : Prop := ∃ f, t = modGroup g f s

section
variable {g : GroupId} {s t u : State}

theorem writesGroup_modGroup (f : GroupRec → GroupRec) : WritesGroup g s (modGroup g f s) := ⟨f, rfl⟩

theorem WritesGroup.refl : WritesGroup g s s := ⟨id, by simp [modGroup]⟩

theorem WritesGroup.trans (h : WritesGroup g s t) (h' : WritesGroup g t u) : WritesGroup g s u := by
  obtain ⟨f, rfl⟩ := h
  obtain ⟨f', rfl⟩ := h'
  exact ⟨_, modGroup_modGroup g f' f s⟩

theorem WritesGroup.others (h : WritesGroup g s t) {j : GroupId} (hj : j ≠ g) : grp t j = grp s j := by
  obtain ⟨f, rfl⟩ := h
  rw [grp_modGroup, if_neg (Ne.symm hj)]

theorem WritesGroup.frame (h : WritesGroup g s t) : t = { s with groups := t.groups } := by
  obtain ⟨f, rfl⟩ := h
  rfl

/-- The gap clock's conditions are read from channels and inputs. -/
theorem WritesGroup.gapHeld (h : WritesGroup g s t) (j : GroupId) : gapHeld t j = gapHeld s j := by
  obtain ⟨f, rfl⟩ := h
  rfl

/-- A failed detector is one by its channel and its configuration. -/
theorem WritesGroup.channelFailed (h : WritesGroup g s t) (j : GroupId) : channelFailed t j = channelFailed s j := by
  obtain ⟨f, rfl⟩ := h
  rfl

theorem WritesGroup.used (h : WritesGroup g s t) (j : GroupId) : used t j = used s j := by
  obtain ⟨f, rfl⟩ := h
  rfl

end

section
variable (src : DemandSource) (ch : ChannelId) (g : GroupId) (s : State)

theorem writesGroup_occupy : WritesGroup g s (occupy src g s) :=
  iteInduction (motive := WritesGroup g s) (fun _ => writesGroup_modGroup _) fun _ => .refl

theorem writesGroup_takeFaultEntry : WritesGroup g s (takeFaultEntry ch g s) :=
  iteInduction (motive := WritesGroup g s) (fun _ => writesGroup_modGroup _) fun _ => .refl

theorem writesGroup_takeFaultLeft : WritesGroup g s (takeFaultLeft g s) := writesGroup_modGroup _

theorem writesGroup_updateGap : WritesGroup g s (updateGap g s) :=
  let ⟨_, hv⟩ := updateGap_eq g s
  ⟨_, hv⟩

end

/-- A channel that feeds a group hands its changes to that group alone (R102). -/
theorem writesGroup_handChannel {c : LoopCfg} {g : GroupId} (hf : loopFeeds c = some g) (ch : ChannelId)
    (old new : ChState) (s : State) : WritesGroup g s (handChannel c ch old new s) := by
  rw [handChannel, handOccupancy_of_feeds hf, hf]
  have h1 : WritesGroup g s _ := iteInduction (c := new = .occupied ∧ old ≠ .occupied)
    (fun _ => writesGroup_occupy (.loop ch) g s) fun _ => .refl
  have h2 : WritesGroup g s _ := iteInduction (c := new = .fault ∧ old ≠ .fault)
    (fun _ => h1.trans (writesGroup_takeFaultEntry ch g _)) fun _ => h1
  have h3 : WritesGroup g s _ := iteInduction (c := old = .fault ∧ new ≠ .fault)
    (fun _ => h2.trans (writesGroup_takeFaultLeft g _)) fun _ => h2
  exact h3.trans (writesGroup_updateGap g _)

/-! ### Occupations and recoveries (R111, R113, R116) -/

/-- What an occupation and the gap clock after it leave of the group occupied: a demand when the group is a used group out of
proceed that has none, and a gap value held at 0 under a holding condition. -/
structure Occupied (src : DemandSource) (g : GroupId) (s t : State) : Prop where
  writes : WritesGroup g s t
  demand : (grp t g).demand =
    if used s g = true ∧ inProceed s g = false ∧ (grp s g).demand = none then some (newDemand s src)
    else (grp s g).demand
  held : used s g = true → gapHeld s g = true → (grp t g).gap = .held

theorem demand_updateGap (g h : GroupId) (s : State) : (grp (updateGap g s) h).demand = (grp s h).demand := by
  rw [show updateGap g s = updateGapOf (some g) s from rfl, grp_updateGapOf]

theorem demand_occupy (src : DemandSource) (g : GroupId) (s : State) :
    (grp (occupy src g s) g).demand =
      if used s g = true ∧ inProceed s g = false ∧ (grp s g).demand = none then some (newDemand s src)
      else (grp s g).demand := by
  have hcondition : (used s g && !inProceed s g && (grp s g).demand.isNone) = true ↔
      used s g = true ∧ inProceed s g = false ∧ (grp s g).demand = none := by
    simp [and_assoc]
  unfold occupy
  by_cases h : used s g = true ∧ inProceed s g = false ∧ (grp s g).demand = none
  · rw [if_pos h, if_pos (hcondition.2 h), grp_modGroup, if_pos rfl]
  · rw [if_neg h, if_neg (hcondition.not.2 h)]

theorem occupied_updateGap (src : DemandSource) (g : GroupId) (s : State) :
    Occupied src g s (updateGap g (occupy src g s)) where
  writes := (writesGroup_occupy src g s).trans (writesGroup_updateGap g _)
  demand := (demand_updateGap g g _).trans (demand_occupy src g s)
  held hused hheld := by
    have hwrites := writesGroup_occupy src g s
    rw [updateGap_of_held ((hwrites.used g).trans hused) ((hwrites.gapHeld g).trans hheld), grp_modGroup, if_pos rfl]

/-- A channel that enters OCCUPIED occupies the group it feeds. -/
theorem occupied_handChannel {c : LoopCfg} {g : GroupId} (hf : loopFeeds c = some g) (ch : ChannelId) (s : State) :
    Occupied (.loop ch) g s (handChannel c ch .free .occupied s) := by
  have hhand : handChannel c ch .free .occupied s = updateGap g (occupy (.loop ch) g s) := by
    rw [handChannel, handOccupancy_of_feeds hf, hf]
    simp [updateGapOf]
  exact hhand ▸ occupied_updateGap (.loop ch) g s

/-- A demand of a group when a channel of it has left FAULT, with the lowest of its channels still in FAULT (R113). -/
def recoveredDemand (failed : Option ChannelId) (d : Demand) : Demand :=
  if d.permanent then
    match failed with
    | some ch => { d with source := .failedDetector ch }
    | none => { d with permanent := false }
  else d

theorem recoveredDemand_of_temporary {d : Demand} (h : d.permanent = false) (failed : Option ChannelId) :
    recoveredDemand failed d = d := by
  simp [recoveredDemand, h]

theorem recoveredDemand_of_failed {d : Demand} (h : d.permanent = true) (ch : ChannelId) :
    recoveredDemand (some ch) d = { d with source := .failedDetector ch } := by
  simp [recoveredDemand, h]

theorem recoveredDemand_of_none_failed {d : Demand} (h : d.permanent = true) :
    recoveredDemand none d = { d with permanent := false } := by
  simp [recoveredDemand, h]

/-- A channel that leaves FAULT changes the demand of the group it feeds alone (R113). -/
theorem demand_handChannel_recovered {c : LoopCfg} {g : GroupId} (hf : loopFeeds c = some g) (ch : ChannelId) (s : State) :
    (grp (handChannel c ch .fault .free s) g).demand =
      (grp s g).demand.map (recoveredDemand (allChannels.find? (channelFailed s g))) := by
  have hhand : handChannel c ch .fault .free s = updateGap g (takeFaultLeft g s) := by
    rw [handChannel, handOccupancy_of_feeds hf, hf]
    simp [updateGapOf]
  rw [hhand, demand_updateGap, takeFaultLeft, grp_modGroup, if_pos rfl]
  rfl

/-! ### Holding conditions (R116) -/

/-- An EXTEND channel that is OCCUPIED holds the gap value of its group. -/
theorem gapHeld_of_channel {s : State} {ch : ChannelId} {g : GroupId} (hf : loopFeeds (loopCfg s ch) = some g)
    (hs : (channel s ch).state = .occupied) (hx : loopFn (loopCfg s ch) = .extend) : gapHeld s g = true := by
  have hany : (allChannels.any fun c =>
      channelFailed s g c || (channelOccupies s g c && loopFn (loopCfg s c) == .extend)) = true :=
    List.any_eq_true.2 ⟨ch, List.mem_finRange ch, by simp [channelOccupies, hf, hs, hx]⟩
  rw [gapHeld, hany, Bool.true_or]

/-- An EXTEND input that is ACTIVE holds the gap value of its group. -/
theorem gapHeld_of_input {s : State} {i : InputId} {g : GroupId} (hf : inputFeeds (inputCfg s i) = some g)
    (ha : (inputRec s i).active = true) (hx : inputFn (inputCfg s i) = .extend) : gapHeld s g = true := by
  have hany : (allInputs.any fun i => inputOccupies s g i && inputFn (inputCfg s i) == .extend) = true :=
    List.any_eq_true.2 ⟨i, List.mem_finRange i, by simp [inputOccupies, hf, ha, hx]⟩
  rw [gapHeld, hany, Bool.or_true]

/-! ### The lowest failed channel (R113) -/

theorem channelFailed_iff (s : State) (g : GroupId) (ch : ChannelId) :
    channelFailed s g ch = true ↔ loopFeeds (loopCfg s ch) = some g ∧ (channel s ch).state = .fault := by
  simp [channelFailed]

theorem find?_channelFailed_eq_some {s : State} {g : GroupId} {ch : ChannelId} (hf : loopFeeds (loopCfg s ch) = some g)
    (hs : (channel s ch).state = .fault)
    (hlowest : ∀ o, o < ch → loopFeeds (loopCfg s o) = some g → (channel s o).state ≠ .fault) :
    allChannels.find? (channelFailed s g) = some ch := by
  rw [allChannels, ← Fin.find?_eq_find?_finRange, Fin.find?_eq_some_iff]
  refine ⟨(channelFailed_iff s g ch).2 ⟨hf, hs⟩, fun o ho => Bool.eq_false_iff.2 fun hfailed => ?_⟩
  obtain ⟨hfeeds, hfault⟩ := (channelFailed_iff s g o).1 hfailed
  exact hlowest o ho hfeeds hfault

theorem find?_channelFailed_eq_none {s : State} {g : GroupId}
    (h : ∀ o, loopFeeds (loopCfg s o) = some g → (channel s o).state ≠ .fault) :
    allChannels.find? (channelFailed s g) = none := by
  refine List.find?_eq_none.2 fun o _ hfailed => ?_
  obtain ⟨hfeeds, hfault⟩ := (channelFailed_iff s g o).1 hfailed
  exact h o hfeeds hfault

end Sys2Proof.Machine
end

section
/-! PROOF. The contact inputs: sampling, and a debounced change with what it hands on (R107, R108, R110). -/

namespace Sys2Proof.Machine

open Sys2Proof

/-! ### INPUT_SAMPLE (R108) -/

/-- Writes to distinct places of a table, each of them once. -/
theorem look_foldl_put {α : Type} {n : Nat} (F : Fin n → α → α) (l : List (Fin n)) (hl : l.Nodup) :
    ∀ (v : Vector α n) (j : Fin n), look (l.foldl (fun v i => put v i (F i (look v i))) v) j =
      if j ∈ l then F j (look v j) else look v j := by
  induction l with
  | nil => exact fun v j => (if_neg List.not_mem_nil).symm
  | cons a l ih =>
    intro v j
    obtain ⟨ha, hl'⟩ := List.nodup_cons.1 hl
    rw [List.foldl_cons, ih hl', look_put]
    by_cases hj : a = j
    · subst hj
      simp [ha]
    · simp [hj, Ne.symm hj]

/-- A pass of writes to distinct input records writes their table alone. -/
theorem forEach_modInput (F : InputId → InputRec → InputRec) (l : List InputId) (hl : l.Nodup) (s : State) :
    ∃ v, forEach l (fun i => modInput i (F i)) s = { s with inputs := v } ∧
      ∀ j, look v j = if j ∈ l then F j (inputRec s j) else inputRec s j := by
  have hpass (l : List InputId) : ∀ s, forEach l (fun i => modInput i (F i)) s =
      { s with inputs := l.foldl (fun v i => put v i (F i (look v i))) s.inputs } := by
    induction l with
    | nil => exact fun _ => rfl
    | cons a l ih =>
      intro s
      rw [forEach_cons, ih]
      rfl
  exact ⟨_, hpass l s, look_foldl_put F l hl s.inputs⟩

/-- The record of an input after one sample of its pin (R108). -/
theorem sampleInput_eq (samples : Nat) (raw : Bool) (r : InputRec) :
    sampleInput samples raw r =
      { r with
        raw := raw
        run := if r.active = !raw then 0 else if r.run < samples then r.run + 1 else r.run } := by
  by_cases h : r.active = !raw
  · simp [sampleInput, agrees, h]
  · simp [sampleInput, agrees, h]

/-- INPUT_SAMPLE takes one sample of every pin. -/
theorem exec_inputSample (pins : BitVec 16) (s : State) :
    ∃ t, exec (.inputSample pins) s = .next t ∧ t = { s with inputs := t.inputs } ∧
      ∀ i, inputRec t i = sampleInput (debounceSamples (inputCfg s i)) (pins.getLsbD i.val) (inputRec s i) := by
  have hpass := forEach_congr (I := fun t => t.active = s.active)
    (f := fun i t => modInput i (sampleInput (debounceSamples (inputCfg t i)) (pins.getLsbD i.val)) t)
    (f' := fun i => modInput i (sampleInput (debounceSamples (inputCfg s i)) (pins.getLsbD i.val))) allInputs
    (fun i _ t (ht : t.active = s.active) => by
      have hcfg : inputCfg t i = inputCfg s i := by rw [inputCfg, cfg_congr ht, inputCfg]
      rw [hcfg]
      exact ⟨rfl, ht⟩) s rfl
  obtain ⟨v, hwritten, hread⟩ := forEach_modInput _ allInputs (List.nodup_finRange 16) s
  exact ⟨{ s with inputs := v }, congrArg Host.Outcome.next (hpass.trans hwritten), rfl, fun i =>
    (hread i).trans (if_pos (List.mem_finRange i))⟩

/-! ### DEBOUNCED_STATE_CHANGE (R108, R110) -/

/-- The record of an input whose debounced state changes (R108). -/
theorem changeInput_eq (r : InputRec) :
    changeInput r =
      { r with
        active := !r.active
        run := 0
        activations :=
          if r.active then r.activations
          else if r.activations = 65535#16 then 65535#16
          else r.activations + 1#16 } := by
  cases h : r.active with
  | true => simp [changeInput, h]
  | false =>
    have hfull : satInc r.activations = if r.activations = 65535#16 then 65535#16 else r.activations + 1#16 := by
      unfold satInc
      split_ifs with hc
      · exact hc
      · rfl
    simp [changeInput, h, hfull]

theorem handActivation_of_feeds {c : InputCfg} {g : GroupId} (hf : inputFeeds c = some g) (i : InputId) (s : State) :
    handActivation c i s = updateGap g (occupy (.input i) g s) := by
  simp only [handActivation, hf]

/-- With no tram in the list, an activation writes groups and the drop counters (R110). -/
theorem handActivation_frame {s : State} (ht : ∀ j, tram s j = none) (c : InputCfg) (i : InputId) :
    handActivation c i s =
      { s with groups := (handActivation c i s).groups, tramDrops := (handActivation c i s).tramDrops } := by
  cases hf : inputFeeds c with
  | some g =>
    rw [handActivation_of_feeds hf, (occupied_updateGap (.input i) g s).writes.frame]
  | none =>
    cases ha : inputChecksOut c with
    | some a =>
      have hhand : handActivation c i s = countUnmatched s := by
        simp only [handActivation, hf, ha, loopCheckOut_of_no_trams ht]
      rw [hhand]
      rfl
    | none =>
      have hhand : handActivation c i s = s := by simp only [handActivation, hf, ha]
      rw [hhand]

theorem changeDebounced_of_active {s : State} {i : InputId} (h : (inputRec s i).active = true) :
    changeDebounced i s = updateGapOf (inputFeeds (inputCfg s i)) (modInput i changeInput s) := if_pos h

theorem changeDebounced_of_inactive {s : State} {i : InputId} (h : (inputRec s i).active = false) :
    changeDebounced i s = handActivation (inputCfg s i) i (modInput i changeInput s) := by
  unfold changeDebounced
  rw [h]
  rfl

/-- With no tram in the list, a change writes the input's record, groups and the drop counters. -/
theorem changeDebounced_frame {s : State} (ht : ∀ j, tram s j = none) (i : InputId) :
    changeDebounced i s =
      { s with
        inputs := (modInput i changeInput s).inputs
        groups := (changeDebounced i s).groups
        tramDrops := (changeDebounced i s).tramDrops } := by
  cases h : (inputRec s i).active with
  | true =>
    rw [changeDebounced_of_active h, updateGapOf_frame]
    rfl
  | false =>
    rw [changeDebounced_of_inactive h, handActivation_frame (s := modInput i changeInput s) ht]
    rfl

/-- A change that is due is taken. -/
theorem exec_debouncedStateChange_of_due {s : State} {i : InputId} (hrun : 0 < (inputRec s i).run)
    (hdue : debounceSamples (inputCfg s i) ≤ (inputRec s i).run) :
    exec (.debouncedStateChange i) s = .next (settled (changeDebounced i s)) :=
  congrArg Host.Outcome.next (if_pos (decide_eq_true ⟨hrun, hdue⟩))

/-- A change sent early changes nothing (log 1). -/
theorem exec_debouncedStateChange_early {s : State} {i : InputId}
    (h : (inputRec s i).run < debounceSamples (inputCfg s i)) : exec (.debouncedStateChange i) s = .next s := by
  have hnot : changeDue (debounceSamples (inputCfg s i)) (inputRec s i) = false :=
    decide_eq_false fun hdue => absurd hdue.2 (Nat.not_le.2 h)
  show Host.Outcome.next (if changeDue _ _ = true then _ else s) = _
  rw [hnot, if_neg Bool.false_ne_true]

/-- Settles O30: the samples of all pins, and the change of one input with its run count reached. -/
theorem inputsAreDebounced : Obligations.InputsAreDebounced := by
  refine ⟨fun pins s => ?_, fun i s hwork ht => ⟨fun hrun hdue => ?_, exec_debouncedStateChange_early⟩⟩
  · obtain ⟨t, hexec, hframe, hrec⟩ := exec_inputSample pins s
    exact ⟨t, hexec, hframe, fun i => (hrec i).trans (sampleInput_eq _ _ _)⟩
  · have hframe := changeDebounced_frame ht i
    have hrec (j : InputId) : inputRec (changeDebounced i s) j = inputRec (modInput i changeInput s) j :=
      inputRec_congr (by rw [hframe]) j
    have hexec := exec_debouncedStateChange_of_due hrun hdue
    rw [settled_of_no_work _ (by rw [hframe]; exact hwork)] at hexec
    refine ⟨_, hexec, ?_, fun j hj => ?_, by rw [hframe]⟩
    · rw [hrec, inputRec_modInput, if_pos rfl, changeInput_eq]
    · rw [hrec, inputRec_modInput, if_neg (Ne.symm hj)]

end Sys2Proof.Machine
end

section
/-! PROOF. Occupations, activations and recoveries at the demand logic (R111, R113, R116). -/

namespace Sys2Proof.Machine

open Sys2Proof

/-! ### The hand-off of a measured channel (R91, R102) -/

/-- A change of a channel's state is handed on from a state in which a notice at most was raised before. -/
theorem afterChannel_hands (ch : ChannelId) (old : ChState) (s : State) :
    ∃ v : State, v = { s with links := v.links } ∧
      afterChannel ch old s =
        if (channel s ch).state = old then v else handChannel (loopCfg s ch) ch old (channel s ch).state v :=
  ⟨_, iteInduction (c := ((channel s ch).state = .fault) ≠ (old = .fault))
    (motive := fun v : State => v = { s with links := v.links }) (fun _ => raiseDetector_frame s) fun _ => rfl, rfl⟩

/-- The state `t` after a measurement on a channel that feeds a group: from `v`, in which channels, engines and links have been
written, that group alone takes what the channel's change of state hands on. -/
structure HandedOn (ch : ChannelId) (g : GroupId) (s v t : State) : Prop where
  frame : v = { s with channels := t.channels, engines := v.engines, links := v.links }
  writes : WritesGroup g v t
  hands : ∀ old new, (channel s ch).state = old → (channel t ch).state = new → new ≠ old →
    t = handChannel (loopCfg s ch) ch old new v

theorem exec_measurementComplete_handedOn {e : EngineId} {k : Fin 4} {count : Nat} {g : GroupId} {s t : State}
    (hwork : s.work = []) (hk : look s.engines e = some k) (hf : loopFeeds (loopCfg s (engineChannel e k)) = some g)
    (hexec : exec (.measurementComplete e count) s = .next t) : ∃ v, HandedOn (engineChannel e k) g s v t := by
  obtain ⟨u, hu, hcomplete⟩ : ∃ u : State, u = { s with channels := u.channels, engines := u.engines } ∧
      completeMeasurement e (fun c => judgeCount (periodsOf c) count) s =
        afterChannel (engineChannel e k) (channel s (engineChannel e k)).state u := by
    simp only [completeMeasurement, hk]
    exact ⟨_, rfl, rfl⟩
  have hloop : loopCfg u (engineChannel e k) = loopCfg s (engineChannel e k) := by rw [hu]; rfl
  obtain ⟨v, hv, hhands⟩ := afterChannel_hands (engineChannel e k) (channel s (engineChannel e k)).state u
  have hwrites : WritesGroup g v (afterChannel (engineChannel e k) (channel s (engineChannel e k)).state u) := by
    rw [hhands]
    exact iteInduction (motive := WritesGroup g v) (fun _ => .refl) fun _ =>
      writesGroup_handChannel (by rw [hloop]; exact hf) _ _ _ v
  have ht : t = afterChannel (engineChannel e k) (channel s (engineChannel e k)).state u := by
    have hsettled : settled (completeMeasurement e (fun c => judgeCount (periodsOf c) count) s) = t :=
      Host.Outcome.next.inj hexec
    rw [← hsettled, hcomplete, settled_of_no_work]
    rw [hwrites.frame, hv, hu]
    exact hwork
  rw [← ht] at hwrites hhands
  have hchannels : t.channels = u.channels := by rw [hwrites.frame, hv]
  have hstate : (channel t (engineChannel e k)).state = (channel u (engineChannel e k)).state := by
    rw [channel_congr hchannels]
  refine ⟨v, by rw [hchannels, hv, hu], hwrites, fun old new hold hnew hne => ?_⟩
  rw [← hstate, hnew, hold, if_neg hne, hloop] at hhands
  exact hhands

section
variable {ch : ChannelId} {g : GroupId} {s v t : State} (h : HandedOn ch g s v t)
include h

theorem HandedOn.grp_before (j : GroupId) : grp v j = grp s j := grp_congr (by rw [h.frame]) j

theorem HandedOn.used_before : used v g = used s g := used_congr (by rw [h.frame]) g

theorem HandedOn.loopCfg (o : ChannelId) : loopCfg t o = loopCfg s o := by
  rw [h.writes.frame, h.frame]
  rfl

theorem HandedOn.others {j : GroupId} (hj : j ≠ g) : grp t j = grp s j := (h.writes.others hj).trans (h.grp_before j)

variable (hf : loopFeeds (Machine.loopCfg s ch) = some g)
include hf

/-- An entry to OCCUPIED occupies the group that the channel feeds (R111). -/
theorem HandedOn.occupied (hfree : (channel s ch).state = .free) (hoccupied : (channel t ch).state = .occupied) :
    Occupied (.loop ch) g v t :=
  h.hands .free .occupied hfree hoccupied (by decide) ▸ occupied_handChannel hf ch v

/-- An entry to OCCUPIED registers a demand on a used group out of proceed that has none (R111). -/
theorem HandedOn.demand_of_entry (hfree : (channel s ch).state = .free) (hoccupied : (channel t ch).state = .occupied) :
    (grp t g).demand =
      if used s g = true ∧ inProceed s g = false ∧ (grp s g).demand = none then some (newDemand s (.loop ch))
      else (grp s g).demand := by
  have hproceed : inProceed v g = inProceed s g := by rw [inProceed, h.grp_before, inProceed]
  have hnew : newDemand v (.loop ch) = newDemand s (.loop ch) := by
    rw [h.frame]
    rfl
  rw [(h.occupied hf hfree hoccupied).demand, h.used_before, hproceed, h.grp_before, hnew]

/-- An EXTEND channel that enters OCCUPIED holds the gap value of its group (R116). -/
theorem HandedOn.gap_of_entry (hfree : (channel s ch).state = .free) (hoccupied : (channel t ch).state = .occupied)
    (hu : used s g = true) (hx : loopFn (Machine.loopCfg s ch) = .extend) : (grp t g).gap = .held := by
  refine (h.occupied hf hfree hoccupied).held (h.used_before.trans hu) ?_
  rw [← h.writes.gapHeld]
  exact gapHeld_of_channel (by rw [h.loopCfg]; exact hf) hoccupied (by rw [h.loopCfg]; exact hx)

/-- A recovery changes the demand of the group by the lowest channel of it that is still in FAULT (R113). -/
theorem HandedOn.demand_of_recovery (hfault : (channel s ch).state = .fault) (hfree : (channel t ch).state = .free) :
    (grp t g).demand = (grp s g).demand.map (recoveredDemand (allChannels.find? (channelFailed t g))) := by
  rw [h.writes.channelFailed, ← h.grp_before]
  conv_lhs => rw [h.hands .fault .free hfault hfree (by decide)]
  exact demand_handChannel_recovered hf ch v

end

/-! ### Inputs (R110) -/

/-- An activation occupies the group that the input feeds. -/
theorem occupied_changeDebounced {s : State} {i : InputId} {g : GroupId} (hf : inputFeeds (inputCfg s i) = some g)
    (ha : (inputRec s i).active = false) :
    Occupied (.input i) g (modInput i changeInput s) (changeDebounced i s) := by
  rw [changeDebounced_of_inactive ha, handActivation_of_feeds hf]
  exact occupied_updateGap (.input i) g _

/-- Settles O27: what is handed on is an occupation or a recovery of the group that the channel or the input feeds. -/
theorem occupationsReachTheDemandLogic : Obligations.OccupationsReachTheDemandLogic := by
  refine ⟨fun e k count g s t hwork hk => ?_, fun i g s hwork hf ha hrun hdue => ?_⟩
  · intro ch hf hexec
    obtain ⟨v, h⟩ := exec_measurementComplete_handedOn hwork hk hf hexec
    refine ⟨fun hfree hoccupied => ⟨h.demand_of_entry hf hfree hoccupied, h.gap_of_entry hf hfree hoccupied⟩,
      fun hfault hfree => ?_, fun j hj => h.others hj⟩
    have hdemand := h.demand_of_recovery hf hfault hfree
    refine ⟨fun d hd hpermanent => ⟨fun other hfeeds hfailed hlowest => ?_, fun hnone => ?_⟩,
      fun d hd htemporary => ?_, fun hd => ?_⟩
    · have hfind : allChannels.find? (channelFailed t g) = some other :=
        find?_channelFailed_eq_some (by rw [h.loopCfg]; exact hfeeds) hfailed fun o ho => by
          rw [h.loopCfg]
          exact hlowest o ho
      rw [hdemand, hd, hfind, Option.map_some, recoveredDemand_of_failed hpermanent]
    · have hfind : allChannels.find? (channelFailed t g) = none := find?_channelFailed_eq_none fun o => by
        rw [h.loopCfg]
        exact hnone o
      rw [hdemand, hd, hfind, Option.map_some, recoveredDemand_of_none_failed hpermanent]
    · rw [hdemand, hd, Option.map_some, recoveredDemand_of_temporary htemporary]
    · rw [hdemand, hd, Option.map_none]
  · have hoccupied := occupied_changeDebounced hf ha
    have hexec := exec_debouncedStateChange_of_due hrun hdue
    rw [settled_of_no_work _ (by rw [hoccupied.writes.frame]; exact hwork)] at hexec
    refine ⟨_, hexec, hoccupied.demand, fun hused hx => hoccupied.held hused ?_, fun h hh => hoccupied.writes.others hh⟩
    exact gapHeld_of_input (i := i) hf (by simp [changeInput_eq, ha]) hx

end Sys2Proof.Machine
end

section
/-! PROOF. BEACON_LINE_SAMPLE: the times that BCN has stood at a level (R118, R120), and the byte assembler cell by cell
(R119). -/

namespace Sys2Proof.Machine

open Sys2Proof

theorem exec_beaconLineSample (level : Bool) (s : State) :
    exec (.beaconLineSample level) s = .next (modBeacon (sampleBeacon level) s) := rfl

/-! ### The time at a level (R118, R120) -/

/-- At the level the time begins at 0 and grows up to its limit. -/
theorem standing_here (limit : Nat) (before : Option Nat) :
    standing limit true before = some ((before.map fun n => min limit (n + 1)).getD 0) := by
  cases before <;> rfl

/-! ### The byte assembler (R119) -/

section
variable {level : Bool} {n ones m : Nat} {data : Byte}

theorem sampleAssembler_first (h : (n + 1) % 16 = 7) :
    sampleAssembler level (.receiving n ones data none) = .receiving (n + 1) (bitNat level) data none := by
  simp only [sampleAssembler, h]

theorem sampleAssembler_second (h : (n + 1) % 16 = 8) :
    sampleAssembler level (.receiving n ones data none) = .receiving (n + 1) (ones + bitNat level) data none := by
  simp only [sampleAssembler, h]

theorem sampleAssembler_third (h : (n + 1) % 16 = 9) :
    sampleAssembler level (.receiving n ones data none) = decideCell (n + 1) (ones + bitNat level) data := by
  simp only [sampleAssembler, h]

/-- Outside the middle of a cell nothing is sampled. -/
theorem sampleAssembler_between (h7 : (n + 1) % 16 ≠ 7) (h8 : (n + 1) % 16 ≠ 8) (h9 : (n + 1) % 16 ≠ 9) :
    sampleAssembler level (.receiving n ones data none) = .receiving (n + 1) ones data none := by
  unfold sampleAssembler
  dsimp only
  split
  · next h => exact absurd h h7
  · next h => exact absurd h h8
  · next h => exact absurd h h9
  · rfl

/-- A start cell decided 1 is no character. -/
theorem decideCell_start (h : m / 16 = 0) :
    decideCell m ones data = if 2 ≤ ones then .waitingHigh else .receiving m 0 data none := by
  simp [decideCell, h]

theorem decideCell_data (hlow : 1 ≤ m / 16) (hhigh : m / 16 ≤ 8) :
    decideCell m ones data = .receiving m 0 (putDataBit data (m / 16) (decide (2 ≤ ones))) none := by
  unfold decideCell
  dsimp only
  rw [if_neg (Nat.ne_of_gt hlow), if_neg (Nat.not_le.2 (Nat.lt_succ_of_le hhigh))]

/-- The stop cell is decided and held until it is taken (log 22). -/
theorem decideCell_stop (h : 9 ≤ m / 16) :
    decideCell m ones data = .receiving m ones data (some (decide (2 ≤ ones))) := by
  unfold decideCell
  dsimp only
  rw [if_neg (by omega), if_pos h]

end

/-- A data cell writes its own bit of the byte, the first cell the least significant (R119). -/
theorem getLsbD_putDataBit (data : Byte) {cell : Nat} (hlow : 1 ≤ cell) (bit : Bool) {i : Nat} (hi : i < 8) :
    (putDataBit data cell bit).getLsbD i = if i = cell - 1 then bit || data.getLsbD i else data.getLsbD i := by
  cases bit with
  | false => simp [putDataBit]
  | true =>
    have hbit : (1#8 <<< (cell - 1)).getLsbD i = decide (i = cell - 1) := by
      rw [BitVec.getLsbD_shiftLeft, BitVec.getLsbD_one]
      grind
    rw [putDataBit, if_pos rfl, BitVec.getLsbD_or, hbit]
    by_cases h : i = cell - 1 <;> simp [h]

/-- Settles O31: a sample writes the level, the two times and the assembler, the last by the sub-cell it has reached. -/
theorem lineSamplesAssembleBytes : Obligations.LineSamplesAssembleBytes := by
  intro level s
  refine ⟨_, exec_beaconLineSample level s, rfl, fun hlevel => ?_, fun hlevel => ?_, fun hbroken => if_pos hbroken,
    fun hbroken => ?_⟩
  · subst hlevel
    refine ⟨rfl, (standing_here _ _).trans ?_⟩
    cases s.beacon.highFor <;> rfl
  · subst hlevel
    refine ⟨rfl, (standing_here _ _).trans ?_⟩
    cases s.beacon.lowFor <;> rfl
  · have htaken : (modBeacon (sampleBeacon level) s).beacon.assembler = sampleAssembler level s.beacon.assembler :=
      if_neg hbroken
    rw [htaken]
    refine ⟨fun h => by rw [h]; rfl, fun h => by rw [h]; rfl, fun n ones data stop h => by rw [h]; rfl,
      fun n ones data h => ?_⟩
    rw [h]
    refine ⟨sampleAssembler_first, sampleAssembler_second, sampleAssembler_between, fun h9 => ?_⟩
    rw [sampleAssembler_third h9]
    exact ⟨decideCell_start, fun hlow hhigh =>
      ⟨_, decideCell_data hlow hhigh, fun i hi => getLsbD_putDataBit data hlow _ hi⟩, decideCell_stop⟩

end Sys2Proof.Machine
end

section
/-! PROOF. The faults of the beacon line: a framing error, the gap limit, a break and the wait that ends it (R118 to R122,
R127). -/

namespace Sys2Proof.Machine

open Sys2Proof

/-- A TRAM notice goes to PLAN and TRAMNET (R149, R159). -/
theorem noticed_raiseFor_tram (s : State) : Noticed .tram s (raiseFor .tram [.plan, .tramnet] s) := by
  intro r
  simp only [raiseFor, forEach_cons, forEach_nil, link_raise]
  cases r <;> simp [noticedLink, noticeRoles]

/-- Unless it is BROKEN, a receiver that drops its telegram is IDLE (R121, R122). -/
theorem dropTelegram_of_unbroken {b : BeaconRec} (h : b.receiver ≠ .broken) :
    dropTelegram b = { b with telegram := [], receiver := .idle } := by
  rw [dropTelegram, if_neg h]

/-- A receiver that is not BROKEN after a framing error (R119, R121). -/
theorem framingBeacon_of_unbroken {b : BeaconRec} (h : b.receiver ≠ .broken) :
    framingBeacon b =
      { b with
        receiver := .idle, assembler := .waitingHigh, telegram := [],
        counts := { b.counts with framing := satInc b.counts.framing } } := by
  rw [framingBeacon, dropTelegram_of_unbroken (b := { b with assembler := .waitingHigh }) h]
  rfl

/-- A receiver that is not BROKEN after its gap limit (R122). -/
theorem gapBeacon_of_unbroken {b : BeaconRec} (h : b.receiver ≠ .broken) :
    gapBeacon b =
      { b with
        receiver := .idle, telegram := [],
        counts := { b.counts with gapDrops := satInc b.counts.gapDrops } } := by
  rw [gapBeacon, dropTelegram_of_unbroken h]
  rfl

/-! ### When an event is due -/

theorem framingDue_of_stop {b : BeaconRec} {n ones : Nat} {data : Byte}
    (h : b.assembler = .receiving n ones data (some false)) : framingDue b = true := by
  rw [framingDue, h]

theorem gapDue_iff (b : BeaconRec) : gapDue b = true ↔ b.receiver = .assembling ∧ gapCells ≤ b.sinceByte := by
  simp [gapDue]

theorem breakDue_iff (b : BeaconRec) :
    breakDue b = true ↔ b.receiver ≠ .broken ∧ ∃ n, b.lowFor = some n ∧ breakCells ≤ n := by
  simp [breakDue, Option.any_eq_true]

theorem brokenWaitDue_iff (b : BeaconRec) :
    brokenWaitDue b = true ↔ b.receiver = .broken ∧ ∃ n, b.highFor = some n ∧ characterCells ≤ n := by
  simp [brokenWaitDue, Option.any_eq_true]

/-! ### The events -/

section
variable {s : State}

theorem exec_framingError (h : framingDue s.beacon = true) :
    exec .framingError s = .next (modBeacon framingBeacon s) := congrArg Host.Outcome.next (if_pos h)

theorem exec_gapTimerExpires (h : gapDue s.beacon = true) : exec .gapTimerExpires s = .next (modBeacon gapBeacon s) :=
  congrArg Host.Outcome.next (if_pos h)

theorem exec_lineBreak (h : breakDue s.beacon = true) :
    exec .lineBreak s = .next (raiseFor .tram [.plan, .tramnet] (modBeacon breakBeacon s)) :=
  congrArg Host.Outcome.next (if_pos h)

theorem exec_brokenWaitComplete (h : brokenWaitDue s.beacon = true) :
    exec .brokenWaitComplete s = .next (modBeacon mendBeacon s) := congrArg Host.Outcome.next (if_pos h)

end

/-- Settles O32: each event is due, and takes the receiver to what its rule says. -/
theorem lineFaultsDropTelegrams : Obligations.LineFaultsDropTelegrams := by
  refine fun s => ⟨fun n ones data hbroken hstop => ?_, fun hassembling hgap => ?_, fun n hbroken hlow hn => ?_,
    fun n hbroken hhigh hn => ?_⟩
  · refine ⟨_, exec_framingError (framingDue_of_stop hstop), ?_⟩
    rw [modBeacon, framingBeacon_of_unbroken hbroken]
  · refine ⟨_, exec_gapTimerExpires ((gapDue_iff _).2 ⟨hassembling, hgap⟩), ?_⟩
    rw [modBeacon, gapBeacon_of_unbroken (by simp [hassembling])]
  · exact ⟨_, exec_lineBreak ((breakDue_iff _).2 ⟨hbroken, n, hlow, hn⟩), noticed_raiseFor_tram _,
      raiseFor_frame .tram _ _⟩
  · exact ⟨_, exec_brokenWaitComplete ((brokenWaitDue_iff _).2 ⟨hbroken, n, hhigh, hn⟩), rfl⟩

end Sys2Proof.Machine
end

section
/-! SUPPORT. The tram approach list on groups where no terminate waits: the search of the list (R130, R133), the hold-until
(R138), a check-in that makes a record outside NORMAL (R133, R135), and the removal of a record without a transition
(R142). -/

namespace Sys2Proof.Machine

open Sys2Proof

/-! ### The search of the list (R130, R133) -/

section
variable {s : State} {number : BitVec 16} {a : ApproachId} {k : EntryId} {r : TramRec}

theorem findTram_of_unlisted (h : Unlisted number a s) : findTram s number a = none := by
  refine List.find?_eq_none.2 fun k _ hfound => ?_
  obtain ⟨r, hr, hmatch⟩ := (Option.any_eq_true _ _).1 hfound
  exact h k r hr (by simpa using hmatch)

/-- The list holds a tram number and approach once, so the search finds that record (R133). -/
theorem findTram_of_listed (hlaw : TramListLaw s) (hk : tram s k = some r) (hnumber : r.number = number)
    (ha : r.approach = a) : findTram s number a = some k := by
  cases hfind : findTram s number a with
  | none =>
    have := List.find?_eq_none.1 hfind k (List.mem_finRange k)
    simp [hk, hnumber, ha] at this
  | some j =>
    have hfound := List.find?_some (show allEntries.find? _ = some j from hfind)
    obtain ⟨q, hq, hmatch⟩ := (Option.any_eq_true _ _).1 hfound
    obtain ⟨hqn, hqa⟩ : q.number = number ∧ q.approach = a := by simpa using hmatch
    rw [hlaw j k q r hq hk (hqn.trans hnumber.symm) (hqa.trans ha.symm)]

theorem freeEntry_of_full (h : ∀ k, tram s k ≠ none) : freeEntry s = none :=
  List.find?_eq_none.2 fun k _ => by simp [h k]

theorem freeEntry_of_lowest (h : LowestEmpty k s) : freeEntry s = some k := by
  obtain ⟨hempty, hlower⟩ := h
  rw [freeEntry, allEntries, ← Fin.find?_eq_find?_finRange, Fin.find?_eq_some_iff]
  exact ⟨by simp [hempty], fun j hj => by simpa [Option.isSome_iff_ne_none] using hlower j hj⟩

end

/-! ### One entry of the list written -/

section
variable {k : EntryId} {r : Option TramRec} {gs : List GroupId} {s s' t u : State} {g : GroupId}

/-- The list with one entry written, with a record or empty. -/
def putTram (k : EntryId) (r : Option TramRec) (s : State) : State := { s with trams := put s.trams k r }

theorem tram_putTram (k j : EntryId) (r : Option TramRec) (s : State) :
    tram (putTram k r s) j = if k = j then r else tram s j := look_put _ _ _ _

theorem entryChanged_putTram (k : EntryId) (r : Option TramRec) (s : State) :
    EntryChanged k r [] s (putTram k r s) where
  own := by rw [tram_putTram, if_pos rfl]
  others j hj := by rw [tram_putTram, if_neg (Ne.symm hj)]
  groups _ _ := rfl
  holds _ hi := absurd hi List.not_mem_nil

/-- A change of an entry is about the list and the groups alone. -/
theorem EntryChanged.of_eq (h : EntryChanged k r gs s' t) (htrams : s'.trams = s.trams) (hgroups : s'.groups = s.groups) :
    EntryChanged k r gs s t where
  own := h.own
  others j hj := (h.others j hj).trans (tram_congr htrams j)
  groups i hi := (h.groups i hi).trans (grp_congr hgroups i)
  holds i hi := by rw [← grp_congr hgroups i]; exact h.holds i hi

/-- Of every group nothing but the hold-until may have changed. -/
theorem EntryChanged.grp_eq (h : EntryChanged k r gs s t) (i : GroupId) :
    grp t i = { grp s i with holdUntil := (grp t i).holdUntil } := by
  by_cases hi : i ∈ gs
  · exact h.holds i hi
  · rw [h.groups i hi]

/-- With no group changed, none of any list is changed in more than its hold-until. -/
theorem EntryChanged.widen (h : EntryChanged k r [] s t) : EntryChanged k r gs s t where
  own := h.own
  others := h.others
  groups i _ := h.groups i List.not_mem_nil
  holds i _ := h.grp_eq i

/-- A record of the list takes a state (R135). -/
theorem EntryChanged.setTramState {q : TramRec} (h : EntryChanged k (some q) gs s u) (st : TramState) :
    EntryChanged k (some { q with state := st, holdEnd := none, awaitsSlot := false }) gs s
      (Machine.setTramState k st u) where
  own := by
    rw [Machine.setTramState, tram_modTram, if_pos rfl, h.own]
    rfl
  others j hj := by rw [Machine.setTramState, tram_modTram, if_neg (Ne.symm hj), h.others j hj]
  groups := h.groups
  holds := h.holds

/-! ### The hold-until (R138) -/

/-- A group that no record holds has no latest hold end. -/
theorem latestHold_of_none_holding (h : ∀ j q, tram s j = some q → q.group = g → q.state ≠ .holding) :
    latestHold s g = none := by
  have hnone : (allEntries.filterMap fun j =>
      match tram s j with
      | some q => if q.group = g ∧ q.state = .holding then q.holdEnd else none
      | none => none) = [] := by
    refine List.filterMap_eq_nil_iff.2 fun j _ => ?_
    cases hj : tram s j with
    | none => rfl
    | some q => exact if_neg fun hc => h j q hj hc.1 hc.2
  exact congrArg (List.foldl _ none) hnone

/-- With no terminate to let through, hold-until is recomputed by a write of it alone. -/
theorem recomputeHold_eq (hterm : (grp s g).pendingTerm = none) :
    ∃ v, recomputeHold g s = modGroup g (fun r => { r with holdUntil := v }) s ∧ (latestHold s g = none → v = none) := by
  by_cases hwritten : (isGreen s g || latestHold s g == none) = true
  · refine ⟨latestHold s g, ?_, id⟩
    rw [recomputeHold, setHoldUntil, if_pos hwritten, takeTerminate_of_none]
    simp [hterm]
  · refine ⟨(grp s g).holdUntil, ?_, fun hnone => absurd ?_ hwritten⟩
    · rw [recomputeHold, setHoldUntil, if_neg hwritten, modGroup_of_eq rfl]
    · simp [hnone]

theorem recomputeHold_frame (hterm : (grp s g).pendingTerm = none) :
    recomputeHold g s = { s with groups := (recomputeHold g s).groups } := by
  obtain ⟨v, hv, -⟩ := recomputeHold_eq hterm
  rw [hv]
  rfl

theorem holdFollows_recomputeHold (hterm : (grp s g).pendingTerm = none) : HoldFollows g (recomputeHold g s) := by
  obtain ⟨v, hv, hnone⟩ := recomputeHold_eq hterm
  rw [hv]
  intro hholding
  rw [grp_modGroup, if_pos rfl]
  exact hnone (latestHold_of_none_holding hholding)

theorem EntryChanged.recomputeHold (h : EntryChanged k r gs s u) (hterm : (grp s g).pendingTerm = none) :
    EntryChanged k r (g :: gs) s (Machine.recomputeHold g u) := by
  obtain ⟨v, hv, -⟩ := recomputeHold_eq (s := u) (g := g) (by rw [h.grp_eq]; exact hterm)
  rw [hv]
  refine ⟨h.own, h.others, fun i hi => ?_, fun i _ => ?_⟩
  · obtain ⟨hg, hgs⟩ := List.ne_and_not_mem_of_not_mem_cons hi
    rw [grp_modGroup, if_neg (Ne.symm hg), h.groups i hgs]
  · rw [grp_modGroup]
    split
    · next hg => rw [hg, h.grp_eq]
    · exact h.grp_eq i

end

/-! ### A check-in (R133) -/

section
variable {k : EntryId} {r : TramRec} {g : GroupId} {c : CheckIn} {s : State}

/-- Outside NORMAL every record is OBSERVED (R135). -/
theorem mustObserve_of_mode (r : TramRec) (h : s.mode ≠ .normal) : mustObserve s r = true := by
  simp [mustObserve, h]

/-- By row 1 of R135 a record without a transition is OBSERVED. -/
theorem evaluate_of_mustObserve (hk : tram s k = some r) (hcall : r.transition = none) (hmust : mustObserve s r = true)
    (anew : Bool) : evaluate k anew s = recomputeHold r.group (setTramState k .observed s) := by
  simp only [evaluate, hk]
  rw [if_pos hmust, cancelCall, hcall]

theorem takeCheckIn_of_no_route (h : routeGroupIn (cfg s) c.approach c.route = none) :
    takeCheckIn c s = (s, .noRoute) := by
  simp only [takeCheckIn, h]

theorem takeCheckIn_of_full (hroute : routeGroupIn (cfg s) c.approach c.route = some g)
    (hnew : Unlisted c.number c.approach s) (hfull : ∀ k, tram s k ≠ none) : takeCheckIn c s = (s, .listFull) := by
  simp only [takeCheckIn, hroute, findTram_of_unlisted hnew, freeEntry_of_full hfull]

/-- Outside NORMAL a check-in of a new tram makes an OBSERVED record in the lowest empty entry (R130, R133). -/
theorem takeCheckIn_of_new (hroute : routeGroupIn (cfg s) c.approach c.route = some g)
    (hnew : Unlisted c.number c.approach s) (hfree : LowestEmpty k s) (hmode : s.mode ≠ .normal)
    (hterm : (grp s g).pendingTerm = none) :
    ∃ t, takeCheckIn c s = (t, .taken) ∧ EntryChanged k (some (newTram s c g)) [g] s t ∧ HoldFollows g t ∧
      t = { s with trams := t.trams, groups := t.groups } := by
  have hlisted := entryChanged_putTram k (some (newTram s c g)) s
  have hobserved := hlisted.setTramState .observed
  have hevaluated : evaluate k false (putTram k (some (newTram s c g)) s) =
      recomputeHold g (setTramState k .observed (putTram k (some (newTram s c g)) s)) :=
    evaluate_of_mustObserve hlisted.own rfl (mustObserve_of_mode (s := putTram k _ s) _ hmode) false
  refine ⟨evaluate k false (putTram k (some (newTram s c g)) s), ?_, ?_⟩
  · simp only [takeCheckIn, hroute, findTram_of_unlisted hnew, freeEntry_of_lowest hfree, putTram]
  · rw [hevaluated]
    refine ⟨hobserved.recomputeHold hterm, holdFollows_recomputeHold hterm, ?_⟩
    rw [recomputeHold_frame (s := setTramState k .observed (putTram k _ s)) hterm]
    rfl

end

/-! ### A removal (R142) -/

/-- A record without a transition has left its entry, and its group is held by the others alone (R142). -/
structure Removed (k : EntryId) (r : TramRec) (s t : State) : Prop where
  entry : EntryChanged k none [r.group] s t
  hold : if r.state = .holding then HoldFollows r.group t else grp t r.group = grp s r.group
  rest : t = { s with trams := t.trams, groups := t.groups }

theorem removed_removeTram (k : EntryId) {r : TramRec} {s : State} (hcall : r.transition = none)
    (hterm : (grp s r.group).pendingTerm = none) : Removed k r s (removeTram k r s) := by
  have hput := entryChanged_putTram k none s
  have hremoved : removeTram k r s =
      if r.state = .holding then recomputeHold r.group (putTram k none s) else putTram k none s := by
    rw [removeTram, cancelCall, hcall]
    rfl
  rw [hremoved]
  by_cases hholding : r.state = .holding
  · rw [if_pos hholding]
    refine ⟨hput.recomputeHold hterm, by rw [if_pos hholding]; exact holdFollows_recomputeHold hterm, ?_⟩
    rw [recomputeHold_frame (s := putTram k none s) hterm]
    rfl
  · rw [if_neg hholding]
    exact ⟨hput.widen, by rw [if_neg hholding]; rfl, rfl⟩

end Sys2Proof.Machine
end

section
/-! SUPPORT. A completed byte at the telegram assembler (R121), and the check and the contents of the telegram that it
completes (R123 to R126). -/

namespace Sys2Proof.Machine

open Sys2Proof

/-! ### The telegram assembler (R121) -/

section
variable {b : BeaconRec} {byte : Byte}

theorem takeByte_stray (now : Time) (hidle : b.receiver = .idle) (hbyte : byte ≠ 0xC3#8) :
    takeByte now byte b = (countBeacon (fun c => { c with stray := satInc c.stray }) b, none) := by
  simp only [takeByte, hidle]
  exact if_neg hbyte

theorem takeByte_opening (now : Time) (hidle : b.receiver = .idle) :
    takeByte now 0xC3#8 b =
      ({ b with receiver := .assembling, telegram := [0xC3#8], lastByteAt := now, sinceByte := 0 }, none) := by
  simp only [takeByte, hidle]
  exact if_pos trivial

theorem takeByte_joining (now : Time) (byte : Byte) (hassembling : b.receiver = .assembling)
    (hlength : b.telegram.length < 11) :
    takeByte now byte b =
      ({ b with telegram := b.telegram ++ [byte], lastByteAt := now, sinceByte := 0 }, none) := by
  simp only [takeByte, hassembling]
  exact if_pos hlength

theorem takeByte_twelfth (now : Time) (byte : Byte) (hassembling : b.receiver = .assembling)
    (hlength : b.telegram.length = 11) :
    takeByte now byte b = ({ b with receiver := .idle, telegram := [] }, some (b.telegram ++ [byte])) := by
  simp only [takeByte, hassembling]
  exact if_neg (by simp [hlength])

end

/-! ### BYTE_COMPLETE (R119, R121) -/

section
variable {n ones : Nat} {byte : Byte} {s : State}

theorem exec_byteComplete (hbyte : s.beacon.assembler = .receiving n ones byte (some true)) :
    exec .byteComplete s = .next (settled (takeCompleted byte s)) := by
  have hcompleted : completedByte s.beacon = some byte := by rw [completedByte, hbyte]
  show execByteComplete s = _
  rw [execByteComplete, hcompleted]

/-- A byte that completes no telegram changes the receiver alone. -/
theorem exec_byteComplete_of_byte {b : BeaconRec} (hwork : s.work = [])
    (hbyte : s.beacon.assembler = .receiving n ones byte (some true))
    (htaken : takeByte s.now byte { s.beacon with assembler := .waitingEdge } = (b, none)) :
    exec .byteComplete s = .next { s with beacon := b } := by
  rw [exec_byteComplete hbyte, takeCompleted, htaken]
  exact congrArg Host.Outcome.next (settled_of_no_work _ hwork)

/-- The receiver once it has given a whole telegram on: no byte in hand, and a start edge awaited (R119, R121). -/
def emptiedReceiver (b : BeaconRec) : BeaconRec :=
  { b with receiver := .idle, assembler := .waitingEdge, telegram := [] }

/-- The twelfth byte gives the telegram on. -/
theorem exec_byteComplete_of_twelfth (hbyte : s.beacon.assembler = .receiving n ones byte (some true))
    (hassembling : s.beacon.receiver = .assembling) (hlength : s.beacon.telegram.length = 11) :
    exec .byteComplete s =
      .next (settled (takeTelegram (s.beacon.telegram ++ [byte]) (modBeacon emptiedReceiver s))) := by
  rw [exec_byteComplete hbyte, takeCompleted,
    takeByte_twelfth (b := { s.beacon with assembler := .waitingEdge }) _ _ hassembling hlength]
  rfl

end

/-! ### The check of a telegram (R123) -/

section
variable {bytes : List Byte} {s : State}

theorem checkHolds_append (hlength : bytes.length = 11) (byte : Byte) :
    checkHolds (bytes ++ [byte]) = true ↔ byte = crc8 bytes := by
  rw [checkHolds, List.drop_left' hlength, List.take_left' hlength]
  simp

theorem takeTelegram_of_bad_check {byte : Byte} (hlength : bytes.length = 11) (h : byte ≠ crc8 bytes) :
    takeTelegram (bytes ++ [byte]) s =
      modBeacon (countBeacon fun c => { c with checkFailures := satInc c.checkFailures }) s :=
  if_neg fun hcheck => h ((checkHolds_append hlength byte).1 hcheck)

theorem takeTelegram_of_no_contents (hlength : bytes.length = 11)
    (hcontents : contentsOf (cfg s) (bytes ++ [crc8 bytes]) = none) :
    takeTelegram (bytes ++ [crc8 bytes]) s =
      modBeacon (countBeacon fun c => { c with contentDrops := satInc c.contentDrops }) s := by
  rw [takeTelegram, if_pos ((checkHolds_append hlength _).2 rfl), hcontents]

theorem takeTelegram_of_contents {bcn : BeaconId} {a : ApproachId} {m : Message} (hlength : bytes.length = 11)
    (hcontents : contentsOf (cfg s) (bytes ++ [crc8 bytes]) = some (bcn, a, m)) :
    takeTelegram (bytes ++ [crc8 bytes]) s = handMessage a m (modBeacon (acceptBeacon s.now bcn) s) := by
  rw [takeTelegram, if_pos ((checkHolds_append hlength _).2 rfl), hcontents]

end

/-! ### The beacon of a telegram (R124, R125) -/

theorem approachOfNat_succ (a : ApproachId) : approachOfNat (a.val + 1) = some a :=
  dif_pos ⟨Nat.succ_pos _, a.isLt⟩

section
variable {img : Image} {first : Byte} {bcn : BeaconId} {a : ApproachId}

/-- A beacon number outside the table gives no contents. -/
theorem contentsOf_of_beyond {number : Byte} {rest : List Byte} (h : 16 ≤ number.toNat) :
    contentsOf img (first :: number :: rest) = none := by
  unfold contentsOf
  split
  · next heq =>
    obtain ⟨-, rfl, -⟩ : _ ∧ _ ∧ _ := by simpa using heq
    exact dif_neg (Nat.not_lt.2 h)
  · rfl

theorem toNat_ofNat_beacon (bcn : BeaconId) : (BitVec.ofNat 8 bcn.val).toNat = bcn.val :=
  Nat.mod_eq_of_lt (Nat.lt_trans bcn.isLt (by decide))

theorem contentsOf_of_off (hoff : beaconFn (look img.beacons bcn) = .off)
    (kd n1 n0 line way d1 d0 speed lateness check : Byte) :
    contentsOf img [first, BitVec.ofNat 8 bcn.val, kd, n1, n0, line, way, d1, d0, speed, lateness, check] = none := by
  simp only [contentsOf, toNat_ofNat_beacon, bcn.isLt, dif_pos, Fin.eta, hoff]

/-- The telegram of a beacon in use is read by the function and the approach of the beacon. -/
theorem contentsOf_of_used {fn : BeaconFunction} (hfn : beaconFn (look img.beacons bcn) = fn) (hused : fn ≠ .off)
    (ha : (look img.beacons bcn).approach.toNat = a.val + 1) (kd n1 n0 line way d1 d0 speed lateness check : Byte) :
    contentsOf img [first, BitVec.ofNat 8 bcn.val, kd, n1, n0, line, way, d1, d0, speed, lateness, check] =
      (messageOf fn a kd (word16 n1 n0) line way (word16 d1 d0) speed lateness).map fun m => (bcn, a, m) := by
  simp only [contentsOf, toNat_ofNat_beacon, bcn.isLt, dif_pos, Fin.eta, hfn, ha, approachOfNat_succ]

end

/-! ### The message of a telegram (R124, R125) -/

theorem routeOfCode_routeByte (route : Route) : routeOfCode (routeByte route) = some route := by
  cases route <;> rfl

theorem routeOfCode_eq_none {way : Byte} (h : ∀ route, way ≠ routeByte route) : routeOfCode way = none := by
  have hcode : ∀ way : Byte, routeOfCode way = none ∨ ∃ route, way = routeByte route := by
    intro way
    unfold routeOfCode
    split
    · next hc => exact .inr ⟨.left, BitVec.eq_of_toNat_eq hc⟩
    · next hc => exact .inr ⟨.ahead, BitVec.eq_of_toNat_eq hc⟩
    · next hc => exact .inr ⟨.right, BitVec.eq_of_toNat_eq hc⟩
    · exact .inl rfl
  rcases hcode way with hnone | ⟨route, hroute⟩
  · exact hnone
  · exact absurd hroute (h route)

section
variable {fn : BeaconFunction} {a : ApproachId} {kd line way speed lateness : Byte} {number distance : BitVec 16}

theorem validTram_iff : validTram number = true ↔ number.toNat ≤ 9999 := by simp [validTram]

/-- What a CHECK_IN telegram says (R124, R126). -/
def telegramCheckIn (a : ApproachId) (number : BitVec 16) (line : Byte) (route : Route) (distance : BitVec 16)
    (speed lateness : Byte) : CheckIn where
  number := number
  approach := a
  line := line
  route := route
  distance := distance.toNat
  speed := speed.toNat
  lateness := latenessOf lateness
  source := .beacon

theorem messageOf_checkIn {route : Route} (hnumber : number.toNat ≤ 9999) :
    messageOf .pre a 1#8 number line (routeByte route) distance speed lateness =
      some (.checkIn (telegramCheckIn a number line route distance speed lateness)) := by
  show (if validTram number = true then _ else none) = _
  rw [if_pos (validTram_iff.2 hnumber), routeOfCode_routeByte]
  rfl

theorem messageOf_checkOut (hnumber : number.toNat ≤ 9999) :
    messageOf .stop a 2#8 number line way distance speed lateness = some (.checkOut number) :=
  if_pos (validTram_iff.2 hnumber)

theorem messageOf_cancel (hfn : fn ≠ .off) (hnumber : number.toNat ≤ 9999) :
    messageOf fn a 3#8 number line way distance speed lateness = some (.cancel number) := by
  cases fn with
  | pre => exact if_pos (validTram_iff.2 hnumber)
  | stop => exact if_pos (validTram_iff.2 hnumber)
  | off => exact absurd rfl hfn

theorem messageOf_status (hfn : fn ≠ .off) :
    messageOf fn a 4#8 number line way distance speed lateness = some .status := by
  cases fn with
  | pre => rfl
  | stop => rfl
  | off => exact absurd rfl hfn

/-- A message has a valid tram number unless it is a STATUS, a CHECK_IN of a PRE beacon names a route, a CHECK_OUT is of a
STOP beacon, and no beacon that is OFF has one. -/
theorem messageOf_eq_some {m : Message} (h : messageOf fn a kd number line way distance speed lateness = some m) :
    fn ≠ .off ∧
      (kd = 4#8 ∨ number.toNat ≤ 9999 ∧
        ((kd = 1#8 ∧ fn = .pre ∧ ∃ route, way = routeByte route) ∨ (kd = 2#8 ∧ fn = .stop) ∨ kd = 3#8)) := by
  unfold messageOf at h
  split at h
  · next hkd =>
    obtain ⟨hvalid, hroute⟩ := Option.ite_none_right_eq_some.1 h
    refine ⟨by decide, .inr ⟨validTram_iff.1 hvalid, .inl ⟨BitVec.eq_of_toNat_eq hkd, rfl, ?_⟩⟩⟩
    by_contra hnone
    rw [routeOfCode_eq_none (not_exists.1 hnone)] at hroute
    cases hroute
  · next hkd =>
    exact ⟨by decide, .inr ⟨validTram_iff.1 (Option.ite_none_right_eq_some.1 h).1,
      .inr (.inl ⟨BitVec.eq_of_toNat_eq hkd, rfl⟩)⟩⟩
  · next hkd =>
    exact ⟨by decide, .inr ⟨validTram_iff.1 (Option.ite_none_right_eq_some.1 h).1,
      .inr (.inr (BitVec.eq_of_toNat_eq hkd))⟩⟩
  · next hkd =>
    exact ⟨by decide, .inr ⟨validTram_iff.1 (Option.ite_none_right_eq_some.1 h).1,
      .inr (.inr (BitVec.eq_of_toNat_eq hkd))⟩⟩
  · next hkd => exact ⟨by decide, .inl (BitVec.eq_of_toNat_eq hkd)⟩
  · next hkd => exact ⟨by decide, .inl (BitVec.eq_of_toNat_eq hkd)⟩
  · cases h

/-- A telegram that fails one of the content checks 2 to 5 has no message. -/
theorem messageOf_eq_none
    (h : fn = .off ∨ kd.toNat = 0 ∨ 4 < kd.toNat ∨ (fn = .pre ∧ kd = 2#8) ∨ (fn = .stop ∧ kd = 1#8) ∨
      (kd ≠ 4#8 ∧ 9999 < number.toNat) ∨ (kd = 1#8 ∧ ∀ route, way ≠ routeByte route)) :
    messageOf fn a kd number line way distance speed lateness = none := by
  refine Option.eq_none_iff_forall_ne_some.2 fun m hm => ?_
  obtain ⟨hfn, rfl | ⟨hnumber, ⟨rfl, rfl, route, rfl⟩ | ⟨rfl, rfl⟩ | rfl⟩⟩ := messageOf_eq_some hm
  · simp [hfn] at h
  · simp [Nat.not_lt.2 hnumber] at h
    exact h route rfl
  · simp [Nat.not_lt.2 hnumber] at h
  · simp [hfn, Nat.not_lt.2 hnumber] at h

end

/-! ### A whole telegram at the receiver (R121, R123) -/

section
variable {bcn : BeaconId} {fn : BeaconFunction} {a : ApproachId} {fields : List Byte}
  {kd n1 n0 line way d1 d0 speed lateness : Byte} {s : State}

/-- The receiver with a telegram dropped for its contents (R124, R127). -/
def refusedReceiver (b : BeaconRec) : BeaconRec :=
  { emptiedReceiver b with counts := { b.counts with contentDrops := satInc b.counts.contentDrops } }

theorem Telegram.length_telegram (h : Telegram bcn fn a fields s) : s.beacon.telegram.length = 11 := by
  obtain ⟨first, hbytes⟩ := h.bytes
  rw [hbytes, List.length_cons, List.length_cons, h.length]

/-- The telegram is checked and read. -/
theorem Telegram.exec (h : Telegram bcn fn a fields s) :
    exec .byteComplete s =
      .next
        (settled (takeTelegram (s.beacon.telegram ++ [crc8 s.beacon.telegram]) (modBeacon emptiedReceiver s))) :=
  let ⟨_, _, hlast⟩ := h.last
  exec_byteComplete_of_twelfth hlast h.receiver h.length_telegram

/-- A telegram without a message is a content drop. -/
theorem Telegram.exec_of_refused (h : Telegram bcn fn a [kd, n1, n0, line, way, d1, d0, speed, lateness] s)
    (hm : messageOf fn a kd (word16 n1 n0) line way (word16 d1 d0) speed lateness = none) :
    Machine.exec .byteComplete s = .next (modBeacon refusedReceiver s) := by
  obtain ⟨first, hbytes⟩ := h.bytes
  have hcontents : contentsOf (cfg s) (s.beacon.telegram ++ [crc8 s.beacon.telegram]) = none := by
    by_cases hoff : fn = .off
    · rw [hbytes]
      exact contentsOf_of_off (h.function.trans hoff) ..
    · rw [hbytes]
      refine (contentsOf_of_used h.function hoff (h.approach hoff) ..).trans ?_
      rw [hm]
      rfl
  rw [h.exec, takeTelegram_of_no_contents (s := modBeacon _ s) h.length_telegram hcontents]
  exact congrArg Host.Outcome.next (settled_of_no_work _ h.work)

/-- A telegram with a message is accepted, and its message handed to the tram priority engine. -/
theorem Telegram.exec_of_message {m : Message} (h : Telegram bcn fn a [kd, n1, n0, line, way, d1, d0, speed, lateness] s)
    (hm : messageOf fn a kd (word16 n1 n0) line way (word16 d1 d0) speed lateness = some m) :
    Machine.exec .byteComplete s = .next (settled (handMessage a m { s with beacon := acceptedBeacon bcn s })) := by
  obtain ⟨first, hbytes⟩ := h.bytes
  have hused : fn ≠ .off := (messageOf_eq_some hm).1
  have hcontents : contentsOf (cfg s) (s.beacon.telegram ++ [crc8 s.beacon.telegram]) = some (bcn, a, m) := by
    rw [hbytes]
    refine (contentsOf_of_used h.function hused (h.approach hused) ..).trans ?_
    rw [hm]
    rfl
  rw [h.exec, takeTelegram_of_contents (s := modBeacon _ s) h.length_telegram hcontents]
  rfl

end

end Sys2Proof.Machine
end

section
/-! PROOF. BYTE_COMPLETE: what a byte does by the receiver's state (R121), and what an accepted telegram of each kind does to
the tram approach list and its counters (R126, R133, R142 to R144, R149). -/

namespace Sys2Proof.Machine

open Sys2Proof

/-! ### Messages at the tram priority engine (R126) -/

section
variable {c : CheckIn} {number : BitVec 16} {a : ApproachId} {k : EntryId} {r : TramRec} {g : GroupId} {s : State}

theorem beaconCheckIn_of_no_route (h : routeGroupIn (cfg s) c.approach c.route = none) :
    beaconCheckIn c s = { s with tramDrops := { s.tramDrops with noRoute := satInc s.tramDrops.noRoute } } := by
  rw [beaconCheckIn, takeCheckIn_of_no_route h]

theorem beaconCheckIn_of_full (hroute : routeGroupIn (cfg s) c.approach c.route = some g)
    (hnew : Unlisted c.number c.approach s) (hfull : ∀ k, tram s k ≠ none) :
    beaconCheckIn c s =
      raiseFor .tram [.plan, .tramnet]
        { s with tramDrops := { s.tramDrops with listFull := satInc s.tramDrops.listFull } } := by
  rw [beaconCheckIn, takeCheckIn_of_full hroute hnew hfull]

theorem beaconCheckIn_of_new (hroute : routeGroupIn (cfg s) c.approach c.route = some g)
    (hnew : Unlisted c.number c.approach s) (hfree : LowestEmpty k s) (hmode : s.mode ≠ .normal)
    (hterm : (grp s g).pendingTerm = none) :
    ∃ t, beaconCheckIn c s = t ∧ EntryChanged k (some (newTram s c g)) [g] s t ∧ HoldFollows g t ∧
      t = { s with trams := t.trams, groups := t.groups } := by
  obtain ⟨t, htaken, hrest⟩ := takeCheckIn_of_new hroute hnew hfree hmode hterm
  exact ⟨t, by rw [beaconCheckIn, htaken], hrest⟩

theorem beaconCheckOut_of_unlisted (h : Unlisted number a s) : beaconCheckOut number a s = countUnmatched s := by
  simp only [beaconCheckOut, findTram_of_unlisted h]

theorem beaconCancel_of_unlisted (h : Unlisted number a s) : beaconCancel number a s = countUnmatched s := by
  simp only [beaconCancel, findTram_of_unlisted h]

theorem beaconCheckOut_of_listed (hlaw : TramListLaw s) (hk : tram s k = some r) (hnumber : r.number = number)
    (ha : r.approach = a) : beaconCheckOut number a s = checkOut k r s := by
  simp only [beaconCheckOut, findTram_of_listed hlaw hk hnumber ha, hk]

theorem beaconCancel_of_listed (hlaw : TramListLaw s) (hk : tram s k = some r) (hnumber : r.number = number)
    (ha : r.approach = a) : beaconCancel number a s = removeTram k r s := by
  simp only [beaconCancel, findTram_of_listed hlaw hk hnumber ha, hk]

end

/-! ### Accepted telegrams -/

section
variable {bcn : BeaconId} {fn : BeaconFunction} {a : ApproachId} {route : Route} {g : GroupId} {k : EntryId} {r : TramRec}
  {kd n1 n0 line way d1 d0 speed lateness : Byte} {m : Message} {s u : State}

/-- A message that sets nothing off is taken whole. -/
theorem Telegram.exec_of_handed (h : Telegram bcn fn a [kd, n1, n0, line, way, d1, d0, speed, lateness] s)
    (hm : messageOf fn a kd (word16 n1 n0) line way (word16 d1 d0) speed lateness = some m)
    (hhanded : handMessage a m { s with beacon := acceptedBeacon bcn s } = u) (hwork : u.work = []) :
    Machine.exec .byteComplete s = .next u := by
  rw [h.exec_of_message hm, hhanded, settled_of_no_work u hwork]

/-- A STATUS telegram does nothing more than refresh its beacon (R125, R126). -/
theorem Telegram.exec_status (h : Telegram bcn fn a [4#8, n1, n0, line, way, d1, d0, speed, lateness] s)
    (hused : fn ≠ .off) : Machine.exec .byteComplete s = .next { s with beacon := acceptedBeacon bcn s } :=
  h.exec_of_handed (messageOf_status hused) rfl h.work

theorem Telegram.exec_no_route
    (h : Telegram bcn .pre a [1#8, n1, n0, line, routeByte route, d1, d0, speed, lateness] s)
    (hnumber : (word16 n1 n0).toNat ≤ 9999) (hroute : routeGroupIn (cfg s) a route = none) :
    Machine.exec .byteComplete s =
      .next
        { s with
          beacon := acceptedBeacon bcn s
          tramDrops := { s.tramDrops with noRoute := satInc s.tramDrops.noRoute } } :=
  h.exec_of_handed (messageOf_checkIn hnumber)
    (beaconCheckIn_of_no_route (s := { s with beacon := acceptedBeacon bcn s }) hroute) h.work

theorem Telegram.exec_list_full
    (h : Telegram bcn .pre a [1#8, n1, n0, line, routeByte route, d1, d0, speed, lateness] s)
    (hnumber : (word16 n1 n0).toNat ≤ 9999) (hroute : routeGroupIn (cfg s) a route = some g)
    (hnew : Unlisted (word16 n1 n0) a s) (hfull : ∀ k, tram s k ≠ none) :
    ∃ t, Machine.exec .byteComplete s = .next t ∧ Noticed .tram s t ∧
      t = { s with
            beacon := acceptedBeacon bcn s, links := t.links,
            tramDrops := { s.tramDrops with listFull := satInc s.tramDrops.listFull } } := by
  have hhanded := beaconCheckIn_of_full (s := { s with beacon := acceptedBeacon bcn s })
    (c := telegramCheckIn a (word16 n1 n0) line route (word16 d1 d0) speed lateness) hroute hnew hfull
  refine ⟨_, h.exec_of_handed (messageOf_checkIn hnumber) hhanded ?_, noticed_raiseFor_tram _, ?_⟩
  · rw [raiseFor_frame]
    exact h.work
  · exact raiseFor_frame .tram _ _

theorem Telegram.exec_enlisted
    (h : Telegram bcn .pre a [1#8, n1, n0, line, routeByte route, d1, d0, speed, lateness] s)
    (hnumber : (word16 n1 n0).toNat ≤ 9999) (hroute : routeGroupIn (cfg s) a route = some g)
    (hnew : Unlisted (word16 n1 n0) a s) (hfree : LowestEmpty k s) (hmode : s.mode ≠ .normal)
    (hterm : (grp s g).pendingTerm = none) :
    ∃ t, Machine.exec .byteComplete s = .next t ∧ HoldFollows g t ∧
      EntryChanged k
        (some (newTram s (telegramCheckIn a (word16 n1 n0) line route (word16 d1 d0) speed lateness) g)) [g] s t ∧
      t = { s with beacon := acceptedBeacon bcn s, trams := t.trams, groups := t.groups } := by
  obtain ⟨t, hhanded, hentry, hhold, hrest⟩ := beaconCheckIn_of_new (s := { s with beacon := acceptedBeacon bcn s })
    (c := telegramCheckIn a (word16 n1 n0) line route (word16 d1 d0) speed lateness) hroute hnew hfree hmode hterm
  exact ⟨t, h.exec_of_handed (messageOf_checkIn hnumber) hhanded (by rw [hrest]; exact h.work), hhold,
    hentry.of_eq rfl rfl, hrest⟩

theorem Telegram.exec_unmatched (h : Telegram bcn fn a [kd, n1, n0, line, way, d1, d0, speed, lateness] s)
    (hnumber : (word16 n1 n0).toNat ≤ 9999) (hkind : (fn = .stop ∧ kd = 2#8) ∨ (fn ≠ .off ∧ kd = 3#8))
    (hnew : Unlisted (word16 n1 n0) a s) :
    Machine.exec .byteComplete s =
      .next
        { s with
          beacon := acceptedBeacon bcn s
          tramDrops := { s.tramDrops with unmatched := satInc s.tramDrops.unmatched } } := by
  rcases hkind with ⟨rfl, rfl⟩ | ⟨hused, rfl⟩
  · exact h.exec_of_handed (messageOf_checkOut hnumber)
      (beaconCheckOut_of_unlisted (s := { s with beacon := acceptedBeacon bcn s }) hnew) h.work
  · exact h.exec_of_handed (messageOf_cancel hused hnumber)
      (beaconCancel_of_unlisted (s := { s with beacon := acceptedBeacon bcn s }) hnew) h.work

/-- A telegram that removes a record, with what it has written of the statistics. -/
theorem Telegram.exec_removed {stats : Vector TramStats 4}
    (h : Telegram bcn fn a [kd, n1, n0, line, way, d1, d0, speed, lateness] s)
    (hm : messageOf fn a kd (word16 n1 n0) line way (word16 d1 d0) speed lateness = some m)
    (hhanded : handMessage a m { s with beacon := acceptedBeacon bcn s } =
      removeTram k r { s with beacon := acceptedBeacon bcn s, tramStats := stats })
    (hcall : r.transition = none) (hterm : (grp s r.group).pendingTerm = none) :
    ∃ t, Machine.exec .byteComplete s = .next t ∧ EntryChanged k none [r.group] s t ∧
      (if r.state = .holding then HoldFollows r.group t else grp t r.group = grp s r.group) ∧
      t = { s with beacon := acceptedBeacon bcn s, trams := t.trams, groups := t.groups, tramStats := stats } := by
  obtain ⟨hentry, hhold, hrest⟩ := removed_removeTram k
    (s := { s with beacon := acceptedBeacon bcn s, tramStats := stats }) hcall hterm
  exact ⟨_, h.exec_of_handed hm hhanded (by rw [hrest]; exact h.work), hentry.of_eq rfl rfl, hhold, hrest⟩

/-- The statistics after a removal by a telegram: a CHECK_OUT counts for its approach, a CANCEL counts nothing (R143, R144,
R149). -/
def statsAfterRemoval (kd : Byte) (a : ApproachId) (stats : Vector TramStats 4) : Vector TramStats 4 :=
  if kd = 2#8 then put stats a { look stats a with checkOuts := satInc (look stats a).checkOuts } else stats

theorem look_statsAfterRemoval_own (kd : Byte) (a : ApproachId) (stats : Vector TramStats 4) :
    look (statsAfterRemoval kd a stats) a =
      if kd = 2#8 then { look stats a with checkOuts := satInc (look stats a).checkOuts } else look stats a := by
  unfold statsAfterRemoval
  split <;> simp

theorem look_statsAfterRemoval_other (kd : Byte) {a b : ApproachId} (hb : b ≠ a) (stats : Vector TramStats 4) :
    look (statsAfterRemoval kd a stats) b = look stats b := by
  unfold statsAfterRemoval
  split
  · rw [look_put, if_neg (Ne.symm hb)]
  · rfl

theorem Telegram.exec_matched (h : Telegram bcn fn a [kd, n1, n0, line, way, d1, d0, speed, lateness] s)
    (hnumber : (word16 n1 n0).toNat ≤ 9999) (hkind : (fn = .stop ∧ kd = 2#8) ∨ (fn ≠ .off ∧ kd = 3#8))
    (hlaw : TramListLaw s) (hk : tram s k = some r) (hn : r.number = word16 n1 n0) (ha : r.approach = a)
    (hcall : r.transition = none) (hterm : (grp s r.group).pendingTerm = none) :
    ∃ t, Machine.exec .byteComplete s = .next t ∧ EntryChanged k none [r.group] s t ∧
      (if r.state = .holding then HoldFollows r.group t else grp t r.group = grp s r.group) ∧
      t = { s with
            beacon := acceptedBeacon bcn s, trams := t.trams, groups := t.groups,
            tramStats := statsAfterRemoval kd a s.tramStats } := by
  subst ha
  rcases hkind with ⟨rfl, rfl⟩ | ⟨hused, rfl⟩
  · exact h.exec_removed (messageOf_checkOut hnumber)
      (beaconCheckOut_of_listed (s := { s with beacon := acceptedBeacon bcn s }) hlaw hk hn rfl) hcall hterm
  · exact h.exec_removed (messageOf_cancel hused hnumber)
      (beaconCancel_of_listed (s := { s with beacon := acceptedBeacon bcn s }) hlaw hk hn rfl) hcall hterm

end

/-! ### The statement -/

/-- Eight bytes, one by one. -/
theorem exists_eight_bytes {l : List Byte} (h : l.length = 8) :
    ∃ b1 b2 b3 b4 b5 b6 b7 b8, l = [b1, b2, b3, b4, b5, b6, b7, b8] := by
  match l, h with
  | [b1, b2, b3, b4, b5, b6, b7, b8], _ => exact ⟨b1, b2, b3, b4, b5, b6, b7, b8, rfl⟩

/-- The twelfth byte of a STATUS telegram of a beacon in use (R123 to R126). -/
theorem exec_byteComplete_of_status {n ones : Nat} {first : Byte} {bcn : BeaconId} {rest : List Byte} {a : ApproachId}
    {s : State} (hwork : s.work = [])
    (hbyte : s.beacon.assembler = .receiving n ones (crc8 s.beacon.telegram) (some true))
    (hassembling : s.beacon.receiver = .assembling) (hlength : s.beacon.telegram.length = 11)
    (hbytes : s.beacon.telegram = first :: BitVec.ofNat 8 bcn.val :: 4#8 :: rest)
    (hused : beaconFn (look (cfg s).beacons bcn) ≠ .off)
    (ha : (look (cfg s).beacons bcn).approach.toNat = a.val + 1) :
    exec .byteComplete s = .next { s with beacon := acceptedBeacon bcn s } := by
  have hrest : rest.length = 8 := by simpa [hbytes] using hlength
  obtain ⟨n1, n0, line, way, d1, d0, speed, lateness, rfl⟩ := exists_eight_bytes hrest
  have htelegram : Telegram bcn (beaconFn (look (cfg s).beacons bcn)) a
      [4#8, n1, n0, line, way, d1, d0, speed, lateness] s :=
    { work := hwork, receiver := hassembling, bytes := ⟨first, hbytes⟩, length := rfl, last := ⟨n, ones, hbyte⟩,
      function := rfl, approach := fun _ => ha }
  exact htelegram.exec_status hused

/-- Settles O33: a byte by the receiver's state, and a whole telegram by its contents and by what its message finds. -/
theorem completedBytesBuildTelegrams : Obligations.CompletedBytesBuildTelegrams := by
  refine ⟨fun n ones byte s hwork hbyte => ⟨fun hidle hne => ?_, fun hidle hopens => ?_, fun hassembling hlength => ?_,
    fun hassembling hlength => ⟨fun hwrong => ?_, fun first number rest hbytes hright hbeyond => ?_,
      fun first bcn rest a hbytes hright hused ha => ?_⟩⟩,
    fun bcn fn a kd n1 n0 line way d1 d0 speed lateness s h => ⟨fun hrefused => ?_, fun hnumber =>
      ⟨fun route hfn hkd hway => ?_, fun hkind => ⟨fun hnew => ?_, fun k r hlaw hk hn ha hcall hterm => ?_⟩⟩⟩⟩
  · exact ⟨_, exec_byteComplete_of_byte hwork hbyte (takeByte_stray _ hidle hne), rfl⟩
  · subst hopens
    exact ⟨_, exec_byteComplete_of_byte hwork hbyte (takeByte_opening _ hidle), rfl⟩
  · exact ⟨_, exec_byteComplete_of_byte hwork hbyte (takeByte_joining _ _ hassembling hlength), rfl⟩
  · refine ⟨_, exec_byteComplete_of_twelfth hbyte hassembling hlength, ?_⟩
    rw [takeTelegram_of_bad_check hlength hwrong]
    exact settled_of_no_work _ hwork
  · subst hright
    refine ⟨_, exec_byteComplete_of_twelfth hbyte hassembling hlength, ?_⟩
    rw [takeTelegram_of_no_contents hlength (by rw [hbytes]; exact contentsOf_of_beyond hbeyond)]
    exact settled_of_no_work _ hwork
  · subst hright
    exact ⟨_, exec_byteComplete_of_status hwork hbyte hassembling hlength hbytes hused ha, rfl⟩
  · exact ⟨_, h.exec_of_refused (messageOf_eq_none hrefused), rfl⟩
  · subst hfn hkd hway
    exact ⟨fun hroute => ⟨_, h.exec_no_route hnumber hroute, rfl⟩, fun g hroute hnew =>
      ⟨h.exec_list_full hnumber hroute hnew, fun k hfree hmode hterm =>
        h.exec_enlisted hnumber hroute hnew hfree hmode hterm⟩⟩
  · exact ⟨_, h.exec_unmatched hnumber hkind hnew, rfl⟩
  · obtain ⟨t, hexec, hentry, hhold, hrest⟩ := h.exec_matched hnumber hkind hlaw hk hn ha hcall hterm
    have hstats : t.tramStats = statsAfterRemoval kd a s.tramStats := by rw [hrest]
    refine ⟨t, hexec, hentry, hhold, ?_, fun b hb => ?_, ?_⟩
    · rw [hstats, look_statsAfterRemoval_own]
    · rw [hstats, look_statsAfterRemoval_other kd hb]
    · rw [hstats]
      exact hrest

end Sys2Proof.Machine
end

section
/-! PROOF. The tram timers (R139, R145) and the requests that remove a record of the list (R142 to R144). -/

namespace Sys2Proof.Machine

open Sys2Proof

/-! ### A record of the list changed -/

section
variable {k : EntryId} {r : TramRec} {q : Option TramRec} {g : GroupId} {gs : List GroupId} {s t u : State}

/-- One entry of the list has changed and the hold-until of some groups, and nothing else (R133, R134, R142). -/
structure EntryWritten (k : EntryId) (q : Option TramRec) (gs : List GroupId) (s t : State) : Prop where
  entry : EntryChanged k q gs s t
  rest : t = { s with trams := t.trams, groups := t.groups }

theorem entryWritten_refl (hk : tram s k = some r) : EntryWritten k (some r) [] s s where
  entry := ⟨hk, fun _ _ => rfl, fun _ _ => rfl, fun _ hi => absurd hi List.not_mem_nil⟩
  rest := rfl

theorem EntryWritten.exists_eq (h : EntryWritten k q gs s u) :
    ∃ trams groups, u = { s with trams := trams, groups := groups } := ⟨_, _, h.rest⟩

/-- The record of the entry changes once more. -/
theorem EntryWritten.modTram (h : EntryWritten k (some r) gs s u) (f : TramRec → TramRec) :
    EntryWritten k (some (f r)) gs s (Machine.modTram k f u) where
  entry :=
    { own := by rw [tram_modTram, if_pos rfl, h.entry.own]; rfl
      others := fun j hj => by rw [tram_modTram, if_neg (Ne.symm hj), h.entry.others j hj]
      groups := h.entry.groups
      holds := h.entry.holds }
  rest := by
    obtain ⟨trams, groups, rfl⟩ := h.exists_eq
    rfl

/-- No terminate is placed or taken on the way. -/
theorem EntryWritten.pendingTerm (h : EntryWritten k q gs s u) (hterm : (grp s g).pendingTerm = none) :
    (grp u g).pendingTerm = none := by
  rw [h.entry.grp_eq]
  exact hterm

theorem EntryWritten.recomputeHold (h : EntryWritten k q gs s u) (hterm : (grp s g).pendingTerm = none) :
    EntryWritten k q (g :: gs) s (Machine.recomputeHold g u) where
  entry := h.entry.recomputeHold hterm
  rest := by
    obtain ⟨v, hv, -⟩ := recomputeHold_eq (h.pendingTerm hterm)
    rw [hv]
    obtain ⟨trams, groups, rfl⟩ := h.exists_eq
    rfl

/-- When no other record holds the group and this one no longer does, the group has no hold-until (R138). -/
theorem holdUntil_eq_none_of_others
    (hentry : EntryChanged k q gs s t) (hhold : HoldFollows g t) (hq : ∀ p, q = some p → p.state ≠ .holding)
    (hothers : ∀ j p, j ≠ k → tram s j = some p → p.group = g → p.state ≠ .holding) :
    (grp t g).holdUntil = none := by
  refine hhold fun j p hj hg => ?_
  by_cases hjk : j = k
  · exact hq p (by rw [← hj, hjk, hentry.own])
  · exact hothers j p hjk ((hentry.others j hjk).symm.trans hj) hg

/-- After a removal a group that the record held has no hold-until, unless another record holds it (R138, R142). -/
theorem Removed.holdUntil_eq_none (h : Removed k r s t) (hholding : r.state = .holding)
    (hothers : ∀ j q, j ≠ k → tram s j = some q → q.group = r.group → q.state ≠ .holding) :
    (grp t r.group).holdUntil = none := by
  have hhold := h.hold
  rw [if_pos hholding] at hhold
  exact holdUntil_eq_none_of_others h.entry hhold (fun _ hp => nomatch hp) hothers

/-- A record that held nothing leaves its group as it was (R142). -/
theorem Removed.grp_eq (h : Removed k r s t) (hholding : r.state ≠ .holding) : grp t r.group = grp s r.group := by
  have hhold := h.hold
  rwa [if_neg hholding] at hhold

end

/-! ### HOLD_TIMER_EXPIRES and LOST_TIMER_EXPIRES -/

section
variable {k : EntryId} {r : TramRec} {s : State}

theorem entryWritten_endHold (hk : tram s k = some r) (hterm : (grp s r.group).pendingTerm = none) :
    EntryWritten k (some { r with state := .overdue }) [r.group] s (endHold k r s) :=
  ((entryWritten_refl hk).modTram fun r => { r with state := .overdue }).recomputeHold hterm

theorem exec_holdTimerExpires {h : Time} (hwork : s.work = []) (hk : tram s k = some r)
    (hterm : (grp s r.group).pendingTerm = none) (hholding : r.state = .holding) (hend : r.holdEnd = some h)
    (hover : atOrAfter s.now h = true) : exec (.holdTimerExpires k) s = .next (endHold k r s) := by
  have hexpired : holdExpired s k = some r := by simp [holdExpired, hk, hholding, hend, hover]
  have hidle : (endHold k r s).work = [] := by
    rw [(entryWritten_endHold hk hterm).rest]
    exact hwork
  show Host.Outcome.next (match holdExpired s k with | some r => settled (endHold k r s) | none => s) = _
  rw [hexpired]
  exact congrArg _ (settled_of_no_work _ hidle)

theorem removed_loseTram (hcall : r.transition = none) (hterm : (grp s r.group).pendingTerm = none) :
    ∃ u, Removed k r (modStats r.approach (fun c => { c with lost := satInc c.lost }) s) u ∧
      loseTram k r s = raiseFor .tram [.plan, .tramnet] u :=
  ⟨_, removed_removeTram k hcall hterm, rfl⟩

theorem exec_lostTimerExpires (hk : tram s k = some r)
    (hexpired : expired s.now r.arrival (figure (cfg s) .lostMargin) = true) :
    exec (.lostTimerExpires k) s = .next (settled (loseTram k r s)) := by
  have hlost : lostExpired s k = some r := by
    rw [lostExpired, hk]
    exact if_pos hexpired
  show Host.Outcome.next (match lostExpired s k with | some r => settled (loseTram k r s) | none => s) = _
  rw [hlost]

end

/-- Settles O34: the hold that ends and the record that is lost, each with the hold-until of its group recomputed. -/
theorem tramTimersExpire : Obligations.TramTimersExpire := by
  intro k r s hwork hk hterm
  refine ⟨fun h hholding hend hover => ?_, fun hcall hexpired => ?_⟩
  · obtain ⟨hentry, hrest⟩ := entryWritten_endHold hk hterm
    refine ⟨_, exec_holdTimerExpires hwork hk hterm hholding hend hover, hentry.own, hentry.others,
      fun g hg => hentry.groups g (by simpa using hg), hentry.holds r.group List.mem_cons_self, fun hothers => ?_,
      hrest⟩
    exact holdUntil_eq_none_of_others hentry (holdFollows_recomputeHold (s := modTram k _ s) hterm)
      (fun p hp => by cases hp; exact TramState.noConfusion) hothers
  · obtain ⟨u, hremoved, hlose⟩ := removed_loseTram (k := k) hcall hterm
    have hrest := hremoved.rest
    have hframe := raiseFor_frame .tram [.plan, .tramnet] u
    have hidle : (loseTram k r s).work = [] := by
      rw [hlose, hframe, hrest]
      exact hwork
    have hentry := hremoved.entry
    rw [exec_lostTimerExpires hk hexpired, settled_of_no_work _ hidle, hlose]
    have hnoticed := noticed_raiseFor_tram u
    generalize raiseFor .tram [.plan, .tramnet] u = t at hframe hnoticed
    have htgrp : ∀ g, grp t g = grp u g := grp_congr (by rw [hframe])
    have httram : ∀ j, tram t j = tram u j := tram_congr (by rw [hframe])
    have hstats : t.tramStats = (modStats r.approach (fun c => { c with lost := satInc c.lost }) s).tramStats := by
      rw [hframe, hrest]
    refine ⟨t, rfl, (httram k).trans hentry.own, fun j hj => (httram j).trans (hentry.others j hj),
      fun g hg => (htgrp g).trans (hentry.groups g (by simpa using hg)), ?_,
      fun hholding => (htgrp _).trans (hremoved.grp_eq hholding), fun hothers hholding => ?_, ?_, fun a ha => ?_,
      fun role => ?_, ?_⟩
    · rw [htgrp]
      exact hentry.holds r.group List.mem_cons_self
    · rw [htgrp]
      exact hremoved.holdUntil_eq_none hholding hothers
    · rw [hstats, modStats, look_put, if_pos rfl]
    · rw [hstats, modStats, look_put, if_neg (Ne.symm ha)]
    · rw [hnoticed role, link_congr (s := s) (by rw [hrest]; rfl)]
    · rw [hframe, hrest]
      rfl

/-! ### Requests of TRAMNET (R133, R143, R144) -/

section
variable {k : EntryId} {r : TramRec} {q : Option TramRec} {gs : List GroupId} {g : GroupId} {params : List Byte}
  {owner : State → State × Reply} {reply : Reply} {s t u : State}

/-- A change of an entry, read in a state with the same list and groups. -/
theorem EntryChanged.congr (h : EntryChanged k q gs s u) (htrams : t.trams = u.trams) (hgroups : t.groups = u.groups) :
    EntryChanged k q gs s t where
  own := (tram_congr htrams k).trans h.own
  others j hj := (tram_congr htrams j).trans (h.others j hj)
  groups i hi := (grp_congr hgroups i).trans (h.groups i hi)
  holds i hi := by rw [grp_congr hgroups i]; exact h.holds i hi

theorem HoldFollows.congr (h : HoldFollows g u) (htrams : t.trams = u.trams) (hgroups : t.groups = u.groups) :
    HoldFollows g t := by
  intro hnone
  rw [grp_congr hgroups]
  exact h fun j p hj => hnone j p ((tram_congr htrams j).trans hj)

/-- TRAMNET's request has been answered: the list, the groups and the statistics are those of `u`, TRAMNET's part of the
link has taken the reply, and the rest is as it was. -/
structure TramAnswered (reply : Reply) (s u t : State) : Prop where
  own : link t .tramnet = repliedLink reply (link s .tramnet)
  others : ∀ p, p ≠ .tramnet → link t p = link s p
  rest : t = { s with trams := u.trams, groups := u.groups, tramStats := u.tramStats, links := t.links }

theorem TramAnswered.trams (h : TramAnswered reply s u t) : t.trams = u.trams := by rw [h.rest]

theorem TramAnswered.groups (h : TramAnswered reply s u t) : t.groups = u.groups := by rw [h.rest]

theorem TramAnswered.tramStats (h : TramAnswered reply s u t) : t.tramStats = u.tramStats := by rw [h.rest]

/-- An owner that writes the list, the groups and the statistics, and sets nothing off, is answered. -/
theorem takeRequest_tramnet (h : Answerable .tramnet params s) (ho : owner (setSeen .tramnet s) = (u, reply))
    (hu : u = { setSeen .tramnet s with trams := u.trams, groups := u.groups, tramStats := u.tramStats }) :
    TramAnswered reply s u (takeRequest .tramnet true params owner s) := by
  have hreplied := takeRequest_replied .tramnet params owner reply s
    { s with trams := u.trams, groups := u.groups, tramStats := u.tramStats } h
    (ho.trans (congrArg (fun v => (v, reply)) hu)) h.work
  refine ⟨hreplied.own, hreplied.others, ?_⟩
  have hrest := hreplied.rest
  rw [hreplied.supervision, if_neg fun hc => nomatch hc.1] at hrest
  exact hrest

end

/-! ### TRAM_CHECK_OUT and TRAM_CANCEL -/

section
variable {n1 n0 : Byte} {a : ApproachId} {k : EntryId} {r : TramRec} {act : EntryId → TramRec → State → State}
  {stats : Vector TramStats 4} {s : State}

theorem approachOfNat_approachByte (a : ApproachId) : approachOfNat (approachByte a).toNat = some a := by
  revert a
  decide

theorem tramParams_eq (hnumber : (word16 n1 n0).toNat ≤ 9999) :
    tramParams [n1, n0, approachByte a] = some (word16 n1 n0, a) := by
  simp only [tramParams, approachOfNat_approachByte, if_pos hnumber]

theorem onTram_of_unlisted (hnumber : (word16 n1 n0).toNat ≤ 9999) (h : Unlisted (word16 n1 n0) a s) :
    onTram act [n1, n0, approachByte a] s = (s, plain .refusedParam) := by
  simp only [onTram, tramParams_eq hnumber, findTram_of_unlisted h]
  rfl

theorem onTram_of_listed (hnumber : (word16 n1 n0).toNat ≤ 9999) (hlaw : TramListLaw s) (hk : tram s k = some r)
    (hn : r.number = word16 n1 n0) (ha : r.approach = a) :
    onTram act [n1, n0, approachByte a] s = (act k r s, plain .done) := by
  simp only [onTram, tramParams_eq hnumber, findTram_of_listed hlaw hk hn ha, hk]

theorem takeRequest_unlisted (h : Answerable .tramnet [n1, n0, approachByte a] s)
    (hnumber : (word16 n1 n0).toNat ≤ 9999) (hnew : Unlisted (word16 n1 n0) a s) :
    Replied .tramnet (plain .refusedParam) s
      (takeRequest .tramnet true [n1, n0, approachByte a] (onTram act [n1, n0, approachByte a]) s) :=
  takeRequest_replied .tramnet _ _ _ s s h (onTram_of_unlisted (s := setSeen .tramnet s) hnumber hnew) h.work

/-- A request that removes a record, with what it has written of the statistics. -/
structure RemovalAnswered (k : EntryId) (r : TramRec) (stats : Vector TramStats 4) (s t : State) : Prop where
  entry : EntryChanged k none [r.group] s t
  kept : r.state ≠ .holding → grp t r.group = grp s r.group
  own : link t .tramnet = repliedLink (plain .done) (link s .tramnet)
  others : ∀ p, p ≠ .tramnet → link t p = link s p
  rest : t = { s with trams := t.trams, groups := t.groups, links := t.links, tramStats := stats }

theorem takeRequest_removed (h : Answerable .tramnet [n1, n0, approachByte a] s)
    (hnumber : (word16 n1 n0).toNat ≤ 9999) (hlaw : TramListLaw s) (hk : tram s k = some r)
    (hn : r.number = word16 n1 n0) (ha : r.approach = a)
    (hact : act k r (setSeen .tramnet s) = removeTram k r { setSeen .tramnet s with tramStats := stats })
    (hcall : r.transition = none) (hterm : (grp s r.group).pendingTerm = none) :
    RemovalAnswered k r stats s
      (takeRequest .tramnet true [n1, n0, approachByte a] (onTram act [n1, n0, approachByte a]) s) := by
  have ho := onTram_of_listed (act := act) (s := setSeen .tramnet s) hnumber hlaw hk hn ha
  rw [hact] at ho
  have hremoved := removed_removeTram k (s := { setSeen .tramnet s with tramStats := stats }) hcall hterm
  generalize removeTram k r { setSeen .tramnet s with tramStats := stats } = u at ho hremoved
  have hrest := hremoved.rest
  have hstats : u.tramStats = stats := by rw [hrest]
  have hanswered := takeRequest_tramnet h ho (by rw [hstats]; exact hrest)
  exact
    { entry := (hremoved.entry.congr hanswered.trams hanswered.groups).of_eq rfl rfl
      kept := fun hholding => (grp_congr hanswered.groups _).trans (hremoved.grp_eq hholding)
      own := hanswered.own
      others := hanswered.others
      rest := by rw [hanswered.trams, hanswered.groups, ← hstats]; exact hanswered.rest }

theorem RemovalAnswered.removed {t : State} (h : RemovalAnswered k r stats s t) :
    tram t k = none ∧ (∀ j, j ≠ k → tram t j = tram s j) ∧
      link t .tramnet = repliedLink (plain .done) (link s .tramnet) ∧
      (∀ q, q ≠ .tramnet → link t q = link s q) ∧ (∀ g, g ≠ r.group → grp t g = grp s g) ∧
      grp t r.group = { grp s r.group with holdUntil := (grp t r.group).holdUntil } ∧
      (r.state ≠ .holding → grp t r.group = grp s r.group) :=
  ⟨h.entry.own, h.entry.others, h.own, h.others, fun g hg => h.entry.groups g (by simpa using hg),
    h.entry.holds _ List.mem_cons_self, h.kept⟩

end

/-- Settles O36: the search of the list, and the removal with or without a count for the approach. -/
theorem checkOutAndCancelRemoveTheRecord : Obligations.CheckOutAndCancelRemoveTheRecord := by
  intro n1 n0 a s params h hnumber
  refine ⟨fun hnew => ⟨⟨_, rfl, takeRequest_unlisted h hnumber hnew⟩, ⟨_, rfl, takeRequest_unlisted h hnumber hnew⟩⟩,
    fun k r hlaw hk hn ha hcall hterm => ?_⟩
  subst ha
  have hout := takeRequest_removed (act := checkOut) h hnumber hlaw hk hn rfl rfl hcall hterm
  have hcancel := takeRequest_removed (act := removeTram) h hnumber hlaw hk hn rfl rfl hcall hterm
  have hstats := congrArg State.tramStats hout.rest
  refine ⟨⟨_, rfl, hout.removed, ?_, fun b hb => ?_, ?_⟩, ⟨_, rfl, hcancel.removed, hcancel.rest⟩⟩
  · exact (congrArg (look · r.approach) hstats).trans ((look_put ..).trans (if_pos rfl))
  · exact (congrArg (look · b) hstats).trans ((look_put ..).trans (if_neg (Ne.symm hb)))
  · exact hstats ▸ hout.rest

end Sys2Proof.Machine
end

section
/-! SUPPORT. TRAM_CHECK_IN at the tram priority engine but for its calls: its parameters (R131 to R133, R164), the update
of an OBSERVED record outside NORMAL (R134), and the hold of a green group for a first tram (R135, R137, R138). -/

namespace Sys2Proof.Machine

open Sys2Proof

/-! ### The parameters (R131, R133, R164) -/

section
variable {n1 n0 line d1 d0 speed lateness : Byte} {a : ApproachId} {route : Route} {s : State}

/-- The lateness that a request gives: 255 stands for none (R133). -/
def givenLateness (lateness : Byte) : Option Nat := if lateness = 255#8 then none else some lateness.toNat

theorem requestLateness_eq (h : lateness.toNat < 128 ∨ lateness = 255#8) :
    requestLateness lateness = some (givenLateness lateness) := by
  rcases h with h | rfl
  · have hne : lateness ≠ 255#8 := by
      rintro rfl
      exact absurd h (by decide)
    rw [requestLateness, givenLateness, if_pos h, if_neg hne]
  · rfl

/-- What TRAM_CHECK_IN says (R133). -/
def requestCheckIn (n1 n0 line d1 d0 speed lateness : Byte) (a : ApproachId) (route : Route) : CheckIn where
  number := word16 n1 n0
  approach := a
  line := line
  route := route
  distance := (word16 d1 d0).toNat
  speed := speed.toNat
  lateness := givenLateness lateness
  source := .tramnet

theorem tramCheckInOwner_of_taken {u : State} {result : CheckInResult} (hnumber : (word16 n1 n0).toNat ≤ 9999)
    (hlate : lateness.toNat < 128 ∨ lateness = 255#8)
    (htaken : takeCheckIn (requestCheckIn n1 n0 line d1 d0 speed lateness a route) s = (u, result)) :
    tramCheckInOwner [n1, n0, approachByte a, line, routeByte route, d1, d0, speed, lateness] s =
      (u, plain (checkInReply result)) := by
  have hparams : checkInParams [n1, n0, approachByte a, line, routeByte route, d1, d0, speed, lateness] =
      some (requestCheckIn n1 n0 line d1 d0 speed lateness a route) := by
    simp only [checkInParams, approachOfNat_approachByte, routeOfCode_routeByte, requestLateness_eq hlate,
      if_pos hnumber]
    rfl
  simp only [tramCheckInOwner, hparams, htaken]

theorem tramLevel_givenLateness (img : Image) (line lateness : Byte) :
    tramLevel img line (givenLateness lateness) =
      if lateness ≠ 255#8 ∧ baseLevelIn img line ≠ 0 ∧ figure img .lateThreshold ≤ lateness.toNat then
        min 2 (baseLevelIn img line + 1)
      else baseLevelIn img line := by
  by_cases hgiven : lateness = 255#8
  · rw [givenLateness, if_pos hgiven, if_neg fun h => h.1 hgiven]
    rfl
  · rw [givenLateness, if_neg hgiven]
    simp only [tramLevel, ne_eq, hgiven, not_false_eq_true, true_and]

end

/-! ### An update outside NORMAL (R134) -/

section
variable {c : CheckIn} {k : EntryId} {r : TramRec} {q : Option TramRec} {g : GroupId} {gs : List GroupId}
  {s t u : State}

/-- A change of another entry's record, or of one that was not on the group, leaves the group to follow its holds. -/
theorem HoldFollows.of_other (h : HoldFollows g u) (hentry : EntryChanged k q gs u t) (hgs : g ∉ gs)
    (hother : ∀ p, tram u k = some p → p.group ≠ g) : HoldFollows g t := by
  intro hnone
  rw [hentry.groups g hgs]
  refine h fun j p hj hg => ?_
  have hjk : j ≠ k := by
    rintro rfl
    exact hother p hj hg
  exact hnone j p ((hentry.others j hjk).trans hj) hg

/-- The record with what a check-in gives it (R134). -/
def checkedIn (s : State) (c : CheckIn) (r : TramRec) : TramRec :=
  { r with
    line := c.line, route := c.route, source := c.source, checkInAt := s.now, lateness := c.lateness,
    level := tramLevel (cfg s) c.line c.lateness, arrival := predictedArrival s c.distance c.speed }

/-- The record that has moved to another group, before its evaluation (R134). -/
def moved (g : GroupId) (r : TramRec) : TramRec :=
  { r with group := g, holdEnd := none, calls := 0, capped := false, state := .observed, awaitsSlot := false }

/-- A check-in on the group of a record that neither calls nor holds (R134). -/
theorem updateTram_same (hcall : r.transition = none) (hidle : r.state = .observed) :
    updateTram k r c r.group s = evaluate k false (modTram k (checkedIn s c) s) := by
  simp only [updateTram, if_true, hcall, hidle]
  rfl

theorem updateTram_other (hg : g ≠ r.group) (hcall : r.transition = none) :
    updateTram k r c g s =
      evaluate k false (recomputeHold r.group (modTram k (moved g) (modTram k (checkedIn s c) s))) := by
  simp only [updateTram, if_neg hg, changeGroup, cancelCall, hcall]
  rfl

theorem takeCheckIn_of_listed (hroute : routeGroupIn (cfg s) c.approach c.route = some g) (hlaw : TramListLaw s)
    (hk : tram s k = some r) (hn : r.number = c.number) (ha : r.approach = c.approach) :
    takeCheckIn c s = (updateTram k r c g s, .taken) := by
  simp only [takeCheckIn, hroute, findTram_of_listed hlaw hk hn ha, hk]

/-- The evaluation of a record outside NORMAL, after other changes of its entry (R135). -/
theorem EntryWritten.evaluate (h : EntryWritten k (some r) gs s u) (hmode : s.mode ≠ .normal)
    (hcall : r.transition = none) (hterm : (grp s r.group).pendingTerm = none) :
    EntryWritten k (some { r with state := .observed, holdEnd := none, awaitsSlot := false }) (r.group :: gs) s
        (Machine.evaluate k false u) ∧
      HoldFollows r.group (Machine.evaluate k false u) := by
  have humode : u.mode ≠ .normal := by
    rw [h.rest]
    exact hmode
  have hset := h.modTram fun r => { r with state := .observed, holdEnd := none, awaitsSlot := false }
  rw [evaluate_of_mustObserve h.entry.own hcall (mustObserve_of_mode r humode) false]
  exact ⟨hset.recomputeHold hterm, holdFollows_recomputeHold (hset.pendingTerm hterm)⟩

/-- The OBSERVED record after a check-in outside NORMAL (R134). -/
def updatedRecord (s : State) (c : CheckIn) (g : GroupId) (r : TramRec) : TramRec :=
  { checkedIn s c r with
    group := g, holdEnd := none, capped := if g = r.group then r.capped else false,
    calls := if g = r.group then r.calls else 0, awaitsSlot := false }

theorem EntryWritten.mono {gs' : List GroupId} (h : EntryWritten k q gs s t) (hgs : gs ⊆ gs') :
    EntryWritten k q gs' s t where
  entry :=
    ⟨h.entry.own, h.entry.others, fun i hi => h.entry.groups i fun hmem => hi (hgs hmem), fun i _ => h.entry.grp_eq i⟩
  rest := h.rest

/-- Outside NORMAL a check-in updates an OBSERVED record, on its group or on another (R134). -/
theorem entryWritten_updateTram (hk : tram s k = some r) (hmode : s.mode ≠ .normal) (hobserved : r.state = .observed)
    (hcall : r.transition = none) (hterm : (grp s g).pendingTerm = none) (hold : (grp s r.group).pendingTerm = none) :
    EntryWritten k (some (updatedRecord s c g r)) [g, r.group] s (updateTram k r c g s) ∧
      HoldFollows g (updateTram k r c g s) ∧ HoldFollows r.group (updateTram k r c g s) := by
  have hwritten := (entryWritten_refl hk).modTram (checkedIn s c)
  by_cases hg : g = r.group
  · subst hg
    obtain ⟨hevaluated, hhold⟩ := hwritten.evaluate hmode hcall hterm
    have hrecord : updatedRecord s c r.group r =
        { checkedIn s c r with state := .observed, holdEnd := none, awaitsSlot := false } := by
      simp [updatedRecord, checkedIn, hobserved]
    rw [updateTram_same hcall hobserved, hrecord]
    exact ⟨hevaluated.mono (List.subset_cons_self _ _), hhold, hhold⟩
  · have hmoved := hwritten.modTram (moved g)
    have hleft := hmoved.recomputeHold hold
    obtain ⟨hevaluated, hhold⟩ := hleft.evaluate hmode hcall hterm
    have hfollows := holdFollows_recomputeHold (hmoved.pendingTerm hold)
    have hrecord : updatedRecord s c g r =
        { moved g (checkedIn s c r) with state := .observed, holdEnd := none, awaitsSlot := false } := by
      simp [updatedRecord, checkedIn, moved, hobserved, hg]
    have hlast := (entryWritten_refl hleft.entry.own).evaluate (by rw [hleft.rest]; exact hmode) hcall
      (hleft.pendingTerm hterm)
    rw [updateTram_other hg hcall, hrecord]
    refine ⟨hevaluated, hhold, hfollows.of_other hlast.1.entry (by simpa [moved] using Ne.symm hg) fun p hp => ?_⟩
    obtain rfl := Option.some.inj (hleft.entry.own.symm.trans hp)
    exact hg

end

/-! ### The first tram of the list on a green group (R135, R137, R138) -/

section
variable {c : CheckIn} {k : EntryId} {r : TramRec} {g : GroupId} {h green : Time} {capped : Bool} {s : State}

theorem takeCheckIn_of_empty (hroute : routeGroupIn (cfg s) c.approach c.route = some g)
    (hempty : ∀ k, tram s k = none) :
    takeCheckIn c s = (evaluate 0 false (putTram 0 (some (newTram s c g)) s), .taken) := by
  have hnew : Unlisted c.number c.approach s := fun k r hr => by simp [hempty k] at hr
  have hfree : LowestEmpty 0 s := ⟨hempty 0, fun j hj => absurd hj (Fin.not_lt_zero j)⟩
  simp only [takeCheckIn, hroute, findTram_of_unlisted hnew, freeEntry_of_lowest hfree, putTram]

/-- A level, no inhibit and NORMAL take a record past row 1 of R135. -/
theorem mustObserve_eq_false (hmode : s.mode = .normal) (hlevel : r.level ≠ 0)
    (hinh : (grp s r.group).inhibited = false) (hpinh : (grp s r.group).priorityInhibited = false) :
    mustObserve s r = false := by
  simp [mustObserve, hmode, hlevel, hinh, hpinh]

theorem evaluate_of_green (hk : tram s k = some r) (hmust : mustObserve s r = false) (hgreen : isGreen s r.group = true)
    (hobserved : r.state = .observed) : evaluate k false s = recomputeHold r.group (computeHold k r s) := by
  simp only [evaluate, hk, hmust, Bool.false_eq_true, if_false, hgreen, if_true, hobserved]

/-- The hold end on a green group: arrival and hold margin, capped by green start and maximum hold (R137). -/
theorem holdEndOf_eq (hstart : (grp s r.group).greenStart = some green) :
    holdEndOf s r =
      (if after (plusDs r.arrival (figure (cfg s) .holdMargin)) (plusDs green (maxHoldIn (cfg s) r.group)) then
          plusDs green (maxHoldIn (cfg s) r.group)
        else plusDs r.arrival (figure (cfg s) .holdMargin),
        after (plusDs r.arrival (figure (cfg s) .holdMargin)) (plusDs green (maxHoldIn (cfg s) r.group))) := by
  simp only [holdEndOf, holdCap, hstart, Option.map_some]
  split
  · next hafter => rw [hafter]
  · next hafter => rw [Bool.eq_false_iff.2 hafter]

/-- The record that has taken a hold end (R137). -/
def withHold (now h : Time) (capped : Bool) (r : TramRec) : TramRec :=
  { r with
    holdEnd := some h, capped := capped, state := if after h now then .holding else .overdue, awaitsSlot := false }

/-- A count of the statistics changes nothing else, made or not. -/
theorem ite_modStats_frame (p : Prop) [Decidable p] (a : ApproachId) (f : TramStats → TramStats) (s : State) :
    ∃ stats, (if p then modStats a f s else s) = { s with tramStats := stats } := by
  split
  · exact ⟨_, rfl⟩
  · exact ⟨_, rfl⟩

/-- A computed hold is written into the record, and counted (R137). -/
theorem computeHold_eq (hend : holdEndOf s r = (h, capped)) :
    ∃ stats, computeHold k r s = { modTram k (withHold s.now h capped) s with tramStats := stats } := by
  obtain ⟨held, htake⟩ : ∃ held, takeHold k r h capped s =
      { modTram k (withHold s.now h capped) s with tramStats := held } := ite_modStats_frame _ _ _ _
  rw [computeHold, hend]
  dsimp only
  rw [htake]
  exact ite_modStats_frame _ _ _ _

/-- The hold end of an entry's record, when it holds a group (R138). -/
def holdOn (s : State) (g : GroupId) (k : EntryId) : Option Time :=
  (tram s k).bind fun q => if q.group = g ∧ q.state = .holding then q.holdEnd else none

/-- The later of the hold ends so far and one more (R138). -/
def laterHold (acc : Option Time) (h : Time) : Option Time := some (acc.elim h (later · h))

theorem latestHold_eq (s : State) (g : GroupId) :
    latestHold s g = (allEntries.filterMap (holdOn s g)).foldl laterHold none := by
  have hholds : (fun k : EntryId =>
      match tram s k with
      | some r => if r.group = g ∧ r.state = .holding then r.holdEnd else none
      | none => none) = holdOn s g := by
    funext k
    cases hk : tram s k <;> simp [holdOn, hk]
  have hlater : (fun (acc : Option Time) h =>
      match acc with
      | none => some h
      | some a => some (later a h)) = laterHold := by
    funext acc h
    cases acc <;> rfl
  rw [← hholds, ← hlater]
  rfl

/-- The only record of the list, in the first entry, gives the latest hold end of its group (R138). -/
theorem latestHold_of_first (hk : tram s 0 = some r) (hothers : ∀ k, k ≠ 0 → tram s k = none) :
    latestHold s r.group = if r.state = .holding then r.holdEnd else none := by
  have hrest : ((List.finRange 7).map Fin.succ).filterMap (holdOn s r.group) = [] := by
    refine List.filterMap_eq_nil_iff.2 fun k hk => ?_
    obtain ⟨j, -, rfl⟩ := List.mem_map.1 hk
    rw [holdOn, hothers _ (Fin.succ_ne_zero j)]
    rfl
  have hfirst : holdOn s r.group 0 = if r.state = .holding then r.holdEnd else none := by
    simp only [holdOn, hk, Option.bind_some, true_and]
  have hentries : allEntries.filterMap (holdOn s r.group) =
      (if r.state = .holding then r.holdEnd else none).toList := by
    rw [allEntries, List.finRange_succ, List.filterMap_cons, hrest, hfirst]
    cases (if r.state = .holding then r.holdEnd else none) with
    | none => rfl
    | some v => rfl
  rw [latestHold_eq, hentries]
  cases (if r.state = .holding then r.holdEnd else none) with
  | none => rfl
  | some v => rfl

/-- With no terminate to let through, a hold-until on a green group is written (R16, R138). -/
theorem setHoldUntil_of_green (hgreen : isGreen s g = true) (hterm : (grp s g).pendingTerm = none) (v : Option Time) :
    setHoldUntil g v s = modGroup g (fun r => { r with holdUntil := v }) s := by
  rw [setHoldUntil, if_pos (by rw [hgreen]; rfl), takeTerminate_of_none]
  simp [hterm]

/-- The junction with a first tram in the list that holds its green group, or is late for it (R137). -/
structure FirstHeld (g : GroupId) (h : Time) (m : TramRec) (s u : State) : Prop where
  own : tram u 0 = some m
  others : ∀ k, k ≠ 0 → tram u k = none
  group : grp u g = { grp s g with holdUntil := if after h s.now then some h else none }
  groups : ∀ i, i ≠ g → grp u i = grp s i
  rest : u = { s with trams := u.trams, groups := u.groups, tramStats := u.tramStats }

/-- A first tram on a green group is held until its hold end, when that is still to come (R135, R137, R138). -/
theorem firstHeld_evaluate (hempty : ∀ k, tram s k = none) (hobserved : r.state = .observed)
    (hmust : mustObserve s r = false) (hgreen : isGreen s r.group = true) (hterm : (grp s r.group).pendingTerm = none)
    (hend : holdEndOf s r = (h, capped)) :
    FirstHeld r.group h (withHold s.now h capped r) s (evaluate 0 false (putTram 0 (some r) s)) := by
  have hput : tram (putTram 0 (some r) s) 0 = some r := by rw [tram_putTram, if_pos rfl]
  obtain ⟨stats, hcompute⟩ := computeHold_eq (k := 0) (s := putTram 0 (some r) s) (r := r) hend
  have hown : tram (computeHold 0 r (putTram 0 (some r) s)) 0 = some (withHold s.now h capped r) := by
    rw [hcompute]
    show tram (modTram 0 (withHold s.now h capped) (putTram 0 (some r) s)) 0 = _
    rw [tram_modTram, if_pos rfl, hput]
    rfl
  have hothers : ∀ k, k ≠ 0 → tram (computeHold 0 r (putTram 0 (some r) s)) k = none := fun k hk => by
    rw [hcompute]
    show tram (modTram 0 (withHold s.now h capped) (putTram 0 (some r) s)) k = _
    rw [tram_modTram, if_neg (Ne.symm hk), tram_putTram, if_neg (Ne.symm hk), hempty k]
  have hlatest : latestHold (computeHold 0 r (putTram 0 (some r) s)) r.group =
      if after h s.now then some h else none := by
    refine (latestHold_of_first hown hothers).trans ?_
    cases hafter : after h s.now <;> simp [withHold, hafter]
  rw [evaluate_of_green (s := putTram 0 (some r) s) hput hmust hgreen hobserved, recomputeHold, hlatest,
    setHoldUntil_of_green (by rw [hcompute]; exact hgreen) (by rw [hcompute]; exact hterm)]
  refine ⟨hown, hothers, ?_, fun i hi => ?_, ?_⟩
  · rw [grp_modGroup, if_pos rfl, hcompute]
    rfl
  · rw [grp_modGroup, if_neg (Ne.symm hi), hcompute]
    rfl
  · rw [hcompute]
    rfl

end

end Sys2Proof.Machine
end

section
/-! SUPPORT. The call of a first tram in a junction at rest (R136): what the activation of its record and the entries that
its terminates set off leave alone, up to the end of the request. -/

namespace Sys2Proof.Machine

open Sys2Proof

/-! ### Settling hand-offs of one kind -/

/-- What every hand-off of a kind keeps, settling keeps, when the property lets only hand-offs of that kind be set off. -/
theorem settle_keeps_kind {P : State → Prop} {A : Handoff → Prop}
    (hw : ∀ s w, (∀ x ∈ w, A x) → P s → P { s with work := w }) (hA : ∀ s, P s → ∀ x ∈ s.work, A x)
    (hh : ∀ x s, A x → P s → P (handle x s)) (n : Nat) : ∀ s, P s → P (settle n s) := by
  induction n with
  | zero => exact fun s hs => hs
  | succ n ih =>
    intro s hs
    cases hwork : s.work with
    | nil => rwa [settle_of_no_work _ s hwork]
    | cons x rest =>
      have hall : ∀ y ∈ x :: rest, A y := hwork ▸ hA s hs
      have hhandled := hh x _ (hall x List.mem_cons_self) (hw s [] (fun _ hy => nomatch hy) hs)
      rw [settle_cons n s x rest hwork]
      refine ih _ (hw _ _ (fun y hy => ?_) hhandled)
      rcases List.mem_append.1 hy with hy | hy
      · exact hA _ hhandled y hy
      · exact hall y (List.mem_cons_of_mem x hy)

/-! ### Claims (R6) -/

theorem claim_enterState (j i : GroupId) (st : GState) (s : State) :
    (grp (enterState j st s) i).claim = (grp s i).claim := by
  rw [grp_enterState]
  split
  · next hi => rw [enteredRecord_claim, hi]
  · rfl

theorem claim_modGroup (j i : GroupId) {f : GroupRec → GroupRec} (hf : ∀ q, (f q).claim = q.claim) (s : State) :
    (grp (modGroup j f s) i).claim = (grp s i).claim := by
  rw [grp_modGroup]
  split
  · next hi => rw [hf, hi]
  · rfl

theorem claim_takePlaced (id : TransId) (i : GroupId) (s : State) :
    (grp (takePlaced id s) i).claim = (grp s i).claim := by
  refine forEach_frame (fun t => (grp t i).claim) _ _ (fun j _ t => ?_) s
  split
  · unfold takeTerminate
    split
    · rw [enterClear, claim_enterState, claim_modGroup]
      exact fun _ => rfl
    · rfl
  · rfl

theorem claim_examined (i : GroupId) (s : State) :
    (grp { s with groups := tabulate (examinedRecord s) } i).claim = (grp s i).claim := by
  show (look (tabulate (examinedRecord s)) i).claim = _
  rw [look_tabulate, examinedRecord]
  split <;> rfl

/-! ### While a call is settled -/

/-- The hand-offs that a call sets off: the examination of activation, and what entries to RED_WAIT and CLEAR hand on. -/
def FollowsCall : Handoff → Prop
  | .arbiterExamine => True
  | .arbiterEntry _ st => st ≠ .greenMin
  | .tramEntry _ st => st = .clear
  | .configExamine => True
  | .clearDemand _ => True
  | _ => False

/-- A junction in NORMAL, all its trams CALLING, in which a call is being settled: its ACTIVE record `r` in slot k, the
only live one, waits for group g, and the list, the statistics and TRAMNET's part of the link are those of `u`. -/
structure Called (k : SlotId) (r : TransRec) (g : GroupId) (u s : State) : Prop where
  record : ∃ q, slot s k = some q ∧ SameRecord r q ∧ q.tram = r.tram ∧ q.state = .active ∧
    itemOf q g = some { kind := .release, outcome := .waiting }
  others : ∀ j q, j ≠ k → slot s j = some q → isLive q = false
  resting : isGreen s g = false
  lost : ∀ i, (grp s i).redLost = false
  mode : s.mode = .normal
  commit : s.commit ≠ .waitingApply
  calling : ∀ e m, tram s e = some m → m.state = .calling
  trams : s.trams = u.trams
  stats : s.tramStats = u.tramStats
  link : link s .tramnet = link u .tramnet
  work : ∀ x ∈ s.work, FollowsCall x

namespace Called

variable {k : SlotId} {r : TransRec} {g : GroupId} {u s t : State}

/-! ### Signal group table -/

/-- The rest of the state stands under writes of groups, lamps and hand-offs. -/
theorem of_groups (h : Called k r g u s)
    (hrest : t = { s with groups := t.groups, lamps := t.lamps, work := t.work, order := t.order })
    (hresting : isGreen t g = false) (hlost : ∀ i, (grp t i).redLost = (grp s i).redLost)
    (hwork : ∀ x ∈ t.work, FollowsCall x) : Called k r g u t := by
  have hlost' : ∀ i, (grp t i).redLost = false := fun i => (hlost i).trans (h.lost i)
  obtain ⟨groups, lamps, work, order, rfl⟩ : ∃ groups lamps work order,
      t = { s with groups := groups, lamps := lamps, work := work, order := order } := ⟨_, _, _, _, hrest⟩
  exact { h with resting := hresting, lost := hlost', work := hwork }

theorem withWork (h : Called k r g u s) (w : List Handoff) (hw : ∀ x ∈ w, FollowsCall x) :
    Called k r g u { s with work := w } := h.of_groups rfl h.resting (fun _ => rfl) hw

/-- A group record changes, but for its state and its RED_LOST flag. -/
theorem modGroup (h : Called k r g u s) (j : GroupId) (f : GroupRec → GroupRec)
    (hf : ∀ q, (f q).state = q.state ∧ (f q).redLost = q.redLost) : Called k r g u (Machine.modGroup j f s) := by
  have hgrp : ∀ i, (grp (Machine.modGroup j f s) i).state = (grp s i).state ∧
      (grp (Machine.modGroup j f s) i).redLost = (grp s i).redLost := fun i => by
    rw [grp_modGroup]
    split
    · next hi => exact hi ▸ hf _
    · exact ⟨rfl, rfl⟩
  refine h.of_groups rfl ?_ (fun i => (hgrp i).2) h.work
  rw [isGreen, (hgrp g).1]
  exact h.resting

/-- A group enters RED_WAIT or CLEAR (R9). -/
theorem enterState (h : Called k r g u s) (j : GroupId) {st : GState} (hst : st = .redWait ∨ st = .clear) :
    Called k r g u (Machine.enterState j st s) := by
  refine h.of_groups (enterState_frame j st s) ?_ (fun i => ?_) fun x hx => ?_
  · rw [isGreen, grp_enterState]
    split
    · rcases hst with rfl | rfl <;> simp
    · exact h.resting
  · rw [grp_enterState]
    split
    · next hi => rw [enteredRecord_redLost, hi]
    · rfl
  · by_cases hin : (grp s j).state = st
    · rw [Machine.enterState, if_pos hin] at hx
      exact h.work x hx
    · rw [enterState_work j st s hin] at hx
      rcases List.mem_append.1 hx with hx | hx
      · exact h.work x hx
      · rcases mem_entryHandoffs hx with rfl | ⟨rfl, hentry⟩ | ⟨_, hc⟩ | ⟨_, hm, _⟩ | ⟨rfl, _⟩
        · rcases hst with rfl | rfl <;> exact GState.noConfusion
        · rcases hst with rfl | rfl
          · simp at hentry
          · rfl
        · exact absurd hc h.commit
        · rw [h.mode] at hm
          cases hm
        · trivial

theorem takeTerminate (h : Called k r g u s) (j : GroupId) : Called k r g u (Machine.takeTerminate j s) := by
  unfold Machine.takeTerminate
  split
  · refine enterState (s := Machine.modGroup j _ s) ?_ j (.inr rfl)
    exact h.modGroup j _ fun _ => ⟨rfl, rfl⟩
  · exact h

/-! ### The record (R45, R47, R51) -/

/-- An item of the record on another group takes an outcome. -/
theorem setOutcome (h : Called k r g u s) {j : GroupId} (hj : j ≠ g) (o : ItemOutcome) :
    Called k r g u (modSlot k (Machine.setOutcome j o) s) where
  record := by
    obtain ⟨q, hq, hsame, hcall, hactive, hitem⟩ := h.record
    refine ⟨Machine.setOutcome j o q, by rw [slot_modSlot, if_pos rfl, hq]; rfl, ?_, hcall, hactive, ?_⟩
    · exact hsame.trans ⟨rfl, rfl, rfl, rfl, fun kd i => inSet_setOutcome j i o q kd⟩
    · rw [itemOf_setOutcome, if_neg hj]
      exact hitem
  others i q hi hq := h.others i q hi (by rwa [slot_modSlot, if_neg (Ne.symm hi)] at hq)
  resting := h.resting
  lost := h.lost
  mode := h.mode
  commit := h.commit
  calling := h.calling
  trams := h.trams
  stats := h.stats
  link := h.link
  work := h.work

/-- The record waits for its group, so it is not complete. -/
theorem completeIfDone (h : Called k r g u s) : Machine.completeIfDone k s = s := by
  obtain ⟨q, hq, _, _, _, hitem⟩ := h.record
  exact completeIfDone_of_waiting hq ((hasWaiting_iff q).2 ⟨g, _, hitem, rfl⟩)

/-- One item is settled (R45): the record's group waits, for it is not green. -/
theorem settleItem (h : Called k r g u s) (j : GroupId) : Called k r g u (Machine.settleItem k j s) := by
  obtain ⟨q, hq, _, _, _, hwaits⟩ := h.record
  simp only [Machine.settleItem, hq]
  split
  · exact h
  · next it hit =>
    have hclaimed := h.modGroup j (fun p => { p with claim := some { id := q.id, kind := it.kind } })
      fun _ => ⟨rfl, rfl⟩
    split
    · next hkind =>
      have hj : j ≠ g := by
        rintro rfl
        rw [hwaits] at hit
        cases hit
        cases hkind
      split
      · exact hclaimed.modGroup j _ fun _ => ⟨rfl, rfl⟩
      · exact hclaimed.setOutcome hj _
    · split
      · next hgreen =>
        refine hclaimed.setOutcome (fun hj => ?_) _
        rw [hj, h.resting] at hgreen
        cases hgreen
      · split
        · exact hclaimed.enterState j (.inl rfl)
        · exact hclaimed

theorem claim_settleItem (h : Called k r g u s) :
    (grp (Machine.settleItem k g s) g).claim = some { id := r.id, kind := .release } := by
  obtain ⟨q, hq, hsame, _, _, hwaits⟩ := h.record
  simp only [Machine.settleItem, hq, hwaits, h.resting, Bool.false_eq_true, if_false]
  split
  · rw [grp_enterState, if_pos rfl, enteredRecord_claim, grp_modGroup, if_pos rfl, hsame.id]
  · rw [grp_modGroup, if_pos rfl, hsame.id]

/-- No red is lost, so nothing is dropped from the record (R50). -/
theorem dropLostReleases (h : Called k r g u s) : Machine.dropLostReleases k s = s :=
  forEach_id _ _ _ fun j _ => if_neg (by simp [lostNear, h.lost])

theorem takePlaced (h : Called k r g u s) (id : TransId) : Called k r g u (Machine.takePlaced id s) := by
  refine forEach_keeps (Called k r g u) _ _ (fun j _ t ht => ?_) s h
  split
  · exact ht.takeTerminate j
  · exact ht

/-- With no record QUEUED the arbiter writes S and T alone (R48). -/
theorem examineArbiter (h : Called k r g u s) :
    Machine.examineArbiter s = { s with groups := tabulate (examinedRecord s) } := by
  refine examineArbiter_of_no_queued s (fun j q hq => ?_) h.mode
  by_cases hj : j = k
  · obtain ⟨p, hp, _, _, hactive, _⟩ := h.record
    obtain rfl := Option.some.inj (hp.symm.trans (hj ▸ hq))
    rw [hactive]
    exact TState.noConfusion
  · intro hqueued
    have := h.others j q hj hq
    simp [isLive, hqueued] at this

/-! ### What the call sets off -/

/-- The junction of a call whose record claims its group. -/
def Claiming (k : SlotId) (r : TransRec) (g : GroupId) (u s : State) : Prop :=
  Called k r g u s ∧ (grp s g).claim = some { id := r.id, kind := .release }

theorem examined (h : Called k r g u s) : Called k r g u { s with groups := tabulate (examinedRecord s) } := by
  have hgrp : ∀ i, (grp { s with groups := tabulate (examinedRecord s) } i).state = (grp s i).state ∧
      (grp { s with groups := tabulate (examinedRecord s) } i).redLost = (grp s i).redLost := fun i => by
    show (look (tabulate (examinedRecord s)) i).state = _ ∧ (look (tabulate (examinedRecord s)) i).redLost = _
    rw [look_tabulate, examinedRecord]
    split <;> exact ⟨rfl, rfl⟩
  refine h.of_groups rfl ?_ (fun i => (hgrp i).2) h.work
  rw [isGreen, (hgrp g).1]
  exact h.resting

/-- A terminate item that a CLEAR entry has reached is not that of the record's own group (R34, R47). -/
theorem markReached (h : Called k r g u s) (j : GroupId) :
    Called k r g u (Machine.markReached j .terminate s) ∧
      (Machine.markReached j .terminate s).groups = s.groups := by
  unfold Machine.markReached
  split
  · exact ⟨h, rfl⟩
  · split
    · split
      · exact ⟨h, rfl⟩
      · next i hi =>
        dsimp only
        split
        · next hwaiting =>
          obtain ⟨q, hq, hreached⟩ := (Option.any_eq_true _ _).1 hwaiting
          have hlive : isLive q = true := by
            have hactive := List.find?_some (show allSlots.find? _ = some i from hi)
            simp only [hq, Option.any_some, Bool.and_eq_true, beq_iff_eq] at hactive
            exact isLive_of_active hactive.1
          obtain rfl : i = k := by
            by_contra hne
            rw [h.others i q hne hq] at hlive
            cases hlive
          have hj : j ≠ g := by
            rintro rfl
            obtain ⟨p, hp, _, _, _, hitem⟩ := h.record
            obtain rfl := Option.some.inj (hq.symm.trans hp)
            rw [hitem] at hreached
            cases hreached
          have hset := h.setOutcome hj .reached
          rw [hset.completeIfDone]
          exact ⟨hset, rfl⟩
        · exact ⟨h, rfl⟩
    · exact ⟨h, rfl⟩

/-- A CLEAR entry finds no tram with a hold to end (R140). -/
theorem tramEntry (h : Called k r g u s) (j : GroupId) : Machine.tramEntry j .clear s = s := by
  have hdrop : forEach allEntries (dropHold j) s = s := forEach_id _ _ _ fun e _ => by
    cases he : tram s e with
    | none => simp [dropHold, he]
    | some m => simp [dropHold, he, h.calling e m he]
  have hnone : (allEntries.filter fun e => (tram s e).any (heldOn j)) = [] := by
    refine List.filter_eq_nil_iff.2 fun e _ => ?_
    cases he : tram s e with
    | none => simp
    | some m => simp [heldOn, h.calling e m he]
  rw [Machine.tramEntry, hdrop, evaluateWhere, tramOrder, hnone]
  exact congrArg (fun w => ({ s with work := w } : State)) (List.append_nil s.work)

theorem takeClearEntry (h : Called k r g u s) (j : GroupId) :
    Called k r g u (Machine.takeClearEntry j s) ∧
      ∀ i, (grp (Machine.takeClearEntry j s) i).claim = (grp s i).claim := by
  unfold Machine.takeClearEntry
  split
  · split
    · exact ⟨h.modGroup j _ fun _ => ⟨rfl, rfl⟩, fun i => by rw [claim_modGroup]; exact fun _ => rfl⟩
    · exact ⟨h, fun _ => rfl⟩
  · exact ⟨h, fun _ => rfl⟩

theorem claiming_examineArbiter (h : Claiming k r g u s) : Claiming k r g u (Machine.examineArbiter s) := by
  obtain ⟨hcalled, hclaim⟩ := h
  rw [hcalled.examineArbiter]
  exact ⟨hcalled.examined, (claim_examined g s).trans hclaim⟩

/-- What the call sets off keeps its record waiting for the group that it claims. -/
theorem claiming_handle (h : Claiming k r g u s) (x : Handoff) (hx : FollowsCall x) :
    Claiming k r g u (Machine.handle x s) := by
  obtain ⟨hcalled, hclaim⟩ := h
  cases x with
  | arbiterEntry j st =>
    cases st with
    | clear =>
      obtain ⟨hmarked, hgroups⟩ := hcalled.markReached j
      exact claiming_examineArbiter ⟨hmarked, by rw [grp_congr hgroups]; exact hclaim⟩
    | greenMin => exact absurd rfl hx
    | _ => exact claiming_examineArbiter ⟨hcalled, hclaim⟩
  | tramEntry j st =>
    obtain rfl : st = .clear := hx
    show Claiming k r g u (Machine.tramEntry j .clear s)
    rw [hcalled.tramEntry j]
    exact ⟨hcalled, hclaim⟩
  | configExamine =>
    show Claiming k r g u (examineCommit s)
    rw [examineCommit, if_neg fun hc => hcalled.commit hc.1]
    exact ⟨hcalled, hclaim⟩
  | clearDemand j =>
    obtain ⟨hcleared, hsame⟩ := hcalled.takeClearEntry j
    exact ⟨hcleared, (hsame g).trans hclaim⟩
  | arbiterExamine => exact claiming_examineArbiter ⟨hcalled, hclaim⟩
  | _ => exact hx.elim

theorem claiming_settle (h : Claiming k r g u s) (n : Nat) : Claiming k r g u (Machine.settle n s) :=
  settle_keeps_kind (P := Claiming k r g u) (A := FollowsCall) (fun _ w hw h => ⟨h.1.withWork w hw, h.2⟩)
    (fun _ h => h.1.work) (fun x _ hx h => claiming_handle h x hx) n s h

end Called

/-! ### The activation of a call (R44, R45) -/

/-- A junction in NORMAL at rest whose one live record is a QUEUED call of a group that is not green: nothing is claimed,
no group is in PREPARE, and no red is lost. -/
structure CallQueued (k : SlotId) (r : TransRec) (g : GroupId) (s : State) : Prop where
  slot : Machine.slot s k = some r
  queued : r.state = .queued
  item : itemOf r g = some { kind := .release, outcome := .waiting }
  others : ∀ j q, j ≠ k → Machine.slot s j = some q → isLive q = false
  order : liveInOrder s = [k]
  claims : ∀ i, (grp s i).claim = none
  prepare : ∀ i, (grp s i).state ≠ .prepare
  resting : isGreen s g = false
  lost : ∀ i, (grp s i).redLost = false
  mode : s.mode = .normal
  commit : s.commit ≠ .waitingApply
  calling : ∀ e m, tram s e = some m → m.state = .calling

namespace CallQueued

variable {k : SlotId} {r : TransRec} {g : GroupId} {s : State}

/-- The call passes the conditions of R44. -/
theorem mayActivate (h : CallQueued k r g s) : Machine.mayActivate s [] r = true := by
  have hlive : ∀ q ∈ liveRecs s, q.state ≠ .active := by
    intro q hq
    obtain ⟨j, hj, hl⟩ := mem_liveRecs.1 hq
    by_cases hjk : j = k
    · obtain rfl := Option.some.inj (h.slot.symm.trans (hjk ▸ hj))
      rw [h.queued]
      exact TState.noConfusion
    · rw [h.others j q hjk hj] at hl
      cases hl
  simp only [Machine.mayActivate, Bool.and_eq_true, List.all_eq_true, Bool.or_eq_true, bne_iff_ne,
    Option.isNone_iff_eq_none]
  exact ⟨⟨⟨fun i _ => .inr (h.claims i), fun q hq => .inl (hlive q hq)⟩, fun q hq => absurd hq List.not_mem_nil⟩,
    fun i _ => .inr (h.prepare i)⟩

/-- The record as it becomes ACTIVE, before its items are settled. -/
theorem called (h : CallQueued k r g s) (hw : s.work = []) : Called k r g s (modSlot k activated s) where
  record := ⟨activated r, by rw [slot_modSlot, if_pos rfl, h.slot]; rfl, ⟨rfl, rfl, rfl, rfl, fun _ _ => rfl⟩, rfl, rfl,
    h.item⟩
  others j q hj hq := h.others j q hj (by rwa [slot_modSlot, if_neg (Ne.symm hj)] at hq)
  resting := h.resting
  lost := h.lost
  mode := h.mode
  commit := h.commit
  calling := h.calling
  trams := rfl
  stats := rfl
  link := rfl
  work x hx := by
    rw [show (modSlot k activated s).work = [] from hw] at hx
    cases hx

/-- The activation of the call: its record claims its group and waits for it (R45). -/
theorem activate (h : CallQueued k r g s) (hw : s.work = []) : Called.Claiming k r g s (Machine.activate k s) := by
  have hstart := h.called hw
  have hsettled := forEach_keeps (Called k r g s) allGroups (settleItem k) (fun j _ _ ht => ht.settleItem j) _ hstart
  obtain ⟨v, hv, -, hown⟩ := grp_forEach_allGroups (I := Called k r g s) (f := settleItem k)
    (fun j _ ht => ht.settleItem j) (fun j i t hj => Safe.settleItem_others k t hj) g _ hstart
  have hplaced := hsettled.takePlaced r.id
  have hactivate : Machine.activate k s =
      takePlaced r.id (forEach allGroups (settleItem k) (modSlot k activated s)) := by
    simp only [Machine.activate, h.slot]
    rw [show (fun q : TransRec => { q with state := TState.active }) = activated from rfl, hsettled.dropLostReleases,
      hplaced.completeIfDone]
  rw [hactivate]
  refine ⟨hplaced, ?_⟩
  rw [claim_takePlaced, hown]
  exact hv.claim_settleItem

/-- The arbiter's examination activates the call (R44, R48). -/
theorem examineArbiter (h : CallQueued k r g s) (hw : s.work = []) :
    Called.Claiming k r g s (Machine.examineArbiter s) := by
  have hqueue : queueOrder s = [k] := by
    rw [queueOrder, h.order]
    rfl
  obtain ⟨hcalled, hclaim⟩ := h.activate hw
  rw [Machine.examineArbiter, if_pos h.mode, hqueue]
  simp only [activationPass, h.slot, if_pos h.queued, h.mayActivate, if_true]
  rw [examineScheduling_eq]
  exact ⟨hcalled.examined, (claim_examined g _).trans hclaim⟩

/-- The call is settled with its record ACTIVE and waiting for the group that it claims. -/
theorem settled (h : CallQueued k r g { s with work := [] }) (hw : s.work = [.arbiterExamine]) :
    Called.Claiming k r g { s with work := [] } (Machine.settled s) := by
  have hfuel : settleFuel = 4095 + 1 := rfl
  have hexamined := h.examineArbiter rfl
  rw [Machine.settled, hfuel, settle_cons 4095 s .arbiterExamine [] hw, List.append_nil]
  exact Called.claiming_settle hexamined 4095

end CallQueued

end Sys2Proof.Machine
end

section
/-! PROOF. TRAM_CHECK_IN (R130 to R139): the refusals, a new and an updated record outside NORMAL, and a first tram in
NORMAL, held on its green group or calling for it. -/

namespace Sys2Proof.Machine

open Sys2Proof

/-! ### The call of a first tram (R136) -/

section
variable {k : EntryId} {slt : SlotId} {r : TramRec} {s u : State}

theorem evaluate_of_call (hk : tram s k = some r) (hmust : mustObserve s r = false) (hgreen : isGreen s r.group = false)
    (hcall : r.transition = none) (hprepare : (grp s r.group).state ≠ .prepare) (hcalls : r.calls < 2) :
    evaluate k false s = recomputeHold r.group (postCall k r (setTramState k .calling s)) := by
  simp only [evaluate, hk, hmust, hgreen, hcall, Option.isSome_none, Bool.false_eq_true, if_false, if_neg hprepare,
    if_pos hcalls]

/-- The TRAM record of a call (R34, R39, R136). -/
def callRecord (r : TramRec) (s : State) : TransRec :=
  { id := nextId s, cls := .tram, origin := .tram r.number r.approach,
    items := newItems (callTerminates s r.group) [r.group], hadRelease := true,
    tram := some { level := r.level, arrival := r.arrival }, acceptedAt := s.now, state := .queued, finishedAt := none,
    endCause := none }

/-- A call is written into the free slot, its id into the tram's record, and it is counted (R36, R39, R136). -/
theorem postCall_eq (hfree : freeSlot s = some slt) :
    postCall k r s =
      modStats r.approach (fun c => { c with calls := satInc c.calls })
        (modTram k
          (fun q =>
            { q with state := .calling, transition := some (nextId s), calls := q.calls + 1, awaitsSlot := false })
          (writeRecordAt slt .tram (.tram r.number r.approach) (callTerminates s r.group) [r.group]
            (some { level := r.level, arrival := r.arrival }) s)) := by
  simp only [postCall, hfree]

/-- The tram's record once it has called (R136). -/
def called (id : TransId) (r : TramRec) : TramRec :=
  { r with state := .calling, holdEnd := none, transition := some id, calls := r.calls + 1, awaitsSlot := false }

/-- A first tram is in the list and has called: its QUEUED record is in a slot, to be examined (R44, R136). -/
structure FirstCall (slt : SlotId) (r : TramRec) (s u : State) : Prop where
  own : tram u 0 = some (called (nextId s) r)
  others : ∀ k, k ≠ 0 → tram u k = none
  groups : ∀ i, grp u i = { grp s i with holdUntil := (grp u i).holdUntil }
  slots : u.slots = put s.slots slt (some (callRecord r s))
  acceptOrder : u.acceptOrder = s.acceptOrder.filter (· != slt) ++ [slt]
  stats : u.tramStats =
    put s.tramStats r.approach { look s.tramStats r.approach with calls := satInc (look s.tramStats r.approach).calls }
  work : u.work = s.work ++ [.arbiterExamine]
  rest : u =
    { s with
      trams := u.trams, groups := u.groups, slots := u.slots, acceptCounter := u.acceptCounter,
      finishOrder := u.finishOrder, acceptOrder := u.acceptOrder, tramStats := u.tramStats, work := u.work }

theorem firstCall_evaluate (hempty : ∀ k, tram s k = none) (hmust : mustObserve s r = false)
    (hgreen : isGreen s r.group = false) (hcall : r.transition = none) (hprepare : (grp s r.group).state ≠ .prepare)
    (hcalls : r.calls < 2) (hterm : (grp s r.group).pendingTerm = none) (hfree : freeSlot s = some slt) :
    FirstCall slt r s (evaluate 0 false (putTram 0 (some r) s)) := by
  have hput : tram (putTram 0 (some r) s) 0 = some r := by rw [tram_putTram, if_pos rfl]
  rw [evaluate_of_call (s := putTram 0 (some r) s) hput hmust hgreen hcall hprepare hcalls]
  have hpost := postCall_eq (k := 0) (r := r) (s := setTramState 0 .calling (putTram 0 (some r) s)) hfree
  have htram : ∀ i, tram (postCall 0 r (setTramState 0 .calling (putTram 0 (some r) s))) i =
      if 0 = i then some (called (nextId s) r) else none := fun i => by
    rw [hpost]
    show tram (modTram 0 _ (modTram 0 _ (putTram 0 (some r) s))) i = _
    by_cases hi : (0 : EntryId) = i
    · rw [tram_modTram, if_pos hi, tram_modTram, if_pos rfl, hput, if_pos hi]
      rfl
    · rw [tram_modTram, if_neg hi, tram_modTram, if_neg hi, tram_putTram, if_neg hi, if_neg hi, hempty i]
  obtain ⟨v, hv, -⟩ := recomputeHold_eq (g := r.group)
    (s := postCall 0 r (setTramState 0 .calling (putTram 0 (some r) s))) (by rw [hpost]; exact hterm)
  rw [hv]
  refine ⟨(htram 0).trans (if_pos rfl), fun i hi => (htram i).trans (if_neg (Ne.symm hi)), fun i => ?_, ?_, ?_, ?_, ?_,
    ?_⟩
  · have hgrp : grp (postCall 0 r (setTramState 0 .calling (putTram 0 (some r) s))) i = grp s i := by
      rw [hpost]
      rfl
    rw [grp_modGroup]
    split
    · next hi => rw [hi, hgrp]
    · rw [hgrp]
  all_goals
    rw [hpost]
    rfl

theorem mem_callTerminates (hq : Quiet s) (g i : GroupId) :
    i ∈ callTerminates s g ↔ (conflicts s i g && inProceed s i) = true := by
  simp [callTerminates, hq.still.liveRecs]

theorem inProceed_eq (s : State) (g : GroupId) : inProceed s g = (isGreen s g || (grp s g).state == .prepare) := by
  rw [inProceed, isGreen]
  cases (grp s g).state <;> rfl

/-- The sets of a call: its group is released, and what proceeds against it is terminated (R136). -/
theorem inSet_callRecord (hq : Quiet s) (hgreen : isGreen s r.group = false)
    (hprepare : (grp s r.group).state ≠ .prepare) (i : GroupId) :
    inSet .release (callRecord r s) i = decide (i = r.group) ∧
      inSet .terminate (callRecord r s) i = (conflicts s i r.group && inProceed s i) := by
  have hstands : inProceed s r.group = false := by
    rw [inProceed_eq, hgreen, Bool.false_or, beq_eq_false_iff_ne]
    exact hprepare
  have hnodup : (callTerminates s r.group ++ [r.group]).Nodup := by
    refine List.nodup_append.2 ⟨nodup_allGroups.filter _, List.nodup_singleton _, fun i hi j hj hij => ?_⟩
    rw [hij, List.mem_singleton.1 hj, mem_callTerminates hq, hstands, Bool.and_false] at hi
    cases hi
  obtain ⟨hterminate, hrelease⟩ := inSet_newItems hnodup (r := callRecord r s) rfl i
  refine ⟨by simpa using hrelease, ?_⟩
  rw [hterminate, Bool.eq_iff_iff, decide_eq_true_iff]
  exact mem_callTerminates hq r.group i

/-- After the reply the junction has the call as its one live record (R43 to R45). -/
theorem FirstCall.callQueued (h : FirstCall slt r s u) (hq : Quiet s) (hmode : s.mode = .normal)
    (hgreen : isGreen s r.group = false) (hclaims : ∀ i, (grp s i).claim = none)
    (hprepare : ∀ i, (grp s i).state ≠ .prepare) (hlost : ∀ i, (grp s i).redLost = false) (f : LinkRec → LinkRec) :
    CallQueued slt (callRecord r s) r.group { modLink .tramnet f u with work := [] } := by
  have hslot : ∀ j, slot u j = if slt = j then some (callRecord r s) else slot s j := fun j => by
    rw [slot, h.slots, look_put]
    rfl
  have hstate : ∀ i, (grp u i).state = (grp s i).state := fun i => by rw [h.groups i]
  refine
    { slot := (hslot slt).trans (if_pos rfl)
      queued := rfl
      item := by simp [itemOf, callRecord, newItems]
      others := fun j q hj hjq => hq.records j q ((if_neg (Ne.symm hj)).symm.trans ((hslot j).symm.trans hjq))
      order := ?_
      claims := fun i => (congrArg GroupRec.claim (h.groups i)).trans (hclaims i)
      prepare := fun i => (hstate i).trans_ne (hprepare i)
      resting := ?_
      lost := fun i => (congrArg GroupRec.redLost (h.groups i)).trans (hlost i)
      mode := ?_
      commit := ?_
      calling := fun e m hm => ?_ }
  · show u.acceptOrder.filter (fun j => (slot u j).any isLive) = [slt]
    have hold : (s.acceptOrder.filter (· != slt)).filter (fun j => (slot u j).any isLive) = [] := by
      refine List.filter_eq_nil_iff.2 fun j hj => ?_
      have hne : slt ≠ j := fun heq => by simp [heq] at hj
      rw [hslot, if_neg hne, hq.still.no_live j]
      exact Bool.false_ne_true
    rw [h.acceptOrder, List.filter_append, hold, List.nil_append, List.filter_cons, hslot, if_pos rfl]
    rfl
  · show isGreen u r.group = false
    rw [isGreen, hstate]
    exact hgreen
  · show u.mode = .normal
    rw [h.rest]
    exact hmode
  · show u.commit ≠ .waitingApply
    rw [h.rest]
    exact hq.commit
  · have hm' : tram u e = some m := hm
    by_cases he : e = 0
    · rw [he, h.own] at hm'
      cases hm'
      rfl
    · rw [h.others e he] at hm'
      cases hm'

theorem FirstCall.link_replied (h : FirstCall slt r (setSeen .tramnet s) u) (reply : Reply) :
    link (modLink .tramnet (repliedLink reply) u) .tramnet = repliedLink reply (link s .tramnet) := by
  have hlinks : u.links = (setSeen .tramnet s).links := by rw [h.rest]
  rw [link_modLink, if_pos rfl, link_congr hlinks, setSeen, link_modLink, if_pos rfl, repliedLink_setSeen]

/-- The request of a call ends with its record ACTIVE and waiting. -/
theorem takeRequest_called {params : List Byte} {owner : State → State × Reply} (h : Answerable .tramnet params s)
    (ho : owner (setSeen .tramnet s) = (u, plain .done)) (hfirst : FirstCall slt r (setSeen .tramnet s) u)
    (hq : Quiet s) (hmode : s.mode = .normal) (hgreen : isGreen s r.group = false)
    (hclaims : ∀ i, (grp s i).claim = none) (hprepare : ∀ i, (grp s i).state ≠ .prepare) (hlost : ∀ i, (grp s i).redLost = false) :
    Called.Claiming slt (callRecord r (setSeen .tramnet s)) r.group
      { modLink .tramnet (repliedLink (plain .done)) u with work := [] }
      (takeRequest .tramnet true params owner s) := by
  have hqueued := hfirst.callQueued ⟨hq.work, hq.records, hq.trams, hq.commit⟩ hmode hgreen hclaims hprepare hlost
    (repliedLink (plain .done))
  have hwork : u.work = [.arbiterExamine] := by
    rw [hfirst.work]
    exact congrArg (· ++ [Handoff.arbiterExamine]) h.work
  have hseen : (link u .tramnet).seen = true := by
    rw [hfirst.rest]
    simp [setSeen, link, modLink]
  rw [takeRequest_eq h ho hseen, superviseRestart, if_neg fun hc => nomatch hc.1]
  exact hqueued.settled hwork

/-- The junction after the request of a first tram that has called: the tram's record names its call, which is ACTIVE,
new in its id, and waits for the group that it claims (R36, R39, R45, R136). -/
structure CallAnswered (slt : SlotId) (q : TransRec) (r : TramRec) (s t : State) : Prop where
  reply : link t .tramnet = repliedLink (plain .done) (link s .tramnet)
  own : tram t 0 = some (called q.id r)
  others : ∀ k, k ≠ 0 → tram t k = none
  slot : Machine.slot t slt = some q
  fresh : ∀ j p, Machine.slot s j = some p → p.id ≠ q.id
  active : q.state = .active
  cls : q.cls = .tram
  origin : q.origin = .tram r.number r.approach
  call : q.tram = some { level := r.level, arrival := r.arrival }
  releases : ∀ i, inSet .release q i = decide (i = r.group)
  terminates : ∀ i, inSet .terminate q i = (conflicts s i r.group && inProceed s i)
  claim : (grp t r.group).claim = some { id := q.id, kind := .release }
  counted : look t.tramStats r.approach =
    { look s.tramStats r.approach with calls := satInc (look s.tramStats r.approach).calls }
  stats : ∀ b, b ≠ r.approach → look t.tramStats b = look s.tramStats b

/-- A first tram whose group is to be called, in a junction at rest (R136). -/
theorem callAnswered_takeRequest {params : List Byte} {owner : State → State × Reply} (h : Answerable .tramnet params s)
    (ho : owner (setSeen .tramnet s) = (evaluate 0 false (putTram 0 (some r) (setSeen .tramnet s)), plain .done))
    (hmust : mustObserve (setSeen .tramnet s) r = false) (hcall : r.transition = none) (hcalls : r.calls < 2)
    (hterm : (grp s r.group).pendingTerm = none) (hq : Quiet s) (hfinish : FinishLaw s) (hmode : s.mode = .normal)
    (hgreen : isGreen s r.group = false) (hclaims : ∀ i, (grp s i).claim = none)
    (hprepare : ∀ i, (grp s i).state ≠ .prepare) (hlost : ∀ i, (grp s i).redLost = false) :
    ∃ slt q, CallAnswered slt q r s (takeRequest .tramnet true params owner s) := by
  obtain ⟨slt, hfree⟩ := freeSlot_of_quiet hq hfinish
  have hfirst := firstCall_evaluate (s := setSeen .tramnet s) hq.trams hmust hgreen hcall (hprepare r.group) hcalls hterm
    hfree
  obtain ⟨hcalled, hclaim⟩ := takeRequest_called h ho hfirst hq hmode hgreen hclaims hprepare hlost
  obtain ⟨q, hslot, hsame, htram, hactive, -⟩ := hcalled.record
  have hid : q.id = nextId s := hsame.id
  have hsets := inSet_callRecord (s := setSeen .tramnet s) ⟨hq.work, hq.records, hq.trams, hq.commit⟩ hgreen
    (hprepare r.group)
  have hstats := hcalled.stats.trans hfirst.stats
  refine ⟨slt, q,
    { reply := hcalled.link.trans (hfirst.link_replied _)
      own := (tram_congr hcalled.trams 0).trans (hfirst.own.trans (by rw [hid]; rfl))
      others := fun k hk => (tram_congr hcalled.trams k).trans (hfirst.others k hk)
      slot := hslot
      fresh := fun j p hp hpq => ?_
      active := hactive
      cls := hsame.cls
      origin := hsame.origin
      call := htram
      releases := fun i => (hsame.sets _ i).trans (hsets i).1
      terminates := fun i => (hsame.sets _ i).trans (hsets i).2
      claim := by rw [hsame.id]; exact hclaim
      counted := by rw [hstats]; exact (look_put ..).trans (if_pos rfl)
      stats := fun b hb => by rw [hstats]; exact (look_put ..).trans (if_neg (Ne.symm hb)) }⟩
  have hheld : idHeld s (nextId s) = true := idHeld_eq_true.2 ⟨j, p, hp, hpq.trans hid⟩
  rw [idHeld_nextId] at hheld
  cases hheld

end

/-! ### The request -/

section
variable {k : EntryId} {q : Option TramRec} {gs : List GroupId} {params : List Byte} {owner : State → State × Reply}
  {s u : State}

/-- A check-in that writes one entry of the list and sets nothing off. -/
theorem takeRequest_written (h : Answerable .tramnet params s)
    (ho : owner (setSeen .tramnet s) = (u, plain .done)) (hu : EntryWritten k q gs (setSeen .tramnet s) u) :
    ∃ t, takeRequest .tramnet true params owner s = t ∧ link t .tramnet = repliedLink (plain .done) (link s .tramnet) ∧
      EntryChanged k q gs s t ∧ (∀ i, HoldFollows i u → HoldFollows i t) ∧
      t = { s with trams := t.trams, groups := t.groups, links := t.links } := by
  have hrest := hu.rest
  have hstats : u.tramStats = s.tramStats := by rw [hrest]; rfl
  have hanswered := takeRequest_tramnet h ho (by rw [hstats]; exact hrest)
  have hend := hanswered.rest
  rw [← hanswered.trams, ← hanswered.groups, hstats] at hend
  exact ⟨_, rfl, hanswered.own, (hu.entry.congr hanswered.trams hanswered.groups).of_eq rfl rfl,
    fun i hi => hi.congr hanswered.trams hanswered.groups, hend⟩

end

/-- Settles O35: the refusals, the record outside NORMAL, and the first tram in NORMAL, held or calling. -/
theorem tramCheckInMakesARecord : Obligations.TramCheckInMakesARecord := by
  intro n1 n0 line d1 d0 speed lateness a route s params number h hnumber hlate
  let c := requestCheckIn n1 n0 line d1 d0 speed lateness a route
  refine ⟨fun hroute => ?_, fun g hroute hnew hfull => ?_, fun g hroute hterm => ?_⟩
  · exact ⟨_, rfl, takeRequest_replied .tramnet params _ _ s s h (tramCheckInOwner_of_taken hnumber hlate
      (takeCheckIn_of_no_route (s := setSeen .tramnet s) (c := c) hroute)) h.work⟩
  · exact ⟨_, rfl, takeRequest_replied .tramnet params _ _ s s h (tramCheckInOwner_of_taken hnumber hlate
      (takeCheckIn_of_full (s := setSeen .tramnet s) (c := c) hroute hnew hfull)) h.work⟩
  intro v base level late arrival record answered
  have hlevel : tramLevel (cfg s) line (givenLateness lateness) = level := tramLevel_givenLateness (cfg s) line lateness
  have hrecord : ∀ st hold capped,
      record st hold capped = { newTram s c g with state := st, holdEnd := hold, capped := capped } := by
    intro st hold capped
    simp only [record, ← hlevel]
    rfl
  have hmust : s.mode = .normal → level ≠ 0 → (grp s g).inhibited = false → (grp s g).priorityInhibited = false →
      mustObserve (setSeen .tramnet s) (newTram s c g) = false := fun hmode hlevel0 hinh hpinh =>
    mustObserve_eq_false (s := setSeen .tramnet s) hmode (hlevel.trans_ne hlevel0) hinh hpinh
  refine ⟨fun k hnew hfree hmode => ?_, fun k r hlaw hk hn ha hmode hobserved hcall hold => ?_,
    fun hempty hmode hlevel0 hinh hpinh => ⟨fun green hgreen hstart => ?_,
      fun hgreen hrecords hfinish hclaims hprepare hlost hcommit => ?_⟩⟩
  · obtain ⟨u, htaken, hentry, hhold, hrest⟩ :=
      takeCheckIn_of_new (s := setSeen .tramnet s) (c := c) hroute hnew hfree hmode hterm
    obtain ⟨t, hexec, hlink, hchanged, hfollows, hend⟩ :=
      takeRequest_written h (tramCheckInOwner_of_taken hnumber hlate htaken) ⟨hentry, hrest⟩
    refine ⟨t, ⟨congrArg _ hexec, hlink⟩, ?_, hfollows g hhold, hend⟩
    rw [hrecord]
    exact hchanged
  · obtain ⟨hwritten, hholdnew, hholdold⟩ := entryWritten_updateTram (s := setSeen .tramnet s) (c := c) (g := g) hk
      hmode hobserved hcall hterm hold
    have htaken := takeCheckIn_of_listed (s := setSeen .tramnet s) (c := c) hroute hlaw hk hn ha
    obtain ⟨t, hexec, hlink, hchanged, hfollows, hend⟩ :=
      takeRequest_written h (tramCheckInOwner_of_taken hnumber hlate htaken) hwritten
    refine ⟨t, ⟨congrArg _ hexec, hlink⟩, hfollows g hholdnew, hfollows r.group hholdold, ?_, hend⟩
    simp only [← hlevel]
    exact hchanged
  · intro wanted cap hend held
    have hfirst := firstHeld_evaluate (s := setSeen .tramnet s) (r := newTram s c g) hempty rfl
      (hmust hmode hlevel0 hinh hpinh) hgreen hterm (holdEndOf_eq hstart)
    have hanswered := takeRequest_tramnet h (tramCheckInOwner_of_taken hnumber hlate
      (takeCheckIn_of_empty (s := setSeen .tramnet s) (c := c) hroute hempty)) hfirst.rest
    refine ⟨_, ⟨rfl, hanswered.own⟩, (tram_congr hanswered.trams 0).trans (hfirst.own.trans ?_),
      fun k hk => (tram_congr hanswered.trams k).trans (hfirst.others k hk),
      (grp_congr hanswered.groups g).trans hfirst.group,
      fun i hi => (grp_congr hanswered.groups i).trans (hfirst.groups i hi)⟩
    rw [hrecord]
    rfl
  · obtain ⟨k, q, hcalled⟩ := callAnswered_takeRequest (r := newTram s c g) h (tramCheckInOwner_of_taken hnumber hlate
      (takeCheckIn_of_empty (s := setSeen .tramnet s) (c := c) hroute hempty)) (hmust hmode hlevel0 hinh hpinh) rfl
      (by decide : 0 < 2) hterm ⟨h.work, hrecords, hempty, hcommit⟩ hfinish hmode hgreen hclaims hprepare hlost
    refine ⟨_, k, q, ⟨rfl, hcalled.reply⟩, hcalled.own.trans ?_, hcalled.others, hcalled.slot, hcalled.fresh,
      hcalled.active, hcalled.cls, hcalled.origin, hcalled.call.trans ?_, hcalled.releases, hcalled.terminates,
      hcalled.claim, hcalled.counted, hcalled.stats⟩
    · rw [hrecord]
      rfl
    · simp only [← hlevel]
      rfl

end Sys2Proof.Machine
end
